-- ==== Sys2Proof/Word.lean ====
section
/-! DEFINITION. The word types of the block and their plainest arithmetic. -/

namespace Sys2Proof

/-- A byte of any memory of the device. -/
abbrev Byte := BitVec 8

/-- A register value (every register is 32 bits wide, chapter 00 "Registers"). -/
abbrev Word := BitVec 32

end Sys2Proof
end

