-- ==== Sys2Proof/Config.lean ====
section
/-! DEFINITION. What the spec leaves open: free values and standard functions whose inside the model does not need.
Every constant here has no body, so no proof can lean on a value of it (assumption log 3 and 4). -/

namespace Sys2Proof

/-- A value the spec leaves undefined, unspecified or unstated. The argument is the plain counter `freeCtr` of the
device state, advanced at every use, so that two uses are unrelated. -/
opaque Config.freeWord : Nat → BitVec 32

/-- A bit the spec leaves undefined at a node of the fabric (R159): the first argument is the counter `freeCtr`, the second
the node. -/
opaque Config.freeBit : Nat → Nat → Bool

/-- SHA-384 (FIPS 180-4) of a byte string, as 48 bytes: a standard function, left uninterpreted. -/
opaque Config.sha384 : List (BitVec 8) → List (BitVec 8)

/-- ECDSA P-384 verification (FIPS 186) of a 96-byte signature over a digest under a public key. -/
opaque Config.ecdsaVerifyDigest : (key digest sig : List (BitVec 8)) → Bool

/-- ECDSA P-384 verification with SHA-384 of a signature over a message. -/
def Config.ecdsaVerify (key msg sig : List (BitVec 8)) : Bool := Config.ecdsaVerifyDigest key (Config.sha384 msg) sig

/-- ECDSA P-384 signature of a digest under the private key, with the nonce the DRBG gives at that use. -/
opaque Config.ecdsaSignDigest : (key digest : List (BitVec 8)) → Nat → List (BitVec 8)

/-- The P-384 public key (96 bytes) of a private key. -/
opaque Config.ecPublic : List (BitVec 8) → List (BitVec 8)

/-- The AES-256 counter mode of GCM (NIST SP 800-38D): it encrypts and, applied again, decrypts. -/
opaque Config.gcmCtr : (key iv text : List (BitVec 8)) → List (BitVec 8)

/-- The 16-byte AES-256-GCM tag of a cipher text. -/
opaque Config.gcmTag : (key iv aad cipher : List (BitVec 8)) → List (BitVec 8)

/-- The 48-byte x-coordinate of the ECDH shared point on P-384 of a private key and a public key (NIST SP 800-56A). -/
opaque Config.ecdh : (priv pub : List (BitVec 8)) → List (BitVec 8)

/-- ECDSA P-384 verification against a key known by the SHA-384 of its public key. -/
opaque Config.ecdsaVerifyHash : (keyHash msg sig : List (BitVec 8)) → Bool

/-- The certificate chain of slot 0, provisioned at manufacture. -/
opaque Config.certChain : List (BitVec 8)

/-- SHA-384 of the boot ROM. -/
opaque Config.bootRomHash : List (BitVec 8)

/-- The bytes of the DRBG at its n-th use. -/
opaque Config.drbg : Nat → Nat → List (BitVec 8)

end Sys2Proof
end

