-- ==== Sys2Proof/Syntax.lean ====
section
/-! DEFINITION. The commands of the block: one constructor per row of spec/opcode_table.json, with its operands. -/

namespace Sys2Proof

/-- A bus matrix transaction (R560): master, the TCID of its source (used for M8 and the ports; every other master carries the
TCID of R38), ID, address, direction, LOCK and LOCK_END, length, byte enables, data of a write, and whether its parity
or SECDED check finds an uncorrectable error on the way to the target (R585). -/
structure Txn where
  master  : Fin 9
  tcid    : Fin 64
  id      : Fin 16
  addr    : BitVec 40
  write   : Bool
  lock    : Bool
  lockEnd : Bool
  len     : Nat
  en      : List Bool
  data    : List Byte
  corrupt : Bool
  deriving DecidableEq, Repr

/-- What an inbound request is (R519, R520): a memory request, a locked or AtomicOp request to a memory address, or an I/O or Type 1
configuration request, which addresses no function. -/
inductive ReqKind where
  | mem | atomic | other
  deriving DecidableEq, Repr

/-- An inbound PCIe request (R510, R519): its kind, host address, direction, length, byte enables, data, tag, whether its TLP is
poisoned, and the TLP header as received, its first byte in the highest bits (R502). -/
structure MemReq where
  kind     : ReqKind
  addr     : BitVec 64
  write    : Bool
  len      : Nat
  en       : List Bool
  data     : List Byte
  tag      : Nat
  poisoned : Bool
  header   : BitVec 128
  deriving DecidableEq, Repr

/-- It is a memory request. -/
def MemReq.memory (q : MemReq) : Bool := q.kind == .mem

/-- The reset balls as power-on reset ends: PORST_N is high, WRST_N is low (R69, R87). -/
structure ResetBalls where
  porst   : Bool
  wrstLow : Bool
  deriving DecidableEq, Repr

/-- An instant of the edge grid, in REFCLK periods along the epoch count (R180, assumption log 60). -/
structure Instant where
  num : Nat
  den : Nat
  deriving DecidableEq, Repr

/-- A bank of I/O balls at an instant: the levels of the TURN strobes as logic on other clocks sees them, the levels at the balls that
something outside drives, and which balls those are (IOn_00 to IOn_31, GCKn_0, GCKn_1). -/
structure BankAt where
  instant : Instant
  turn    : BitVec 4
  pins    : BitVec 34
  drv     : BitVec 34
  deriving DecidableEq, Repr

/-- The commands. -/
inductive Instr where
  /-- REGISTER_WRITE (R10): A write to a register that has no row of its own takes effect under the register's access code. -/
  | registerWrite (tcid : Fin 64) (addr : BitVec 40) (data : Word)
  /-- POR_RELEASE (R87): Power-on reset ends: the device starts from its reset state, the straps are sampled and the OTP is read. -/
  | porRelease (smbAddr : Fin 4) (bootSel : Fin 4) (balls : ResetBalls) (supplies : Word) (classes : Word)
  /-- BROWN_OUT (R90): VCCINT or VCCAUX falls below its brown-out threshold, which acts as a power-on reset. -/
  | brownOut (aux : Bool)
  /-- RECALL_DONE (R649): A RECALL ends; channel S is served, the outcome flags are set and event 417 is raised. -/
  | recallDone
  /-- WARM_RESET (R931): A warm reset asserts and resets Heartwood, the matrix settings, the event hub, the loader, Scribe and both ports. -/
  | warmReset (pin : Bool)
  /-- WARM_RESET_END (R931): The warm reset hold ends; the boot ROM starts and both ports retrain. -/
  | warmResetEnd
  /-- DEV_RESET_CMD (R932): A write with key 0x5752 and WARM set requests a warm reset. -/
  | devResetCmd (data : Word)
  /-- PERST_ASSERT (R523): PERST# or an equivalent resets one port as the port reset reach table gives. -/
  | perstAssert (port : Fin 2)
  /-- PERST_DEASSERT (R503): PERST# deasserts and the port starts link training. -/
  | perstDeassert (port : Fin 2)
  /-- HOT_RESET (R523): A hot reset resets the port's functions and DMA channels. -/
  | hotReset (port : Fin 2)
  /-- LINK_DOWN (R523): The link goes down, which acts as a port reset. -/
  | linkDown (port : Fin 2)
  /-- LINK_UP (R503): The link reaches L0 after training. -/
  | linkUp (port : Fin 2) (speed : Fin 8) (width : Fin 16)
  /-- LINK_SPEED_CHANGE (R544): The link speed or width changes without the link going down. -/
  | linkSpeedChange (port : Fin 2) (speed : Fin 8) (width : Fin 16)
  /-- PF0_FLR (R523): A function-level reset of PF0 resets the port's configuration, MSI-X, DOE state and DMA channels. -/
  | pf0Flr (port : Fin 2)
  /-- VF_FLR (R524): A VF FLR stops the VF's channel, resets its MSI-X state, flushes the bound slot's mailboxes and makes a hold ready. -/
  | vfFlr (port : Fin 2) (vf : Nat)
  /-- VF_FLR_READY (R524): 1 ms after the FLR instant, the VF accepts requests again. -/
  | vfFlrReady (port : Fin 2) (vf : Nat)
  /-- VF_ENABLE_SET (R508): VF Enable is set and VFs 1 to NumVFs are enabled. -/
  | vfEnableSet (port : Fin 2)
  /-- VF_ENABLE_CLEARED (R523): VF Enable is cleared; the disabled VFs and their channels are reset. -/
  | vfEnableCleared (port : Fin 2)
  /-- TRST_N (R929): JTAG TRST_N or Test-Logic-Reset resets the TAP, releases M5 locks and leaves ISC mode. -/
  | trstN
  /-- SUPPLY_OUT_OF_WINDOW (R91): A supply leaves its monitor window, and the safety plane reacts at the scope the monitor table gives. -/
  | supplyOutOfWindow (supply : Fin 32)
  /-- SUPPLY_FALLING_ASSERTION (R90): A supply crosses its falling assertion threshold, holding off the domain, port, bank or VBAT domain it feeds. -/
  | supplyFallingAssertion (supply : Fin 32)
  /-- SUPPLY_RISING_RELEASE (R90): A supply crosses its rising release threshold, and the domain it gates is released. -/
  | supplyRisingRelease (supply : Fin 32)
  /-- POWER_FAIL_AUTOSTORE (R647): VCCAUX below 1.620 V or PFAIL_N low starts a power-fail STORE while autostore is enabled and armed. -/
  | powerFailAutostore
  /-- AUTOSTORE_ARM (R106): VHOLD crosses 1.750 V or 1.700 V, and autostore is armed or disarmed. -/
  | autostoreArm (armed : Bool)
  /-- REFCLK_LOSS (R104): REFCLK stops or leaves its range; every synthesiser loses lock and a slot clock fault is detected in each ON slot. -/
  | refclkLoss
  /-- REFCLK_RETURN (R185): REFCLK returns and the synthesisers relock on the continued epoch grid. -/
  | refclkReturn
  /-- OVER_TEMPERATURE (R108): The internal sensor reads 105 °C or more, and the device safe state is entered. -/
  | overTemperature (reading : BitVec 16)
  /-- TAMPER (R785): A TAMPER_N assertion latches TAMPERED and starts the tamper response. -/
  | tamper
  /-- TAMPER_RESPONSE_COMPLETE (R785): Every step of the tamper response has completed, and event 465 is raised. -/
  | tamperResponseComplete
  /-- WAKE (R911): A qualifying WAKE_N low during hibernate is latched to raise PSU_EN. -/
  | wake
  /-- TURN_TICK (R291): A TURN tick performs the ordered tick actions for every slot. -/
  | turnTick
  /-- TURN_IN_EDGE (R285): A rising edge on TURN_IN produces a tick under the TURN_IN source, or is ignored as early. -/
  | turnInEdge
  /-- TRIAL_REVERT (R432): TRIAL_LEFT reaching 0 makes a revert to the former plane pending. -/
  | trialRevert (slot : Fin 16)
  /-- IDLE_RETAIN (R904): IDLE_CNT reaching IDLE_TURNS puts the slot and its group into RETAIN at position 7. -/
  | idleRetain (slot : Fin 16)
  /-- VECTOR_AGE_EXPIRY (R848): A vector's age reaching TURNS makes its MSI-X message ready. -/
  | vectorAgeExpiry (port : Fin 2) (fn : Nat) (vec : Nat)
  /-- TICK_LOSS (R308): No tick within twice the period declares tick loss and the device safe state. -/
  | tickLoss
  /-- TURN_RUN (R281): Setting TURN_CTL.RUN starts the tick generator at edge E0. -/
  | turnRun
  /-- TURN_PERIOD_WRITE (R284): A write to TURN_PERIOD sets the length of later turns, or is refused when it is below 100. -/
  | turnPeriodWrite (data : Word)
  /-- TURN_SRC_WRITE (R288): A write to TURN_CTL.SRC changes the tick source at the next tick. -/
  | turnSrcWrite (src : Fin 4) (adopt : Bool)
  /-- TURN_COUNT_LO_READ (R313): A read of TURN_COUNT_LO latches TURN_COUNT_HI for the same TCID. -/
  | turnCountLoRead (tcid : Fin 64)
  /-- TURN_OVR_CLR (R1022): A write sets the selected overrun counts to 0. -/
  | turnOvrClr (data : Word)
  /-- MB_IN_PUSH (R526): The host pushes a copy of MB_IN_STAGE onto the inbound queue under the queue rule, which may wake a retained slot. -/
  | mbInPush (slot : Fin 16)
  /-- MB_OUT_POP (R527): The host pops the oldest visible outbound entry. -/
  | mbOutPop (slot : Fin 16)
  /-- IN_POP (R488): The fabric pops the inbound head at a mailbox clock edge. -/
  | inPop (slot : Fin 16)
  /-- OUT_PUSH (R488): The fabric pushes a copy of the outbound staging entry. -/
  | outPush (slot : Fin 16)
  /-- OUT_WE (R488): The fabric writes OUT_DATA into one word of the outbound staging entry. -/
  | outWe (slot : Fin 16)
  /-- USER_EVENT (R489): A user event output rising at a mailbox clock edge raises its slot event. -/
  | userEvent (slot : Fin 16)
  /-- HWD_QQ_PUSH (R740): A doorbell pushes a command onto a submission ring. -/
  | hwdQPush (q : Fin 3)
  /-- HWD_QQ_CPOP (R741): A doorbell pops a completion from a completion ring. -/
  | hwdQCpop (q : Fin 3)
  /-- COMMAND_TAKE (R742): Firmware takes the head command of a queue, subject to round robin, FENCE and completion room, and checks it. -/
  | commandTake
  /-- NOP (R746): NOP completes at once. -/
  | nop (cid : Nat)
  /-- GET_INFO (R746): Returns the identification, firmware version, SVN and permissions. -/
  | getInfo (cid : Nat)
  /-- SLOT_BIND (R464): Binds an EMPTY slot to a VF and grants its windows. -/
  | slotBind (cid : Nat)
  /-- SLOT_UNBIND (R470): Requests the unbind and sweep of a slot at the next tick. -/
  | slotUnbind (cid : Nat)
  /-- SLOT_LOAD (R413): Places a LOAD job that loads an image into the inactive planes of the target slots. -/
  | slotLoad (cid : Nat)
  /-- RESEED (R417): Places a RESEED job that copies the active plane's content frames into block memory. -/
  | reseed (cid : Nat)
  /-- READBACK (R435): Places a READBACK job that copies a plane's frames into Bench memory. -/
  | readback (cid : Nat)
  /-- SLOT_SWAP (R419): Arms an immediate or trial swap for every member. -/
  | slotSwap (cid : Nat)
  /-- SLOT_HOLD (R482): Requests a hold at position 5 of the next tick. -/
  | slotHold (cid : Nat)
  /-- SLOT_RESET (R483): Requests a slot reset at the next tick (SLOT_HOLD option 1). -/
  | slotReset (cid : Nat)
  /-- FAULT_CLEAR (R484): Requests a fault clear at the next tick (SLOT_HOLD option 2). -/
  | faultClear (cid : Nat)
  /-- SLOT_RELEASE (R482): Requests a release at position 5 of the next tick. -/
  | slotRelease (cid : Nat)
  /-- SLOT_POWER (R902): Requests a slot power-state change at position 7 of the next tick. -/
  | slotPower (cid : Nat)
  /-- GROUP_JOIN (R474): Joins slots into a pair or quad. -/
  | groupJoin (cid : Nat)
  /-- GROUP_SPLIT (R477): Splits a group and closes its chuck channels. -/
  | groupSplit (cid : Nat)
  /-- SLC_REQ_HOLD (R486): A write of OP 1 to SLC_REQ requests a hold. -/
  | slcReqHold (slot : Fin 16) (tcid : Fin 64)
  /-- SLC_REQ_RELEASE (R486): A write of OP 2 to SLC_REQ requests a release. -/
  | slcReqRelease (slot : Fin 16) (tcid : Fin 64)
  /-- SLC_REQ_SLOT_RESET (R486): A write of OP 3 to SLC_REQ requests a slot reset. -/
  | slcReqSlotReset (slot : Fin 16) (tcid : Fin 64)
  /-- SLC_REQ_FAULT_CLEAR (R486): A write of OP 4 to SLC_REQ by Heartwood requests a fault clear. -/
  | slcReqFaultClear (slot : Fin 16) (tcid : Fin 64)
  /-- CAPTURE (R809): Requests a capture of a slot or group into a state record. -/
  | capture (cid : Nat)
  /-- CAPTURE_READ_DONE (R814): The capture finishes reading and writes the header; event 507 is raised. -/
  | captureReadDone (cid : Nat)
  /-- RESTORE (R821): Checks a state record and writes it into the held target members. -/
  | restore (cid : Nat)
  /-- RESTORE_WRITE_DONE (R822): The restore finishes writing, with the mailbox written last, and its release becomes pending. -/
  | restoreWriteDone (cid : Nat)
  /-- RES_PROGRAM (R746): Programs a range of the resident store page by page. -/
  | resProgram (cid : Nat)
  /-- RES_ERASE (R746): Erases a range of sectors in ascending order. -/
  | resErase (cid : Nat)
  /-- RES_VERIFY (R746): Compares a resident store range with a Bench buffer. -/
  | resVerify (cid : Nat)
  /-- GRAIN_REC_WRITE (R667): Writes a journal record at the head, planing first where needed. -/
  | grainRecWrite (cid : Nat)
  /-- GRAIN_REC_READ (R672): Reads the live record of a key into Bench memory. -/
  | grainRecRead (cid : Nat)
  /-- GRAIN_STORE (R647): Requests a STORE of channel S. -/
  | grainStore (cid : Nat)
  /-- GRAIN_PLANE (R670): Runs planing of the Grain journal. -/
  | grainPlane (cid : Nat)
  /-- OP_KEY_SET (R776): Programs the next operator key hash field of the OTP. -/
  | opKeySet (cid : Nat) (verify : Bool)
  /-- LOCK_SET (R775): Programs lock bits into the three lock byte copies. -/
  | lockSet (cid : Nat) (verify : Bool)
  /-- TSK_IMPORT (R777): Unwraps and stores a tenant state key. -/
  | tskImport (cid : Nat) (verify : Bool)
  /-- ENDORSE_MIN (R772): Raises the minimum endorsement serial. -/
  | endorseMin (cid : Nat)
  /-- TSK_DESTROY (R778): Erases one tenant state key. -/
  | tskDestroy (cid : Nat) (verify : Bool)
  /-- TSK_DESTROY_ALL (R778): Erases all tenant state keys. -/
  | tskDestroyAll (cid : Nat) (verify : Bool)
  /-- DECOMMISSION (R778): Erases the IDK, the KAK and all tenant state keys permanently. -/
  | decommission (cid : Nat) (verify : Bool)
  /-- GET_CERT (R775): Returns the certificate chain. -/
  | getCert (cid : Nat)
  /-- GET_KA (R775): Returns the key-agreement key with its KEY_ID and an IDK signature. -/
  | getKa (cid : Nat)
  /-- QUOTE (R781): Writes a signed measurement quote. -/
  | quote (cid : Nat)
  /-- TURN_SET (R746): Writes the selected TURN_ fields. -/
  | turnSet (cid : Nat)
  /-- RING_CFG_SET (R887): Sets the ring address, flags and receive window, and records them in the journal. -/
  | ringCfgSet (cid : Nat)
  /-- RING_CFG_MEASURE (R887): Repeats the link delay measurement at once. -/
  | ringCfgMeasure (cid : Nat)
  /-- RING_SEND (R888): Sends a transfer to another ring device. -/
  | ringSend (cid : Nat)
  /-- HIBERNATE (R910): Runs the hibernate handshake up to the completion and the delayed PSU_EN fall. -/
  | hibernate (cid : Nat)
  /-- FW_UPDATE (R750): Checks, writes and selects a new firmware copy. -/
  | fwUpdate (cid : Nat)
  /-- ABORT (R748): Aborts a command named by queue and tag. -/
  | abort (cid : Nat)
  /-- LDR_JQ_PUSH (R410): A write pushes a job onto the loader job queue. -/
  | ldrJqPush
  /-- LOADER_JOB_TAKE (R410): The loader takes the next job from its queue and runs it. -/
  | loaderJobTake
  /-- LOAD_DONE (R413): After synthesiser lock, the loader sets VALID in each member and the job completes with 0x00. -/
  | loadDone (locked : Bool)
  /-- LDR_SWAP_REQ (R419): A write arms a swap for one slot after checking codes 0x30–0x34. -/
  | ldrSwapReq (data : Word)
  /-- SWAP_CANCEL (R457): A write with CANCEL cancels the armed swap of a slot. -/
  | swapCancel (slot : Fin 16)
  /-- FIRST_ACTIVATION_COPY_END (R429): A first-activation copy ends; swap done is raised and a deferred release may apply. -/
  | firstActivationCopyEnd (slot : Fin 16)
  /-- SCRUB_WORD_DECODE (R439): The scrub decodes the next word of its pass. -/
  | scrubWordDecode (slot : Fin 16)
  /-- CONFIG_UPSET (R379): An upset changes a stored configuration bit, which drives the fabric until it is rewritten. -/
  | configUpset (slot : Fin 16) (plane : Bool) (offset : BitVec 22) (bit : Fin 8)
  /-- SWEEP_COMPLETE (R472): The sweep's zeroing and verification end, and the slot becomes EMPTY. -/
  | sweepComplete (slot : Fin 16) (bad : Bool)
  /-- SCRIBE_FIRE (R799): A write of SCRIBE_CTL.FIRE makes a trigger. -/
  | scribeFire
  /-- SCRIBE_IO_TRIGGER (R799): A falling edge on SCRIBE_IO makes a trigger. -/
  | scribeIoTrigger
  /-- RING_TRIGGER (R806): A decoded ring trigger sequence makes a trigger in the mode it carries. -/
  | ringTrigger (dir : Fin 2) (src : Fin 16) (seq : BitVec 8) (aligned : Bool) (tick : BitVec 64) (chk : BitVec 8)
  /-- SNAPSHOT_LATCH (R803): Every snapshot register latches on the third REFCLK edge after an IMMEDIATE trigger. -/
  | snapshotLatch
  /-- SCRIBE_ACK (R808): A write clears UNREAD. -/
  | scribeAck
  /-- EVENT_DELIVERY (R843): The delivery engine delivers one latched event to its routes and coalescing counts. -/
  | eventDelivery
  /-- EVT_QQ_POP (R845): A write pops the head record of an event queue. -/
  | evtQPop (q : Fin 4)
  /-- MSIX_SEND (R515): A ready MSI-X message is sent once its vector is unmasked and the link allows it. -/
  | msixSend (port : Fin 2) (fn : Nat) (vec : Nat)
  /-- INBOUND_REQUEST (R510): An inbound PCIe memory request is translated and issued as matrix transactions, or answered with an error. -/
  | inboundRequest (port : Fin 2) (req : MemReq)
  /-- CONFIG_REQUEST (R503): A configuration request is served by the port hardware. -/
  | configRequest (port : Fin 2) (fn : Nat) (dw : Fin 1024) (write : Bool) (en : BitVec 4) (data : Word) (tag : Nat)
  /-- DOE_OBJECT (R516): A DOE data object is written to the PF0 mailbox. -/
  | doeObject (port : Fin 2) (dw : List Word)
  /-- DOE_ABORT (R516): A DOE Abort clears the mailbox. -/
  | doeAbort (port : Fin 2)
  /-- GET_VERSION (R518): The SPDM request GET_VERSION is answered. -/
  | getVersion (port : Fin 2)
  /-- GET_CAPABILITIES (R518): The SPDM request GET_CAPABILITIES is answered. -/
  | getCapabilities (port : Fin 2)
  /-- NEGOTIATE_ALGORITHMS (R518): The SPDM request NEGOTIATE_ALGORITHMS is answered. -/
  | negotiateAlgorithms (port : Fin 2)
  /-- GET_DIGESTS (R782): The SPDM request GET_DIGESTS is answered for slot 0. -/
  | getDigests (port : Fin 2)
  /-- GET_CERTIFICATE (R782): The SPDM request GET_CERTIFICATE is answered for slot 0. -/
  | getCertificate (port : Fin 2)
  /-- CHALLENGE (R782): The SPDM request CHALLENGE is answered with an IDK signature. -/
  | challenge (port : Fin 2)
  /-- GET_MEASUREMENTS (R782): The SPDM request GET_MEASUREMENTS returns the measurement blocks. -/
  | getMeasurements (port : Fin 2)
  /-- SPDM_UNSUPPORTED_REQUEST (R518): Any other SPDM request is answered with ERROR UnsupportedRequest. -/
  | spdmUnsupportedRequest (port : Fin 2)
  /-- DMA_COMPLETION_TIMEOUT (R521): A DMA read completion times out and is logged by the owning VF. -/
  | dmaCompletionTimeout (slot : Fin 16)
  /-- DMA_TAIL_WRITE (R531): A write to DMA_TAIL adds descriptors, which may activate the channel or wake a retained slot. -/
  | dmaTailWrite (slot : Fin 16) (data : Word)
  /-- DMA_DESCRIPTOR_FETCH (R532): An active channel reads and checks the descriptor at HEAD. -/
  | dmaDescriptorFetch (slot : Fin 16) (status : Nat) (data : List Byte)
  /-- DMA_CHUNK (R538): A channel issues a chunk once its tokens cover the cost. -/
  | dmaChunk (slot : Fin 16)
  /-- DMA_DESCRIPTOR_DONE (R532): After its data writes, the descriptor is written back and HEAD advances. -/
  | dmaDescriptorDone (slot : Fin 16)
  /-- DMA_RESUME (R534): A write of DMA_CTL.RESUME clears HALTED. -/
  | dmaResume (slot : Fin 16)
  /-- BM_PORT_OPERATION (R203): A block memory port reads or writes at its clock edge. -/
  | bmPortOperation (slot : Fin 16) (bm : Fin 16)
  /-- FIFO_OPERATION (R217): A hard FIFO serves a push and/or a pop under the queue rule. -/
  | fifoOperation (slot : Fin 16) (bm : Fin 16)
  /-- FCLR (R221): A FIFO clear empties the FIFO and clears its flags. -/
  | fclr (slot : Fin 16) (bm : Fin 16)
  /-- MATRIX_GRANT (R563): A target arbiter grants a queued transaction and judges it in the fixed order. -/
  | matrixGrant (target : Fin 8) (arrive : List Txn) (fault : Fin 3)
  /-- ARBITER_AGEING (R572): A transaction waiting 256 cycles at the head of its queue is raised to priority 16. -/
  | arbiterAgeing (target : Fin 8) (master : Fin 9)
  /-- LOCK_FORCED_RELEASE (R578): A lock held for 64 matrix cycles is released by force. -/
  | lockForcedRelease (target : Fin 8)
  /-- ACT_DENY_POP (R584): A write pops the head denial record. -/
  | actDenyPop
  /-- GETS (R617): A caching agent obtains a Bench line in S. -/
  | getS (agent : Fin 3) (line : BitVec 17) (long : Bool)
  /-- GETM (R617): A caching agent obtains a Bench line in M. -/
  | getM (agent : Fin 3) (line : BitVec 17) (long : Bool)
  /-- WRLINE (R614): An agent writes bytes of a Bench line in one ownership transfer. -/
  | wrLine (agent : Fin 3) (line : BitVec 17) (enables : BitVec 64) (data : BitVec 512) (long : Bool)
  /-- PUTM (R617): An agent writes back a line held in M. -/
  | putM (agent : Fin 3) (line : BitVec 17) (data : BitVec 512) (long : Bool)
  /-- PENDING_LINE_SERVICE (R622): A request waiting at a busy line is served when the line frees. -/
  | pendingLineService (line : BitVec 17)
  /-- BENCH_PATROL (R608): The patrol reads the next Bench word. -/
  | benchPatrol
  /-- BANK_SLEEP (R610): An idle Bench bank enters sleep after IDLE_US. -/
  | bankSleep (bank : Fin 8)
  /-- BENCH_ZEROING_DONE (R627): Bench zeroing ends and Bench memory reports ready. -/
  | benchZeroingDone
  /-- DCLINE (R730): The CSR write writes back and drops one D-cache line. -/
  | dcline (addr : Word) (data : BitVec 512)
  /-- DCALL (R730): The CSR write writes back and drops every D-cache line. -/
  | dcall (datas : List (BitVec 512))
  /-- BOOT (R735): The boot ROM checks the OTP, waits for the stores, chooses and checks a firmware copy, and jumps to it. -/
  | boot
  /-- COMMAND_READY (R736): Firmware reports command-ready and updates ROLLBACK. -/
  | commandReady
  /-- AUTOLOAD (R947): After ACT_RESTORED, firmware runs the autoload directory. -/
  | autoload
  /-- LOCKSTEP_MISMATCH (R974): A core mismatch enters the device safe state and asserts a warm reset of cause 7. -/
  | lockstepMismatch
  /-- STORE_CMD (R647): A write of GRN_STORE_CMD.STORE requests a STORE. -/
  | storeCmd (data : Word)
  /-- STORE_DONE (R645): A STORE closes its target bank and raises event 416. -/
  | storeDone
  /-- STORE_ARMED_TIMEOUT (R912): ARMED not reached within 100 ms abandons the hibernate or domain power-off STORE. -/
  | storeArmedTimeout
  /-- PAGE_WRITE (R653): A GO write starts a page write from GRN_PGBUF. -/
  | pageWrite (tcid : Fin 64) (data : Word)
  /-- PAGE_WRITE_DONE (R655): A page write ends and its code is recorded. -/
  | pageWriteDone
  /-- GRN_UNLOCK (R660): An unlock attempt compares a candidate with a region password. -/
  | grnUnlock (tcid : Fin 64) (ch : Fin 2) (region : Fin 8) (write : Bool)
  /-- RELOCK (R662): GRN_UNLOCK_CMD with RELOCK ends the named unlock. -/
  | relock (tcid : Fin 64) (ch : Fin 2) (region : Fin 8) (write : Bool)
  /-- RELOCK_ALL (R662): GRN_UNLOCK_CMD with ALL ends every unlock of the writer's TCID. -/
  | relockAll (tcid : Fin 64)
  /-- UNLOCK_TIMEOUT (R662): An unlock ends after MS milliseconds without an access. -/
  | unlockTimeout (tcid : Fin 64) (ch : Fin 2) (region : Fin 8) (write : Bool)
  /-- PW_SET (R663): A write of GRN_PW_SET sets a region password. -/
  | pwSet (tcid : Fin 64) (ch : Fin 2) (region : Fin 8) (write : Bool)
  /-- GRAIN_PATROL (R658): The patrol reads the next Grain group. -/
  | grainPatrol
  /-- PROGRAM (R692): RES_CMD OP 1 programs the bound page. -/
  | program
  /-- ERASE (R693): RES_CMD OP 2 records intent and erases a sector. -/
  | erase (sector : Fin 512)
  /-- BUF_CLEAR (R694): RES_CMD OP 3 empties the program buffer. -/
  | bufClear
  /-- PROGRAM_DONE (R692): A page program ends with verification and event 424. -/
  | programDone (ok : Bool)
  /-- ERASE_DONE (R693): An erase ends with CLEAN written, or fails TORN. -/
  | eraseDone (ok : Bool)
  /-- SUSPEND (R697): A read of the busy bank suspends the program or erase. -/
  | suspend
  /-- RESUME (R698): A suspended operation resumes after the quiet time or the maximum suspension. -/
  | resume
  /-- TORN_SCAN (R702): At start-up, the sector status table is scanned and TORN sectors are marked. -/
  | tornScan
  /-- EXTEST (R708): Boundary scan drives the balls from the register. -/
  | extest (levels : BitVec 1573) (cells : BitVec 1573)
  /-- SAMPLE_PRELOAD (R707): Samples the balls and preloads the boundary-scan register. -/
  | samplePreload (levels : BitVec 1573) (cells : BitVec 1573)
  /-- IDCODE (R706): Selects the identification register. -/
  | idcode
  /-- HIGHZ (R706): Puts every bank ball high-Z. -/
  | highz
  /-- CLAMP (R708): Drives the balls from the boundary-scan cells. -/
  | clamp
  /-- ISC_ENABLE (R710): Enters ISC mode. -/
  | iscEnable
  /-- ISC_DISABLE (R710): Leaves ISC mode. -/
  | iscDisable
  /-- ISC_NOOP (R706): No operation in ISC. -/
  | iscNoop
  /-- ISC_ADDRESS_SHIFT (R711): Loads the ISC byte address. -/
  | iscAddressShift (addr : BitVec 25)
  /-- ISC_DATA_SHIFT (R711): Loads 256 bytes of ISC data. -/
  | iscDataShift (data : BitVec 2048)
  /-- ISC_PROGRAM (R711): Programs the addressed page from the ISC data. -/
  | iscProgram
  /-- ISC_ERASE (R711): Erases the addressed sector. -/
  | iscErase
  /-- ISC_READ (R711): Reads 16 bytes at each Capture-DR. -/
  | iscRead
  /-- MATRIX_ACCESS (R713): Issues one 4-byte matrix transaction as M5. -/
  | matrixAccess (data : BitVec 80)
  /-- BYPASS (R706): Selects the bypass register. -/
  | bypass
  /-- WRITE (R752): The SMBus bridge writes DATA at ADDR. -/
  | smbWrite (bytes : List Byte) (pec : Option Byte)
  /-- READ_SETUP (R752): The SMBus bridge starts a read. -/
  | readSetup (bytes : List Byte) (pec : Option Byte)
  /-- READ (R753): Returns the status and data of the bridge read. -/
  | smbRead
  /-- LAST_STATUS (R752): Returns the response code of the last WRITE. -/
  | lastStatus
  /-- ALERT_RESPONSE (R756): The device answers the Alert Response Address. -/
  | alertResponse
  /-- SMBUS_TIMEOUT (R755): SCL held low beyond 25 ms resets the bridge interface. -/
  | smbusTimeout
  /-- HASH (R797): The engine computes SHA-384 of the source. -/
  | hash (tcid : Fin 64)
  /-- VERIFY (R797): The engine verifies a signature. -/
  | verify (tcid : Fin 64)
  /-- UNWRAP_IMAGE (R352): The engine unwraps a content key to the loader. -/
  | unwrapImage (tcid : Fin 64)
  /-- SIGN_ID (R797): The engine signs a digest with the IDK. -/
  | signId (tcid : Fin 64)
  /-- RANDOM (R797): The engine returns DRBG bytes. -/
  | random (tcid : Fin 64)
  /-- UNWRAP_TSK (R777): The engine unwraps a tenant state key. -/
  | unwrapTsk (tcid : Fin 64)
  /-- RECORD_KEY (R773): The engine derives a record key onto the Scribe path. -/
  | recordKey (tcid : Fin 64)
  /-- ENGINE_ERASE (R778): The engine erases one TSK, all TSKs, or decommissions. -/
  | engineErase (tcid : Fin 64)
  /-- DOMAIN_POWER_OFF (R898): A PWR_DOM_CTL bit written 1 requests power-off of a domain. -/
  | domainPowerOff (tcid : Fin 64) (domain : Fin 6)
  /-- DOMAIN_POWER_ON (R899): A PWR_DOM_CTL bit written 0 powers a domain on. -/
  | domainPowerOn (tcid : Fin 64) (domain : Fin 6)
  /-- DOMAIN_OFF_DONE (R898): A domain powers off once its conditions hold. -/
  | domainOffDone (domain : Fin 6)
  /-- DOZE_ENTRY (R900): The DOZE conditions held for 10 µs stop the management clocks. -/
  | dozeEntry
  /-- DOZE_EXIT (R900): A request or condition change returns the device to RUN. -/
  | dozeExit
  /-- SYNTH_RELOCK_DONE (R906): On return to ON, the synthesisers have locked and the outputs run from the next tick. -/
  | synthRelockDone (slot : Fin 16)
  /-- HIBERNATE_PSU_OFF (R910): After DELAY_MS, the hibernate latch is set and PSU_EN goes low. -/
  | hibernatePsuOff
  /-- PSU_EN_RISE (R911): At the later of MIN_OFF_MS and a latched wake, PSU_EN rises. -/
  | psuEnRise
  /-- SLOT_CLOCK_FAULT (R967): A monitored synthesiser is unlocked or out of range. -/
  | slotClockFault (slot : Fin 16) (outputs : BitVec 4)
  /-- SELFTEST (R972): The start-up self-test of the safety mechanisms runs from POR release. -/
  | selftest
  /-- SELFTEST_DONE (R972): The self-test completes and its pass bits are set. -/
  | selftestDone (pass : BitVec 8)
  /-- SAFE_N_RELEASE (R969): SAFE_N is released when no condition holds and the 100 µs minimum has passed. -/
  | safeNRelease
  /-- SAFE_N_READBACK (R965): The ball reading high for 2 µs while driven low signals a readback failure. -/
  | safeNReadback
  /-- SAFE_RELEASE (R970): A write of SAFE_CTL.RELEASE arms SAFE_N release. -/
  | safeRelease (tcid : Fin 64)
  /-- DSS_CLEAR (R975): A write of SAFE_CTL.DSS_CLEAR ends the device safe state when no blocking cause is active. -/
  | dssClear (tcid : Fin 64)
  /-- INJECT_CHUCK (R984): MECH 1 injects a chuck cell comparison failure. -/
  | injectChuck (tcid : Fin 64) (slot : Fin 16)
  /-- INJECT_CLOCK (R984): MECH 2 injects a slot clock fault. -/
  | injectClock (tcid : Fin 64) (slot : Fin 16)
  /-- INJECT_TICK (R984): MECH 3 injects tick loss. -/
  | injectTick (tcid : Fin 64)
  /-- INJECT_LOCKSTEP (R984): MECH 4 injects a core output mismatch. -/
  | injectLockstep (tcid : Fin 64)
  /-- INJECT_MATRIX (R984): MECH 5 injects a parity error into the next M3 transaction. -/
  | injectMatrix (tcid : Fin 64)
  /-- INJECT_SUPPLY_IO (R984): MECH 6 injects a VCCIO window fault. -/
  | injectSupplyIo (tcid : Fin 64) (slot : Fin 16)
  /-- INJECT_TEMP (R984): MECH 7 injects over-temperature. -/
  | injectTemp (tcid : Fin 64)
  /-- INJECT_BENCH_ECC (R984): MECH 8 stores a two-bit error in the next full-word Bench write. -/
  | injectBenchEcc (tcid : Fin 64)
  /-- INJECT_SAFE_N_RB (R984): MECH 9 injects a SAFE_N readback failure. -/
  | injectSafeNRb (tcid : Fin 64)
  /-- RING_SLOT_RECEIVE (R873): A ring slot is received, updated and forwarded. -/
  | ringSlotReceive (dir : Fin 2) (symbols : List Byte)
  /-- RING_DIRECTION_BROKEN (R872): No valid slot for 3.072 µs makes the device origin with HEAD set. -/
  | ringDirectionBroken (dir : Fin 2)
  /-- TICK_MARKER_EMIT (R878): The master emits a tick marker about 1 µs before the tick. -/
  | tickMarkerEmit (due : BitVec 16)
  /-- TICK_MARKER_RECEIVE (R881): A follower places its tick from a received marker and forwards it. -/
  | tickMarkerReceive (dir : Fin 2) (src : Fin 16) (turn : BitVec 64) (due : BitVec 16) (chk : BitVec 8) (phase : Fin 80) (held : Nat)
  /-- MARKER_MISSED (R881): No marker arrives before the turn's instant, and no tick is performed. -/
  | markerMissed
  /-- ECHO_MEASURE (R880): Every 100 ms, the flight time of each input lane is measured. -/
  | echoMeasure (dir : Fin 2) (flight : Nat) (up : Bool)
  /-- FRAGMENT_RECEIVE (R885): The receiver accepts or discards a data fragment and acks it. -/
  | fragmentReceive
  /-- ACK_RECEIVE (R886): The sender advances or restarts from NEXT. -/
  | ackReceive
  /-- RETRANSMIT_TIMEOUT (R886): No progress for 50 µs restarts sending; eight timeouts fail the transfer. -/
  | retransmitTimeout (xfer : BitVec 16)
  /-- RING_RX_DONE (R885): A write marks the transfer copied and sends the final ack. -/
  | ringRxDone (data : Word)
  /-- RING_TXQ_PUSH (R895): A write pushes the next transmit entry. -/
  | ringTxqPush
  /-- RING_RXQ_POP (R895): A write pops the receive head. -/
  | ringRxqPop
  /-- PORST_N_ASSERT (R88): A low level on PORST_N of 1 µs or more puts the whole device into power-on reset. -/
  | porstNAssert
  /-- POWER_FAIL_END (R648): The power-fail cause ends once VCCAUX is above 1.660 V and PFAIL_N has been high for 1 µs; channel S writes are served again and a later power-fail STORE may start. -/
  | powerFailEnd
  /-- SUPPLY_IN_WINDOW (R968): A supply returns into its monitor window and its SUPPLY cause stops being active in SAFE_ACTIVE. -/
  | supplyInWindow (supply : Fin 32) (vclass : Fin 4)
  /-- TEMPERATURE_RECOVERED (R968): The internal sensor reading falls below 100 °C and the TEMP cause stops being active. -/
  | temperatureRecovered (reading : BitVec 16)
  /-- DONE_AND_HEALTHY_LATCH (R295): An edge of the TURN_CLKSEL output at which TURN_DONE or HEALTHY reads 1 sets the slot's done or healthy latch for the turn. -/
  | doneAndHealthyLatch (slot : Fin 16)
  /-- ACTIVE_CLOCK_EDGE (R130): At an active clock edge, a macrocell storage element takes, toggles or keeps its value according to MODE and the clock enable. -/
  | activeClockEdge (instant : Instant) (fall turn : BitVec 64) (pins drv : BitVec 544)
  /-- PRESET_OR_CLEAR (R133): A product term with the PSET or PCLR role reads 1 and forces the storage element to 1 or 0 asynchronously. -/
  | presetOrClear (slot : Fin 16) (bank : BankAt)
  /-- DDR_REGISTER_EDGE (R252): An edge of a pair's DDR clock, slot clock or GCK input captures into, or launches from, its DDR registers. -/
  | ddrRegisterEdge (slot : Fin 16) (clk : Fin 6) (rise : Bool) (bank : BankAt)
  /-- LOADER_JOB_END (R417): A RESEED or READBACK job finishes its copy, records its code and tag, and ends, raising load done for a reseed. -/
  | loaderJobEnd
  /-- ENGINE_OPERATION_DONE (R797): A security engine operation ends, clearing ENG_STATUS.BUSY and recording its RESULT. -/
  | engineOperationDone (verify : Bool)
  /-- COMPLETION_RECEIVED (R521): A completion TLP arrives for a DMA read and its data is moved, or it is logged as poisoned or unexpected, or is discarded after a channel reset. -/
  | completionReceived (port : Fin 2) (fn : Nat) (status : Nat) (data : List Byte)
  /-- DATA_LINK_ERROR (R521): A receiver, bad TLP, bad DLLP, replay timer or replay rollover error is detected and logged in AER by PF0. -/
  | dataLinkError (port : Fin 2) (kind : Fin 5)
  /-- ASPM_STATE_CHANGE (R502): A port's link enters or leaves L0s, L1 or an L1 PM substate. -/
  | aspmStateChange (port : Fin 2) (state : Fin 5)
  /-- FUNCTION_READY (R940): AON, GRAIN_D or the key store read becomes ready after POR release, and its DEV_READY bit sets. -/
  | functionReady (function : Fin 3)
  deriving DecidableEq, Repr

end Sys2Proof
end

