-- ==== Sys2Proof/Machine/Ops.lean ====
section
/-! DEFINITION. The shared operations below the state: sparse canonical maps, bit fields of numbers, and byte strings. -/

namespace Sys2Proof.Machine

/-! ### Sparse maps in canonical form

A map from numbers to values is a list of pairs with strictly rising keys that lists no key whose value is the default,
so that equal maps are equal lists. -/

/-- The value at key `k`: the listed one, else the default `d k`. -/
def Sparse.get {α : Type} (d : Nat → α) : List (Nat × α) → Nat → α
  | [], k => d k
  | (a, v) :: t, k => if a = k then v else Sparse.get d t k

/-- The list without key `k`. -/
def Sparse.erase {α : Type} : List (Nat × α) → Nat → List (Nat × α)
  | [], _ => []
  | (a, v) :: t, k => if a = k then Sparse.erase t k else (a, v) :: Sparse.erase t k

/-- The list with `v` at key `k`, at its place in the rising order. -/
def Sparse.put {α : Type} : List (Nat × α) → Nat → α → List (Nat × α)
  | [], k, v => [(k, v)]
  | (a, w) :: t, k, v =>
    if a = k then (k, v) :: t
    else if k < a then (k, v) :: (a, w) :: t
    else (a, w) :: Sparse.put t k v

/-- Write `v` at key `k`; a key that would hold its default is not listed. -/
def Sparse.set {α : Type} [DecidableEq α] (d : Nat → α) (m : List (Nat × α)) (k : Nat) (v : α) : List (Nat × α) :=
  if v = d k then Sparse.erase m k else Sparse.put m k v

/-- The canonical form: keys strictly rising, and no listed value equal to its key's default. -/
def Sparse.wf {α : Type} [DecidableEq α] (d : Nat → α) : List (Nat × α) → Bool
  | [] => true
  | [(a, v)] => decide (v ≠ d a)
  | (a, v) :: (b, w) :: t => decide (v ≠ d a) && decide (a < b) && Sparse.wf d ((b, w) :: t)

/-- Return every key of `[lo, lo + len)` to its default. -/
def Sparse.clear {α : Type} (m : List (Nat × α)) (lo len : Nat) : List (Nat × α) :=
  m.filter fun c => !(decide (lo ≤ c.1) && decide (c.1 < lo + len))

/-! ### Bit fields of numbers -/

/-- The `w` bits of `v` from bit `lo` up. -/
def bitsOf (v lo w : Nat) : Nat := (v / 2 ^ lo) % 2 ^ w

/-- `v` with its `w` bits from bit `lo` up replaced by the low bits of `x`. -/
def withBits (v lo w x : Nat) : Nat := v - bitsOf v lo w * 2 ^ lo + (x % 2 ^ w) * 2 ^ lo

/-- Bit `i` of `v`. -/
def bitOf (v i : Nat) : Bool := (v / 2 ^ i) % 2 == 1

/-- 1 for true, 0 for false. -/
def natOf (b : Bool) : Nat := if b then 1 else 0

/-- `v` with bit `i` set to `b`. -/
def withBit (v i : Nat) (b : Bool) : Nat := withBits v i 1 (natOf b)

/-- The number whose bits are those of the list, the head at bit 0. -/
def ofBits : List Bool → Nat
  | [] => 0
  | b :: t => natOf b + 2 * ofBits t

/-- The low `n` bits of `v`, bit 0 first. -/
def toBits (n v : Nat) : List Bool := (List.range n).map (bitOf v)

/-- Saturating increment of a counter whose largest value is `top`. -/
def satInc (top v : Nat) : Nat := if v < top then v + 1 else v

/-- Bitwise exclusive or, and, or of numbers are the library's; `popParity` is the parity of the low `n` bits. -/
def popParity (n v : Nat) : Bool := (toBits n v).foldl (fun a b => a != b) false

/-! ### Little-endian byte strings (R4) -/

/-- The value of a little-endian byte string. -/
def leOf : List (BitVec 8) → Nat
  | [] => 0
  | b :: t => b.toNat + 256 * leOf t

/-- The `n` little-endian bytes of a number. -/
def leBytes : Nat → Nat → List (BitVec 8)
  | 0, _ => []
  | n + 1, v => BitVec.ofNat 8 v :: leBytes n (v / 256)

/-- The little-endian field of `n` bytes at offset `o` of a byte string. -/
def leAt (bs : List (BitVec 8)) (o n : Nat) : Nat := leOf ((bs.drop o).take n)

/-- A byte string cut or zero-extended to length `n`. -/
def padTo (n : Nat) (bs : List (BitVec 8)) : List (BitVec 8) := (bs ++ List.replicate n 0).take n

/-- `f` applied for `i = 0, 1, …, n − 1` in turn. -/
def iter {α : Type} (n : Nat) (f : Nat → α → α) (a : α) : α := (List.range n).foldl (fun x i => f i x) a

/-- The first `i < n` with `p i`. -/
def firstIdx (n : Nat) (p : Nat → Bool) : Option Nat := (List.range n).find? p

/-- Replace element `i` of a list by `f` of it. -/
def listMod {α : Type} (l : List α) (i : Nat) (f : α → α) : List α :=
  match l, i with
  | [], _ => []
  | a :: t, 0 => f a :: t
  | a :: t, i + 1 => a :: listMod t i f

end Sys2Proof.Machine
end

