-- ==== Sys2Proof/Machine/Codes.lean ====
section
/-! DEFINITION. Check codes: the (72,64) SECDED code of R377 and R378, CRC-32C (R4, chapter 00 standards), and the ring's
CRC codes (chapter 22). -/

namespace Sys2Proof.Machine

/-! ### SECDED (R377, R378) -/

/-- The code position of data bit `i` of a 64-bit word ("The check code"). -/
def dataPos (i : Nat) : Nat :=
  if i = 0 then 3 else if i < 4 then i + 4 else if i < 11 then i + 5 else if i < 26 then i + 6
  else if i < 57 then i + 7 else i + 8

/-- The data bit at a code position, if the position holds one. -/
def posData (p : Nat) : Option Nat := (List.range 64).find? fun i => dataPos i = p

/-- The exclusive or of the code positions of the set data bits: bits 0 to 6 are c0 to c6 (R377). -/
def hamming (w : Nat) : Nat :=
  (List.range 64).foldl (fun a i => if bitOf w i then Nat.xor a (dataPos i) else a) 0

/-- The check byte of a 64-bit word (R377). -/
def checkByte (w : Nat) : Nat :=
  hamming w + 128 * natOf (popParity 64 w != popParity 7 (hamming w))

/-- The syndrome s of stored data and check byte (R378). -/
def eccS (w c : Nat) : Nat := Nat.xor (c % 128) (hamming w)

/-- The parity p of the 72 stored bits (R378). -/
def eccP (w c : Nat) : Bool := popParity 64 w != popParity 8 c

/-- The outcomes of the "Decode outcomes" table. -/
inductive Ecc where
  | clean
  | corrected (word : Nat)
  | uncorrectable
  deriving DecidableEq, Repr

/-- Decode a stored word (R378); the corrected word carries the data as corrected. -/
def eccDecode (w c : Nat) : Ecc :=
  if eccP w c then
    if eccS w c = 0 then .corrected w
    else if eccS w c ≤ 71 then
      match posData (eccS w c) with
      | some i => .corrected (withBit w i (!bitOf w i))
      | none => .corrected w
    else .uncorrectable
  else if eccS w c = 0 then .clean else .uncorrectable

/-- The data a decode yields, as corrected or, where uncorrectable, as stored. -/
def eccData (w c : Nat) : Nat := match eccDecode w c with | .corrected v => v | _ => w

/-! ### CRC -/

/-- One byte of a reflected CRC of 32 bits with polynomial `poly` (reflected). -/
def crcByteR (poly crc b : Nat) : Nat :=
  iter 8 (fun _ c => if c % 2 = 1 then Nat.xor (c / 2) poly else c / 2) (Nat.xor crc b)

/-- CRC-32C of a byte string: polynomial 0x1EDC_6F41 in its usual reflected form with initial value and final
exclusive or of all ones (PRESUMED, assumption log 5). -/
def crc32c (bs : List (BitVec 8)) : Nat :=
  Nat.xor 0xFFFFFFFF (bs.foldl (fun c b => crcByteR 0x82F63B78 c b.toNat) 0xFFFFFFFF)

/-- One bit of a most-significant-bit-first CRC of `w` bits. -/
def crcBit (w poly crc : Nat) (b : Bool) : Nat :=
  if bitOf crc (w - 1) != b then Nat.xor ((crc * 2) % 2 ^ w) poly else (crc * 2) % 2 ^ w

/-- CRC of `w` bits over a byte string, most significant bit of each byte first. -/
def crcMsb (w poly start : Nat) (bs : List (BitVec 8)) : Nat :=
  bs.foldl (fun c b => (List.range 8).foldl (fun c i => crcBit w poly c (bitOf b.toNat (7 - i))) c) start

end Sys2Proof.Machine
end

