-- ==== Sys2Proof/Machine/State.lean ====
section
/-! DEFINITION. The state of the block as plain data: memories, registers, and the hidden state of every unit. -/

namespace Sys2Proof.Machine

/-! ### Slots (chapters 04 to 08, 12, 23) -/

/-- The slot states of the "Slot states" table (R462). -/
inductive SlotState where
  | empty | bound | loaded | running | held | faulted | sweeping
  deriving DecidableEq, Repr

/-- The slot power states (R901). -/
inductive SlotPower where
  | on | retain | off
  deriving DecidableEq, Repr

/-- The requests for position 5 of a tick (R482 to R484, R470). -/
inductive Req5 where
  | hold | release | slotReset | faultClear | unbind
  deriving DecidableEq, Repr

/-- A pending position 5 request: what it asks, the Heartwood command it belongs to (none: SLC_REQ, or a split), and the slot it
names. -/
structure Pend5 where
  req  : Req5
  cid  : Option Nat
  slot : Fin 16
  deriving DecidableEq, Repr

/-- An armed swap (R419): trial or immediate, STATE, TRIAL_TURNS and the command that armed it. -/
structure Swap where
  trial  : Bool
  reinit : Bool
  turns  : Nat
  cid    : Option Nat
  deriving DecidableEq, Repr

/-- A trial in progress (R430): its STATE, the turns left, and whether its revert waits for position 3 (R432, R449). -/
structure Trial where
  reinit : Bool
  left   : Nat
  revert : Bool
  deriving DecidableEq, Repr

/-- A pending slot power change of position 7 (R902): the target state and its command. -/
structure Pend7 where
  dst : SlotPower
  cid : Option Nat
  deriving DecidableEq, Repr

/-- The mailbox queues of a slot (R302, R488): entries oldest first, visible counts, the fabric staging entry, and what
the last mailbox clock edge left. -/
structure Mailbox where
  inq      : List (BitVec 512)
  inVis    : Nat
  outq     : List (BitVec 512)
  outVis   : Nat
  outStage : BitVec 512
  inWidx   : BitVec 5
  userPrev : BitVec 8
  userOld  : BitVec 8
  deriving DecidableEq, Repr

/-- The controller state of one block memory beside its array (R210, R217; "Block memory state" table): read stages of
both ports, FIFO depth and indexes, and the first stage that a hold keeps. -/
structure BmCtl where
  a1    : BitVec 64
  a2    : BitVec 64
  b1    : BitVec 64
  b2    : BitVec 64
  depth : Nat
  head  : Nat
  tail  : Nat
  deriving DecidableEq, Repr

/-- A slot clock unit (R177 to R185): which synthesisers of each plane are locked, which outputs are out of range, the
outputs the monitor watches (R967, R1029), and the outputs held until the relock of R906. -/
structure ClockUnit where
  lockA     : BitVec 4
  lockB     : BitVec 4
  rangeErr  : BitVec 4
  monitored : BitVec 4
  syncWait  : Bool
  deriving DecidableEq, Repr

/-- What the fabric of a slot reads at an instant: storage elements, the levels of SCLK0 to SCLK3, block memory read lines
(64 per memory), slot control inputs, the levels that balls show while the device does not drive them, the balls that something
outside drives, and DDR registers with the fall values presented at sources 640 + 2k + 1 (R252). -/
structure FabView where
  mc      : BitVec 2048
  high    : BitVec 4
  lines   : BitVec 1024
  ctrl    : BitVec 28
  pins    : BitVec 34
  drv     : BitVec 34
  ddr     : BitVec 64
  ddrFall : BitVec 16
  deriving DecidableEq, Repr

/-- A block memory port edge that waits to be served: memory, port (0 A, 1 B), the input pins as the edge found them (port A's 58, then
port B's), and the instant of the edge as a fraction of REFCLK periods along the epoch count (R180). -/
structure BmDue where
  mem  : Nat
  port : Nat
  pins : BitVec 116
  num  : Nat
  den  : Nat
  deriving DecidableEq, Repr

/-- What slot clock edges call for and has not yet been served: mailbox actions (OUT_WE, OUT_PUSH, IN_POP, user events) with OUT_WIDX and
OUT_DATA as sampled, block memory port edges, the done and healthy latches that are to be set, and the slot control inputs that change
after a mailbox clock edge (R487). -/
structure DueOps where
  mail : BitVec 4
  word : BitVec 21
  bm   : List BmDue
  done : Bool
  healthy : Bool
  ctrl : Bool
  deriving DecidableEq, Repr

/-- A DMA channel beside its registers (R532): 0 no descriptor, 2 moving data, 3 waiting for a host read, 4 all data
moved, 5 read data that waits for a capture or restore to leave the block memory (R230); the descriptor, the bytes moved, the length
of the chunk in flight, and the data that wait. -/
structure DmaChan where
  stage : Nat
  desc  : List Byte
  moved : Nat
  len   : Nat
  data  : List Byte
  deriving DecidableEq, Repr

/-- What the 5.0 ns after a tick instant are for a slot: nothing special, a swap cycle (R422), a slot reset (R483), a swap cycle with a slot
reset, or, inside the tick alone, a start whose product-term clocks show no edge (R150). -/
inductive SlotCycle where
  | idle | swap | reset | swapReset | start
  deriving DecidableEq, Repr

/-- One slot: its place in the state machine, its pending requests, its fabric storage and its mailbox. -/
structure Slot where
  st        : SlotState
  power     : SlotPower
  binding   : Option (Fin 2 × Nat)
  gkind     : Nat
  gmember   : Nat
  active    : Bool
  pend5     : Option Pend5
  resume5   : Bool
  swap      : Option Swap
  trial     : Option Trial
  pend7     : Option Pend7
  flrHold   : Bool
  copying   : Option (Bool × Option Nat)
  sweepCmd  : Option Nat
  sweepTry  : Nat
  bindOn    : Bool
  emptyOff  : Bool
  checked   : Bool
  done      : Bool
  healthy   : Bool
  overran   : Bool
  skipped   : Bool
  resumed   : Bool
  restored  : Bool
  slotEn    : Bool
  strobe    : BitVec 4
  idleBreak : Bool
  poweredTurn : Bool
  wakeAuto  : Bool
  idleAuto  : Bool
  clk       : ClockUnit
  mc        : BitVec 2048
  ptPrev    : BitVec 2048
  clkHigh   : BitVec 4
  cyc       : SlotCycle
  fresh     : BitVec 4
  ddr       : BitVec 64
  ddrFall   : BitVec 16
  ddrLow    : BitVec 16
  pinIn     : BitVec 34
  pinDrv    : BitVec 34
  keeper    : BitVec 32
  ctrlReg   : BitVec 24
  turnLev   : BitVec 4
  pre       : FabView
  due       : DueOps
  chan      : DmaChan
  holdPins  : BitVec 64
  holdH     : BitVec 64
  holdV     : BitVec 64
  mb        : Mailbox
  bm        : Vector BmCtl 16
  deriving DecidableEq, Repr

/-! ### Event hub (chapter 21) -/

/-- A set raise latch (R843, R844): event, syndrome, turn, the route in force at the raise, and the merge count. -/
structure RaiseLatch where
  event : Nat
  syn   : BitVec 64
  turn  : BitVec 32
  route : BitVec 32
  merge : Nat
  deriving DecidableEq, Repr

/-- A record of an event queue (R845). -/
structure EvtRecord where
  event : Nat
  merge : Nat
  syn   : BitVec 64
  turn  : BitVec 32
  deriving DecidableEq, Repr

/-! ### Outputs -/

/-- What leaves the block during one command: balls, links, completions and responses. -/
inductive Out where
  /-- TURN_OUT pulses for 80 ns (R289). -/
  | turnOut
  /-- SCRIBE_IO is driven low for 100 ns (R801). -/
  | scribeIo
  /-- A ring trigger sequence with its mode, tick number and SEQ (R802, R882). -/
  | ringTrigger (aligned : Bool) (tick seq : Nat)
  /-- The response to a register access: a response code of R564 and the read data. -/
  | resp (code data : Nat)
  /-- A posted write to host memory by a function of a port (MSI-X, DMA). -/
  | hostWrite (port : Fin 2) (fn addr : Nat) (data : List Byte)
  /-- A memory read request to host memory by a function of a port (DMA). -/
  | hostRead (port : Fin 2) (fn addr len : Nat)
  /-- A PCIe completion: status 0 SC, 1 UR, 4 CA, and its data. -/
  | completion (port : Fin 2) (fn tag status : Nat) (data : List Byte)
  /-- An error message on the link: 0 ERR_COR, 1 ERR_NONFATAL, 2 ERR_FATAL. -/
  | errMessage (port : Fin 2) (fn severity : Nat)
  /-- A DOE data object placed in the read mailbox of a port. -/
  | doeObject (port : Fin 2) (dw : List Word)
  /-- Bytes the SMBus bridge returns. -/
  | smbus (data : List Byte)
  /-- The SMBus bridge does not acknowledge. -/
  | smbusNack
  /-- A value captured for shift-out at TDO. -/
  | tdo (bits value : Nat)
  /-- A ring slot, marker or trigger sequence sent in a direction (0 E, 1 W). -/
  | ringSend (dir : Fin 2) (symbols : List Nat)
  /-- The response of a matrix transaction to its master: code and data. -/
  | matrix (master code : Nat) (data : List Byte)
  deriving DecidableEq, Repr

/-! ### Heartwood (chapter 18) -/

/-- A command taken by firmware and not yet completed (R741, R742): its serial number, queue, ring index, the 64 bytes
of its descriptor, the turn and time of its take, and where its execution stands. -/
structure HwdCmd where
  cid   : Nat
  queue : Fin 3
  desc  : List Byte
  taken : Nat
  stage : Nat
  prog  : Nat
  aux   : Nat
  abort : Bool
  deriving DecidableEq, Repr

/-- Autoload in progress (R945, R947): the header and the entries of the directory, the entry to be taken next, the one whose
load is in progress, those whose activation or release has not completed, the phase (0 entries, 1 activations, 2 releases),
and the codes with which operations of an entry have ended since firmware last looked. -/
structure AutoJob where
  header  : List Byte
  entries : List (List Byte)
  next    : Nat
  loading : Option Nat
  armed   : List Nat
  phase   : Nat
  results : List (Nat × Nat)
  deriving DecidableEq, Repr

/-- Address matching modes of a PMP entry (R729). -/
inductive PmpMode where
  | off | tor | napot
  deriving DecidableEq, Repr

/-- An entry of the cores' PMP (R729): mode, lock bit, permissions, and the address register, which holds bits 33 to 2 of an address. -/
structure PmpEntry where
  mode  : PmpMode
  lock  : Bool
  read  : Bool
  write : Bool
  exec  : Bool
  addr  : BitVec 32
  deriving DecidableEq, Repr

/-- An entry after reset. -/
def PmpEntry.reset : PmpEntry := { mode := .off, lock := false, read := false, write := false, exec := false, addr := 0 }

/-- Heartwood beside its registers: commands in progress oldest first, the next serial number (0 to 15 stand for the entries
of the autoload directory), the round-robin pointer, ring entries that an ABORT ended before their take, where the cores
stand (0 held, 1 boot ROM, 2 firmware, 3 halted), LENGTH of the running firmware copy and SHA-384 of its signed message,
autoload, and the cores' PMP (R729). -/
structure HwdUnit where
  cmds    : List HwdCmd
  nextCid : Nat
  rr      : Fin 3
  skips   : List (Nat × Nat)
  boot    : Nat
  copyLen : Nat
  fwHash  : List Byte
  auto    : Option AutoJob
  pmp     : Vector PmpEntry 16
  deriving DecidableEq, Repr

/-! ### Scribe (chapter 20) -/

/-- A capture (R809 to R817): members oldest rule order, options, destination, and its stage: 0 armed for an ALIGNED
latch, 1 pending for the next tick, 2 reading; from its tick on, the turn, SCRIBE_GEN, prior states, mailbox image,
CONTROL flags and, for a sealed image, the record key (R773, R793). -/
structure CaptureJob where
  cid     : Nat
  members : List (Fin 16)
  opt     : Nat
  dest    : Nat
  len     : Nat
  stage   : Nat
  turn    : Nat
  gen     : Nat
  prior   : List Nat
  mailbox : List Byte
  flags   : List Nat
  key     : List Byte
  deriving DecidableEq, Repr

/-- A restore (R821 to R824): targets, record bytes as checked, release turn, and its stage: 1 writing, 2 release
pending. -/
structure RestoreJob where
  cid     : Nat
  members : List (Fin 16)
  record  : List Byte
  relTurn : Nat
  stage   : Nat
  deriving DecidableEq, Repr

/-- A capture's RESUME that waits for position 5 (R816, R817). -/
structure ResumeJob where
  members : List (Fin 16)
  run     : List (Fin 16)
  deriving DecidableEq, Repr

/-- The Scribe engine: IMMEDIATE latches due (REFCLK times), the tick an ALIGNED latch waits for (none: the next), the
edge of the last trigger, the time SCRIBE_IO is deaf until, and captures, restores and resumes. -/
structure ScribeUnit where
  immDue   : List Nat
  alignTick : Option Nat
  lastTrig : Option Nat
  deafTill : Nat
  captures : List CaptureJob
  restores : List RestoreJob
  resumes  : List ResumeJob
  deriving DecidableEq, Repr

/-! ### Loader (chapter 11) -/

/-- The loader job in progress (R413): operation, targets in member order, the job entry's bytes, the command it belongs to, and its
stage: 1 first pass done and descriptors written, so that the second pass and the lock remain, 2 copy or readback running. `plane` is
the plane that a readback named when it began (R435), `image` the header and the section table that the first pass verified (R356), and
`records` what a readback has read so far (R437). -/
structure LoaderJob where
  op      : Nat
  members : List (Fin 16)
  entry   : List Byte
  stage   : Nat
  cid     : Option Nat
  plane   : Nat
  image   : List Byte
  records : List Byte
  deriving DecidableEq, Repr

/-- A scrub position: the plane being passed over, and the index of the next present frame and word. -/
structure ScrubPos where
  inactive : Bool
  frame    : Nat
  word     : Nat
  deriving DecidableEq, Repr

/-- The loader: the job in progress, the ring index of the queue head, which SLOT_LOAD command placed the job
at a ring index, the ring indexes of queued jobs that an ABORT ended, and the scrub of each slot. -/
structure LoaderUnit where
  job    : Option LoaderJob
  jqHead : Nat
  owners : List (Nat × Nat)
  aborts : List Nat
  scrub  : Vector ScrubPos 16
  deriving DecidableEq, Repr

/-! ### Turn (chapter 08) -/

/-- The tick generator beside its registers: whether a tick has occurred, the epoch count of the last tick instant, the instant of the
last slot clock edge as a fraction of REFCLK periods (R180), whether RUN waits for edge E0 (R281), the REFCLK edges left before a
TURN_IN edge makes its tick (R285), the turn number the last ring marker carries with the REFCLK edge its tick is placed at (R881,
R893), and the latched TURN_COUNT_HI of each TCID (R313). -/
structure TurnUnit where
  ticked   : Bool
  tickAt   : Nat
  edgeAt   : Option (Nat × Nat)
  starting : Bool
  inEdge   : Option Nat
  ringTurn : Option (BitVec 64)
  ringEdge : Nat
  hiLatch  : List (Nat × Word)
  deriving DecidableEq, Repr

/-! ### Host ports (chapter 13) -/

/-- The link states of a port (R502, R503, R900). -/
inductive Link where
  | down | training | l0 | l0s | l1 | l11 | l12
  deriving DecidableEq, Repr

/-- A host port beside its PTx_ registers: link, PERST# level, configuration space by function and dword, MSI-X tables
by function and dword, pending messages oldest first (the PBAs), VFs inside the 1 ms after their FLR, the DOE mailbox (dwords
written and not yet sent off, the object being served, the answer), the SPDM connection (0 none, 1 VERSION, 2 CAPABILITIES, 3
ALGORITHMS answered) with the transcripts of version and algorithms, of certificates, and of measurements, and the rotation
pointers of the DMA engine. -/
structure Port where
  perst   : Bool
  link    : Link
  cfg     : List (Nat × Word)
  msix    : List (Nat × Word)
  pba     : List (Nat × Nat)
  flr     : List Nat
  doeStage : List Word
  doeIn   : List Word
  doeOut  : List Word
  doeErr  : Bool
  spdm    : Nat
  spdmVca : List Byte
  spdmCert : List Byte
  spdmMeas : List Byte
  tokT    : Nat
  charged : Nat
  stale   : List Nat
  remLast : Nat
  drawLast : Nat
  rrLast  : Nat
  deriving DecidableEq, Repr

/-! ### Bench memory (chapter 15) -/

/-- A request to a Bench line that a caching agent's lane or the T1 target port makes (R613, R617). -/
inductive LineOp where
  | getS | getM
  | wrLine (enables : BitVec 64) (data : BitVec 512)
  | putM (data : BitVec 512)
  | read
  | write (enables : BitVec 64) (data : BitVec 512)
  deriving DecidableEq, Repr

/-- A waiting request: source (0 Scribe, 1 loader, 2 Heartwood D-cache, 3 T1 target port), the matrix cycle in which it
reached the directory, and what it asks (R622). -/
structure LineReq where
  src   : Fin 4
  cycle : Nat
  op    : LineOp
  deriving DecidableEq, Repr

/-- The directory entry of a line that is not I, is busy or has requests waiting: sharers, the owner in M with its copy
of the line, the busy flag and the pending slots (R617, R622). -/
structure BenchLine where
  line    : Nat
  sharers : BitVec 3
  owner   : Option (Fin 3)
  data    : BitVec 512
  busy    : Bool
  pend    : List LineReq
  deriving DecidableEq, Repr

/-- Bench memory beside its registers and array: the directory entries by rising line, the patrol's next word, and
whether the next full-word write by M3 stores a two-bit error (R984 MECH 8). -/
structure BenchUnit where
  lines  : List BenchLine
  patrol : Nat
  inject : Bool
  deriving DecidableEq, Repr

/-! ### Grain store (chapter 16) -/

/-- A STORE in progress (R645): target bank, its new SSN, and its cause (1 command, 2 power-fail, 3 hibernate entry,
4 domain power-off). -/
structure StoreJob where
  bank  : Nat
  ssn   : Nat
  cause : Nat
  deriving DecidableEq, Repr

/-- A page write in progress (R653): its master's TCID, channel, offset and the bytes it took from the page buffer. -/
structure PageJob where
  tcid : Nat
  ch   : Nat
  off  : Nat
  data : List Byte
  deriving DecidableEq, Repr

/-- An unlock held (R660): TCID, channel, region, and whether it is a write unlock. -/
structure Unlock where
  tcid   : Nat
  ch     : Nat
  region : Nat
  write  : Bool
  deriving DecidableEq, Repr

/-- The Grain store beside its registers and memories: STORE and page write in progress, unlocks, failure counts of the
16 regions (channel D from 8), whether a power-fail cause persists and whether its STORE has run (R648), the next group
of the patrol, the journal head slot that firmware keeps (R668), and the GRAIN_STORE commands that wait for the STORE in
progress. -/
structure GrainUnit where
  store    : Option StoreJob
  page     : Option PageJob
  unlocks  : List Unlock
  fails    : Vector Nat 16
  pfail    : Bool
  pfStored : Bool
  patrol   : Nat
  jhead    : Nat
  waiters  : List Nat
  deriving DecidableEq, Repr

/-! ### Resident store and TAP (chapter 17) -/

/-- A program or erase in progress (R692, R693): OP, whether it came through ISC, the page or sector, the page image it
took, the start time, and the command that waits for it. -/
structure ResJob where
  op    : Nat
  isc   : Bool
  unit_ : Nat
  data  : List Byte
  start : Nat
  deriving DecidableEq, Repr

/-- The resident store controller beside its registers: the operation in progress, the bytes of the program buffer, and an
ISC entry or exit that waits for the operation. -/
structure ResidentUnit where
  job     : Option ResJob
  page    : List Byte
  iscWait : Option Bool
  deriving DecidableEq, Repr

/-- A ball's drive as boundary scan sets it, one bit per cell; the current TAP instruction and its data registers
(R706 to R713), and the outcome of the last MATRIX_ACCESS transaction: whether it is outstanding, completed, a completed read, its
response code and data. -/
structure JtagUnit where
  ir      : Nat
  bscan   : BitVec 1573
  iscAddr : BitVec 25
  iscData : BitVec 2048
  iscRead : BitVec 128
  iscFail : Bool
  axReg   : BitVec 80
  axBusy  : Bool
  axDone  : Bool
  axRead  : Bool
  axCode  : Nat
  axData  : Word
  deriving DecidableEq, Repr

/-- The safety plane beside its registers: the injection in progress, as MECH and slot (R984), the time at which a timed
one ends, and the self-test in progress: 1 at start-up (R972), 2 the lockstep group alone (R974), 0 none. -/
structure SafetyUnit where
  inj    : Option (Nat × Nat)
  injEnd : Nat
  test   : Nat
  deriving DecidableEq, Repr

/-! ### Yelaval ring (chapter 22) -/

/-- One direction of the ring (R872 to R875, R880, R884): whether this device is its origin and stamps HEAD, whether it is
broken, whether its input lane was ever measured, whether a valid slot has arrived since it last broke, the words last received
on it, the insertions made since a free slot was last let pass, and the control and ack slots that wait for a free slot (73 bytes each: KIND, then symbols 12 to 83). -/
structure RingDir where
  origin   : Bool
  head     : Bool
  broken   : Bool
  measured : Bool
  up       : Bool
  present  : BitVec 16
  cand     : BitVec 16
  fault    : BitVec 16
  run      : Nat
  queue    : List (List Byte)
  deriving DecidableEq, Repr

/-- A transfer being sent (R883, R884, R886, R888): its command, destination, requested direction (0 automatic), XFER_ID,
source address, header fields, the fragments queued, sent, acknowledged and sent again, the timeouts in a row, and the
direction last used. -/
structure RingTx where
  cid      : Nat
  dst      : Nat
  dirReq   : Nat
  xfer     : Nat
  src      : Nat
  len      : Nat
  remote   : Nat
  tag      : Nat
  queued   : Nat
  sent     : Nat
  acked    : Nat
  resent   : Nat
  timeouts : Nat
  used     : Nat
  deriving DecidableEq, Repr

/-- A transfer being received (R885): sender, XFER_ID, header fields, the next fragment expected, and the fragments accepted
since the last ack. -/
structure RingRx where
  src    : Nat
  xfer   : Nat
  len    : Nat
  remote : Nat
  next   : Nat
  since  : Nat
  deriving DecidableEq, Repr

/-- The ring interface beside its registers: both directions (0 E, 1 W), the SEQ of the last trigger sent, the last XFER_ID,
the last marker acted on, the triggers acted on as (SRC, SEQ), the bodies delivered and not yet served, transfers, the heads
of the transmit and receive queues, and the instant of the tick last announced, in units of 0.125 ns. -/
structure RingUnit where
  dirs     : Vector RingDir 2
  seq      : Nat
  xfers    : Nat
  marker   : Option (BitVec 64)
  seen     : List (Nat × Nat)
  inbox    : List (List Byte)
  txs      : List RingTx
  rxs      : List RingRx
  txHead   : Nat
  rxHead   : Nat
  announced : Option Nat
  deriving DecidableEq, Repr

/-! ### Power, reset, security engine and SMBus bridge (chapters 03, 18, 19, 23, 24) -/

/-- A HIBERNATE in progress (R910): its command and its stage (1 waits for the resident store and for ARMED, 2 STORE, 3 delay
before PSU_EN falls). -/
structure HibJob where
  cid   : Nat
  stage : Nat
  deriving DecidableEq, Repr

/-- Supplies, the VBAT domain, and reset inputs: supplies out of window and supplies below their falling threshold (bit
numbers of SAFE_SUPPLY; `low` is released again at the rising threshold), VBAT validity, PSU_EN low, the hibernate latch, a
latched wake, MIN_OFF_MS as copied and the HIBERNATE in progress; where a power-off of the GRAIN domain stands (1 waits for ARMED, 2 STORE in progress, 3 STORE ended,
0 none); brown-out monitors asserted since both supplies were valid; causes of the warm reset in progress (bit 0 pin,
1 command, 2 safety). -/
structure PowerUnit where
  out       : BitVec 32
  low       : BitVec 32
  vbat      : Bool
  porst     : Bool
  psuLow    : Bool
  hibLatch  : Bool
  wakeLatch : Bool
  minOff    : Nat
  hib       : Option HibJob
  grainOff  : Nat
  brown     : BitVec 2
  causes    : BitVec 3
  deriving DecidableEq, Repr

/-- The security engine beside its registers: the TAMPERED latch of the VBAT domain, a key store erasure that waits for the
next power-up (R787), the TCID and OP of the engine operation in progress, and the keys delivered on the dedicated paths
to the loader and the Scribe engine (R352, R773). -/
structure SecUnit where
  tampered  : Bool
  erasePend : Bool
  engine    : Option (Nat × Nat)
  loaderKey : List Byte
  scribeKey : List Byte
  deriving DecidableEq, Repr

/-- The SMBus bridge (R752, R753): transactions of the last WRITE still pending and its response code, whether a read is
pending, its status and data, and whether an answered read waits to be fetched. -/
structure SmbUnit where
  writes    : Nat
  status    : Nat
  reading   : Bool
  readCode  : Nat
  readData  : List Byte
  deriving DecidableEq, Repr

/-- A record of ACT_DENY_LOG (R584): address, the fields of ACT_DENY_LOG_1 above the address, and the turn. -/
structure DenyRecord where
  addr   : Nat
  fields : Nat
  turn   : Nat
  deriving DecidableEq, Repr

/-! ### The device -/

/-- Everything of the block but its command queue, its event queues and its matrix queues. -/
structure Device where
  por      : Bool
  warm     : Bool
  now      : Nat
  epoch    : Nat
  refclk   : Bool
  freeCtr  : Nat
  mem      : List Host.Cell
  regs     : List (Nat × Word)
  slots    : Vector Slot 16
  latches  : List RaiseLatch
  turn     : TurnUnit
  scribe   : ScribeUnit
  hwd      : HwdUnit
  loader   : LoaderUnit
  ports    : Vector Port 2
  bench    : BenchUnit
  grain    : GrainUnit
  resident : ResidentUnit
  jtag     : JtagUnit
  safety   : SafetyUnit
  ring     : RingUnit
  power    : PowerUnit
  sec      : SecUnit
  smb      : SmbUnit
  denials  : List DenyRecord
  out      : List Out
  deriving DecidableEq, Repr

/-! ### The bus matrix (chapter 14) -/

/-- A transaction in the queue of a target port: the transaction, whether it is aged (R572), and the request of its master
that it belongs to. -/
structure MtxEntry where
  txn  : Txn
  aged : Bool
  req  : Nat
  deriving DecidableEq, Repr

/-- An inbound request of a host port that its transactions serve (R510, R519, R594): serial number, port, function, tag,
whether it is a write, its transactions left, the worst outcome so far, the address of its first byte, and its data so far
by offset. -/
structure PortReq where
  serial : Nat
  port   : Fin 2
  fn     : Nat
  tag    : Nat
  write  : Bool
  left   : Nat
  worst  : Nat
  addr   : Nat
  header : Nat
  data   : List (Nat × List Byte)
  deriving DecidableEq, Repr

/-- The lock of a target (R575 to R578): its holder. `broken` lists the masters whose lock was forced off and whose next
locked transaction receives LOCKERR. -/
structure MtxLock where
  holder : Option Nat
  broken : List Nat
  deriving DecidableEq, Repr

/-- The matrix: the queue of each target port in order of arrival, tie pointer, parking and lock of each, the transactions that
masters hold back for want of a credit (R565, R568), the port requests in progress, and the next serial number. -/
structure MtxUnit where
  queues : Vector (List MtxEntry) 8
  tie    : Vector Nat 8
  park   : Vector (Option Nat) 8
  locks  : Vector MtxLock 8
  waiting : List MtxEntry
  reqs   : List PortReq
  next   : Nat
  deriving DecidableEq, Repr

/-! ### The machine -/

/-- The machine: the commands that wait, oldest first; the four event queues, oldest record first (R845); the matrix; and the
rest of the device. -/
structure State where
  pending : List Instr
  evq     : Vector (List EvtRecord) 4
  mtx     : MtxUnit
  dev     : Device
  deriving DecidableEq, Repr

/-- Faults. The block has none: the spec gives every command an effect, and a command whose conditions do not hold leaves the
state as it is (assumption log 1). The one constructor is raised by nobody. -/
inductive Fault where
  /-- Raised by nobody; the type needs an inhabitant. Safe. -/
  | none_
  deriving DecidableEq, Repr

/-- Refusals. -/
inductive Refusal where
  /-- A command that the model gives no meaning. Safe. -/
  | notModelled (mnemonic : String)
  deriving DecidableEq, Repr

/-! ### Reset

The machine as power-on reset holds it: every register at its Reset value, memories unwritten, every slot EMPTY and ON, no
command taken. Where no table gives a value of a hidden field, the value is the one that says "nothing has happened"
(assumption log 6). -/

/-- A view of a fabric in which everything reads 0. -/
def FabView.reset : FabView :=
  { mc := 0, high := 0, lines := 0, ctrl := 0, pins := 0, drv := 0, ddr := 0, ddrFall := 0 }

/-- A DMA channel without a descriptor. -/
def DmaChan.reset : DmaChan := { stage := 0, desc := [], moved := 0, len := 0, data := [] }

/-- Nothing waits to be served. -/
def DueOps.reset : DueOps := { mail := 0, word := 0, bm := [], done := false, healthy := false, ctrl := false }

/-- An empty mailbox. -/
def Mailbox.reset : Mailbox :=
  { inq := [], inVis := 0, outq := [], outVis := 0, outStage := 0, inWidx := 0, userPrev := 0, userOld := 0 }

/-- A block memory controller at rest. -/
def BmCtl.reset : BmCtl := { a1 := 0, a2 := 0, b1 := 0, b2 := 0, depth := 0, head := 0, tail := 0 }

/-- A slot after power-on reset: EMPTY, ON, unbound. -/
def Slot.reset : Slot :=
  { st := .empty, power := .on, binding := none, gkind := 0, gmember := 0, active := false, pend5 := none, resume5 := false,
    swap := none, trial := none, pend7 := none, flrHold := false, copying := none, sweepCmd := none, sweepTry := 0,
    bindOn := false, emptyOff := false, checked := false, done := false, healthy := false, overran := false, skipped := false,
    resumed := false, restored := false, slotEn := false, strobe := 0, idleBreak := false, poweredTurn := false,
    wakeAuto := false, idleAuto := false,
    clk := { lockA := 0, lockB := 0, rangeErr := 0, monitored := 0, syncWait := false },
    mc := 0, ptPrev := 0, clkHigh := 0, cyc := .idle, fresh := 0, ddr := 0, ddrFall := 0, ddrLow := 0, pinIn := 0,
    pinDrv := 0, keeper := 0, ctrlReg := 0, turnLev := 0,
    pre := FabView.reset, due := DueOps.reset,
    chan := DmaChan.reset, holdPins := 0, holdH := 0, holdV := 0, mb := Mailbox.reset,
    bm := Vector.replicate 16 BmCtl.reset }

/-- A host port in reset (R73). -/
def Port.reset : Port :=
  { perst := true, link := .down, cfg := [], msix := [], pba := [], flr := [], doeStage := [], doeIn := [], doeOut := [], doeErr := false,
    spdm := 0, spdmVca := [], spdmCert := [], spdmMeas := [], tokT := 0, charged := 0, stale := [], remLast := 0, drawLast := 0, rrLast := 0 }

/-- A direction of the ring that carries nothing. -/
def RingDir.reset : RingDir :=
  { origin := false, head := false, broken := false, measured := false, up := false, present := 0, cand := 0, fault := 0, run := 0,
    queue := [] }

/-- The device after power-on reset. -/
def Device.reset : Device :=
  { por := true, warm := false, now := 0, epoch := 0, refclk := true, freeCtr := 0, mem := [], regs := [],
    slots := Vector.replicate 16 Slot.reset, latches := [],
    turn :=
      { ticked := false, tickAt := 0, edgeAt := none, starting := false, inEdge := none, ringTurn := none, ringEdge := 0,
        hiLatch := [] },
    scribe :=
      { immDue := [], alignTick := none, lastTrig := none, deafTill := 0, captures := [], restores := [],
        resumes := [] },
    hwd := { cmds := [], nextCid := 16, rr := 2, skips := [], boot := 0, copyLen := 0, fwHash := [], auto := none,
             pmp := Vector.replicate 16 PmpEntry.reset },
    loader :=
      { job := none, jqHead := 0, owners := [], aborts := [],
        scrub := Vector.replicate 16 { inactive := false, frame := 0, word := 0 } },
    ports := Vector.replicate 2 Port.reset,
    bench := { lines := [], patrol := 0, inject := false },
    grain :=
      { store := none, page := none, unlocks := [], fails := Vector.replicate 16 0, pfail := false, pfStored := false,
        patrol := 0, jhead := 0, waiters := [] },
    resident := { job := none, page := [], iscWait := none },
    jtag :=
      { ir := 9, bscan := 0, iscAddr := 0, iscData := 0, iscRead := 0, iscFail := false,
        axReg := 0, axBusy := false, axDone := false, axRead := false, axCode := 0, axData := 0 },
    safety := { inj := none, injEnd := 0, test := 0 },
    ring :=
      { dirs := Vector.replicate 2 RingDir.reset, seq := 0, xfers := 0, marker := none, seen := [], inbox := [],
        txs := [], rxs := [], txHead := 0, rxHead := 0, announced := none },
    power :=
      { out := 0, low := 0, vbat := true, porst := true, psuLow := false, hibLatch := false, wakeLatch := false, minOff := 0,
        hib := none, grainOff := 0, brown := 0, causes := 0 },
    sec := { tampered := false, erasePend := false, engine := none, loaderKey := [], scribeKey := [] },
    smb := { writes := 0, status := 0, reading := false, readCode := 0, readData := [] },
    denials := [], out := [] }

/-- The matrix after reset (R586, R587): nothing queued, tie pointers at M8, no lock. -/
def MtxUnit.reset : MtxUnit :=
  { queues := Vector.replicate 8 [], tie := Vector.replicate 8 8, park := Vector.replicate 8 none,
    locks := Vector.replicate 8 { holder := none, broken := [] }, waiting := [], reqs := [], next := 0 }

/-- The machine right after reset: power-on reset is held, and POR_RELEASE is the first command that has an effect of its
own (assumption log 7). -/
def State.reset : State :=
  { pending := [], evq := Vector.replicate 4 [], mtx := MtxUnit.reset, dev := Device.reset }

end Sys2Proof.Machine
end

