-- ==== Sys2Proof/Machine/RegTable.lean ====
section
/-! DEFINITION. The register map: the address of every register of the block, its fields, their access codes
(R10), reset values and Survives entries (R14), from the register tables of the spec's chapters.
Every row is read from the table that names the register. -/

namespace Sys2Proof.Machine

/-- The register access codes of the "Register access codes" table (R10); `clr` is the counter form of W1C in which a
1 in any bit position of the field sets the whole field to 0 (R1022). The model needs no RWO: no table uses it. -/
inductive Access where
  | rw | ro | w1c | w1s | wo | rwl | clr
  deriving DecidableEq, Repr

/-- One field of a register: place, access code, reset value and Survives set (bit 0 P, 1 W, 2 L, 3 F, 4 S, 5 H). -/
structure FieldSpec where
  lo    : Nat
  width : Nat
  acc   : Access
  reset : Nat
  surv  : Nat
  deriving DecidableEq, Repr

/-- A family of registers of a window: offset of the first and up to two strides with counts. -/
structure RegSpec where
  off    : Nat
  s1     : Nat
  c1     : Nat
  s2     : Nat
  c2     : Nat
  fields : List FieldSpec
  deriving DecidableEq, Repr

/-- A named register field: its register's internal address, low bit and width. -/
structure Fld where
  addr  : Nat
  lo    : Nat
  width : Nat
  deriving DecidableEq, Repr

/-! ### Register addresses (R8, R34, R37, and each chapter's register map) -/

def Reg.turnCtl : Nat := 0x80020000
def Reg.turnPeriod : Nat := 0x80020004
def Reg.turnPeriodCur : Nat := 0x80020008
def Reg.turnStatus : Nat := 0x8002000C
def Reg.turnCountLo : Nat := 0x80020010
def Reg.turnCountHi : Nat := 0x80020014
def Reg.turnElapsed : Nat := 0x80020018
def Reg.turnOvrPolicy : Nat := 0x80020020
def Reg.turnDoneLast : Nat := 0x80020024
def Reg.turnHealthyLast : Nat := 0x80020028
def Reg.turnOvrFlag : Nat := 0x8002002C
def Reg.turnOvrClr : Nat := 0x80020030
def Reg.turnOvrCount (n : Nat) : Nat := 0x80020040 + 0x4 * n
def Reg.snapTurnCountLo : Nat := 0x80020080
def Reg.snapTurnCountHi : Nat := 0x80020084
def Reg.snapTurnStatus : Nat := 0x80020088
def Reg.turnSnapGen : Nat := 0x8002008C
def Reg.ldrStatus : Nat := 0x800C0000
def Reg.ldrJqBase : Nat := 0x800C0010
def Reg.ldrJqPush : Nat := 0x800C0014
def Reg.ldrJqStatus : Nat := 0x800C0018
def Reg.ldrLastErr : Nat := 0x800C0020
def Reg.ldrLastTag : Nat := 0x800C0024
def Reg.ldrSwapReq : Nat := 0x800C0030
def Reg.ldrSwapResult : Nat := 0x800C0034
def Reg.ldrSlot (n : Nat) : Nat := 0x800C0100 + 0x4 * n
def Reg.ldrScrubCorr (n : Nat) : Nat := 0x800C0200 + 0x4 * n
def Reg.ldrScrubUnc (n : Nat) : Nat := 0x800C0240 + 0x4 * n
def Reg.ldrScrubLastAddr : Nat := 0x800C0280
def Reg.ldrScrubLastSyn : Nat := 0x800C0284
def Reg.snapLdrStatus : Nat := 0x800C0800
def Reg.snapScrubLastAddr : Nat := 0x800C0804
def Reg.snapScrubLastSyn : Nat := 0x800C0808
def Reg.ldrSnapGen : Nat := 0x800C080C
def Reg.slcState (w : Nat) : Nat := 0x40000000 + 0x1000000 * w
def Reg.slcFault (w : Nat) : Nat := 0x40000004 + 0x1000000 * w
def Reg.slcReq (w : Nat) : Nat := 0x40000008 + 0x1000000 * w
def Reg.slcReqStatus (w : Nat) : Nat := 0x4000000C + 0x1000000 * w
def Reg.slcCtl (w : Nat) : Nat := 0x40000010 + 0x1000000 * w
def Reg.slcClk (w : Nat) : Nat := 0x40000014 + 0x1000000 * w
def Reg.slcChuckStatus (w : Nat) : Nat := 0x40000018 + 0x1000000 * w
def Reg.slcBmStatus (w b : Nat) : Nat := 0x40000100 + 0x1000000 * w + 0x4 * b
def Reg.slcBmErraddr (w b : Nat) : Nat := 0x40000140 + 0x1000000 * w + 0x4 * b
def Reg.snapSlcState (w : Nat) : Nat := 0x40000800 + 0x1000000 * w
def Reg.slcSnapGen (w : Nat) : Nat := 0x4000080C + 0x1000000 * w
def Reg.ptStatus (p : Nat) : Nat := 0x800E0000 + 0x10000 * p
def Reg.ptLinkCfg (p : Nat) : Nat := 0x800E0004 + 0x10000 * p
def Reg.ptDmaTokens (p : Nat) : Nat := 0x800E0010 + 0x10000 * p
def Reg.ptDmaPool (p : Nat) : Nat := 0x800E0014 + 0x10000 * p
def Reg.ptDmaUsedLast (p : Nat) : Nat := 0x800E0018 + 0x10000 * p
def Reg.ptDmaWeight (p i : Nat) : Nat := 0x800E0020 + 0x10000 * p + 0x4 * i
def Reg.ptErrLog (p : Nat) : Nat := 0x800E0040 + 0x10000 * p
def Reg.ptErrAddrLo (p : Nat) : Nat := 0x800E0044 + 0x10000 * p
def Reg.ptErrAddrHi (p : Nat) : Nat := 0x800E0048 + 0x10000 * p
def Reg.snapPtStatus (p : Nat) : Nat := 0x800E0F00 + 0x10000 * p
def Reg.ptSnapGen (p : Nat) : Nat := 0x800E0F0C + 0x10000 * p
def Reg.mbInStage (w k : Nat) : Nat := 0x40001000 + 0x1000000 * w + 0x4 * k
def Reg.mbInPush (w : Nat) : Nat := 0x40001040 + 0x1000000 * w
def Reg.mbOutPop (w : Nat) : Nat := 0x40001044 + 0x1000000 * w
def Reg.mbCount (w : Nat) : Nat := 0x40001048 + 0x1000000 * w
def Reg.mbFlags (w : Nat) : Nat := 0x4000104C + 0x1000000 * w
def Reg.mbInLowwater (w : Nat) : Nat := 0x40001050 + 0x1000000 * w
def Reg.mbOutHead (w k : Nat) : Nat := 0x40001080 + 0x1000000 * w + 0x4 * k
def Reg.snapMbCount (w : Nat) : Nat := 0x40001800 + 0x1000000 * w
def Reg.snapMbFlags (w : Nat) : Nat := 0x40001804 + 0x1000000 * w
def Reg.mbSnapGen (w : Nat) : Nat := 0x4000180C + 0x1000000 * w
def Reg.dmaCtl (w : Nat) : Nat := 0x40002000 + 0x1000000 * w
def Reg.dmaStatus (w : Nat) : Nat := 0x40002004 + 0x1000000 * w
def Reg.dmaRingLo (w : Nat) : Nat := 0x40002008 + 0x1000000 * w
def Reg.dmaRingHi (w : Nat) : Nat := 0x4000200C + 0x1000000 * w
def Reg.dmaRingSize (w : Nat) : Nat := 0x40002010 + 0x1000000 * w
def Reg.dmaTail (w : Nat) : Nat := 0x40002014 + 0x1000000 * w
def Reg.dmaHead (w : Nat) : Nat := 0x40002018 + 0x1000000 * w
def Reg.dmaBalance (w : Nat) : Nat := 0x4000201C + 0x1000000 * w
def Reg.snapDmaStatus (w : Nat) : Nat := 0x40002800 + 0x1000000 * w
def Reg.dmaSnapGen (w : Nat) : Nat := 0x4000280C + 0x1000000 * w
def Reg.bmxCtl : Nat := 0x80050000
def Reg.bmxStatus : Nat := 0x80050004
def Reg.bmxPriLo (t : Nat) : Nat := 0x80050010 + 0x8 * t
def Reg.bmxPriHi (t : Nat) : Nat := 0x80050014 + 0x8 * t
def Reg.bmxDecLog0 : Nat := 0x80050080
def Reg.bmxDecLog1 : Nat := 0x80050084
def Reg.bmxIntCount : Nat := 0x80050090
def Reg.bmxLockForced : Nat := 0x80050094
def Reg.actDenyPop : Nat := 0x8005010C
def Reg.actDenyStatus : Nat := 0x80050110
def Reg.actDenyLost : Nat := 0x80050114
def Reg.snapBmxStatus : Nat := 0x80050F00
def Reg.snapActDenyStatus : Nat := 0x80050F04
def Reg.bmxSnapGen : Nat := 0x80050F0C
def Reg.actRgnBase (t r : Nat) : Nat := 0x80051000 + 0x1000 * t + 0x8 * r
def Reg.actRgnLimit (t r : Nat) : Nat := 0x80051004 + 0x1000 * t + 0x8 * r
def Reg.actEntKey (t e : Nat) : Nat := 0x80051100 + 0x1000 * t + 0x8 * e
def Reg.actEntPerm (t e : Nat) : Nat := 0x80051104 + 0x1000 * t + 0x8 * e
def Reg.benchStatus : Nat := 0x800B0000
def Reg.benchSleepCtl : Nat := 0x800B0004
def Reg.benchPatrolCtl : Nat := 0x800B0008
def Reg.benchEccCorr : Nat := 0x800B0010
def Reg.benchEccUnc : Nat := 0x800B0014
def Reg.benchEccAddr : Nat := 0x800B0018
def Reg.benchEccSyn : Nat := 0x800B001C
def Reg.benchDirStatus : Nat := 0x800B0020
def Reg.snapBenchStatus : Nat := 0x800B0F00
def Reg.snapBenchEccUnc : Nat := 0x800B0F04
def Reg.benchSnapGen : Nat := 0x800B0F0C
def Reg.grnStatus : Nat := 0x80090000
def Reg.grnCtl : Nat := 0x80090004
def Reg.grnStoreCmd : Nat := 0x80090008
def Reg.grnSSsn : Nat := 0x8009000C
def Reg.grnEccCorr : Nat := 0x80090010
def Reg.grnEccUnc : Nat := 0x80090014
def Reg.grnEccAddr : Nat := 0x80090018
def Reg.grnEccSyn : Nat := 0x8009001C
def Reg.grnPatrolCtl : Nat := 0x80090020
def Reg.grnUnlockLo : Nat := 0x80090030
def Reg.grnUnlockHi : Nat := 0x80090034
def Reg.grnUnlockCmd : Nat := 0x80090038
def Reg.grnUnlockStatus : Nat := 0x8009003C
def Reg.grnUnlockTimeout : Nat := 0x80090040
def Reg.grnUnlockFail : Nat := 0x80090044
def Reg.grnPwLo : Nat := 0x80090050
def Reg.grnPwHi : Nat := 0x80090054
def Reg.grnPwSet : Nat := 0x80090058
def Reg.grnOpResult : Nat := 0x8009005C
def Reg.grnPgbuf (k : Nat) : Nat := 0x80090080 + 0x4 * k
def Reg.grnPgwr : Nat := 0x800900C0
def Reg.grnPgwrResult : Nat := 0x800900C4
def Reg.snapGrnStatus : Nat := 0x80090F00
def Reg.snapGrnEccUnc : Nat := 0x80090F04
def Reg.grnSnapGen : Nat := 0x80090F0C
def Reg.resStatus : Nat := 0x800A0000
def Reg.resCtl : Nat := 0x800A0004
def Reg.resCmd : Nat := 0x800A0008
def Reg.resResult : Nat := 0x800A000C
def Reg.resElapsed : Nat := 0x800A0010
def Reg.resBuf : Nat := 0x800A0014
def Reg.resSuspendCfg : Nat := 0x800A0018
def Reg.resSuspMax : Nat := 0x800A001C
def Reg.resWp : Nat := 0x800A0020
def Reg.resSuspCount : Nat := 0x800A0024
def Reg.resTornMap (i : Nat) : Nat := 0x800A0040 + 0x4 * i
def Reg.snapResStatus : Nat := 0x800A0F00
def Reg.resSnapGen : Nat := 0x800A0F0C
def Reg.hwdStatus : Nat := 0x800D0000
def Reg.hwdFwVersion : Nat := 0x800D0004
def Reg.hwdSvn : Nat := 0x800D0008
def Reg.hwdRollback : Nat := 0x800D000C
def Reg.hwdBuserr0 : Nat := 0x800D0010
def Reg.hwdBuserr1 : Nat := 0x800D0014
def Reg.hwdCtl : Nat := 0x800D0020
def Reg.hwdSmbCtl : Nat := 0x800D0024
def Reg.hwdSmbStatus : Nat := 0x800D0028
def Reg.hwdQSqBase (q : Nat) : Nat := 0x800D0100 + 0x20 * q
def Reg.hwdQCqBase (q : Nat) : Nat := 0x800D0104 + 0x20 * q
def Reg.hwdQPush (q : Nat) : Nat := 0x800D0108 + 0x20 * q
def Reg.hwdQCpop (q : Nat) : Nat := 0x800D010C + 0x20 * q
def Reg.hwdQSqStatus (q : Nat) : Nat := 0x800D0110 + 0x20 * q
def Reg.hwdQCqStatus (q : Nat) : Nat := 0x800D0114 + 0x20 * q
def Reg.hwdQPerm (q : Nat) : Nat := 0x800D0118 + 0x20 * q
def Reg.snapHwdStatus : Nat := 0x800D0F00
def Reg.hwdSnapGen : Nat := 0x800D0F0C
def Reg.secStatus : Nat := 0x80070000
def Reg.secLocks : Nat := 0x80070004
def Reg.secKeys : Nat := 0x80070008
def Reg.secMinEndorse : Nat := 0x8007000C
def Reg.secSerial (i : Nat) : Nat := 0x80070040 + 0x4 * i
def Reg.secVendorHash (i : Nat) : Nat := 0x80070080 + 0x4 * i
def Reg.secOpHash (i : Nat) : Nat := 0x800700C0 + 0x4 * i
def Reg.secKaKeyid (i : Nat) : Nat := 0x80070100 + 0x4 * i
def Reg.snapSecStatus : Nat := 0x80070F00
def Reg.secSnapGen : Nat := 0x80070F0C
def Reg.scribeCtl : Nat := 0x80030000
def Reg.scribeStatus : Nat := 0x80030004
def Reg.scribeGen : Nat := 0x80030008
def Reg.scribeAck : Nat := 0x8003000C
def Reg.scribeCapStatus : Nat := 0x80030010
def Reg.scribeTmask (i : Nat) : Nat := 0x80030020 + 0x4 * i
def Reg.snapScribeStatus : Nat := 0x80030F00
def Reg.scribeSnapGen : Nat := 0x80030F0C
def Reg.evtCtl : Nat := 0x80040000
def Reg.evtStatusSum : Nat := 0x80040004
def Reg.evtStatus (i : Nat) : Nat := 0x80040010 + 0x4 * i
def Reg.evtEnable (i : Nat) : Nat := 0x80040080 + 0x4 * i
def Reg.evtQHead (q k : Nat) : Nat := 0x80040100 + 0x20 * q + 0x4 * k
def Reg.evtQPop (q : Nat) : Nat := 0x80040110 + 0x20 * q
def Reg.evtQStatus (q : Nat) : Nat := 0x80040114 + 0x20 * q
def Reg.evtQLost (q : Nat) : Nat := 0x80040118 + 0x20 * q
def Reg.snapEvtStatusSum : Nat := 0x80040F00
def Reg.evtSnapGen : Nat := 0x80040F0C
def Reg.evtRoute (e : Nat) : Nat := 0x80041000 + 0x4 * e
def Reg.pwrCtl : Nat := 0x80010000
def Reg.pwrStatus : Nat := 0x80010004
def Reg.pwrDomStatus : Nat := 0x80010008
def Reg.pwrDomCtl : Nat := 0x8001000C
def Reg.pwrHib : Nat := 0x80010010
def Reg.pwrSlot (n : Nat) : Nat := 0x80010100 + 0x4 * n
def Reg.snapPwrStatus : Nat := 0x80010F00
def Reg.snapPwrDomStatus : Nat := 0x80010F04
def Reg.pwrSnapGen : Nat := 0x80010F0C
def Reg.devReady : Nat := 0x80000010
def Reg.devBootCause : Nat := 0x80000014
def Reg.devResetHist : Nat := 0x80000018
def Reg.devStrap : Nat := 0x8000001C
def Reg.devResetCmd : Nat := 0x80000020
def Reg.devAutoload : Nat := 0x80000024
def Reg.devAutoloadErr (i : Nat) : Nat := 0x80000028 + 0x4 * i
def Reg.snapDevReady : Nat := 0x80000F00
def Reg.devSnapGen : Nat := 0x80000F0C
def Reg.safeStatus : Nat := 0x80060000
def Reg.safeCtl : Nat := 0x80060004
def Reg.safeCause : Nat := 0x80060008
def Reg.safeActive : Nat := 0x8006000C
def Reg.safeDss : Nat := 0x80060010
def Reg.safeTest : Nat := 0x80060014
def Reg.safeRingMask : Nat := 0x80060018
def Reg.safeSupply : Nat := 0x80060020
def Reg.safeVccioClass : Nat := 0x80060024
def Reg.safeTemp : Nat := 0x80060028
def Reg.safeClkFault : Nat := 0x8006002C
def Reg.safeSelftest : Nat := 0x80060030
def Reg.snapSafeStatus : Nat := 0x80060F00
def Reg.snapSafeCause : Nat := 0x80060F04
def Reg.safeSnapGen : Nat := 0x80060F0C
def Reg.devId : Nat := 0x80000000
def Reg.devRev : Nat := 0x80000004
def Reg.devCap : Nat := 0x80000008
def Reg.actDenyLog0 : Nat := 0x80050100
def Reg.actDenyLog1 : Nat := 0x80050104
def Reg.actDenyLog2 : Nat := 0x80050108
def Reg.ldrPlaneHash (np i : Nat) : Nat := 0x800C1000 + 0x40 * np + 0x4 * i
def Reg.ldrPlaneSec (np : Nat) : Nat := 0x800C1030 + 0x40 * np
def Reg.ldrPlaneInfo (np : Nat) : Nat := 0x800C1034 + 0x40 * np
def Reg.evtCoalPf (p v : Nat) : Nat := 0x80042000 + 0x1000 * p + 0x4 * v
def Reg.evtCoalVf (p fj : Nat) : Nat := 0x80042100 + 0x1000 * p + 0x4 * fj
def Reg.ringCtl : Nat := 0x80080000
def Reg.ringStatus : Nat := 0x80080004
def Reg.ringPresent : Nat := 0x80080008
def Reg.ringFault : Nat := 0x8008000C
def Reg.ringLinkdly : Nat := 0x80080010
def Reg.ringTickOfs : Nat := 0x80080014
def Reg.ringErr : Nat := 0x80080018
def Reg.ringTxqPush : Nat := 0x80080020
def Reg.ringTxqStatus : Nat := 0x80080024
def Reg.ringRxqPop : Nat := 0x80080028
def Reg.ringRxqStatus : Nat := 0x8008002C
def Reg.ringRxDone : Nat := 0x80080030
def Reg.ringRxBase : Nat := 0x80080034
def Reg.ringRxLen : Nat := 0x80080038
def Reg.ringRxSrcmask : Nat := 0x8008003C
def Reg.snapRingStatus : Nat := 0x80080F00
def Reg.snapRingFault : Nat := 0x80080F04
def Reg.ringSnapGen : Nat := 0x80080F0C
def Reg.engOp : Nat := 0x30000000
def Reg.engStatus : Nat := 0x30000004
def Reg.engSrcLo : Nat := 0x30000010
def Reg.engSrcHi : Nat := 0x30000014
def Reg.engSrcLen : Nat := 0x30000018
def Reg.engDstLo : Nat := 0x30000020
def Reg.engDstHi : Nat := 0x30000024
def Reg.engDstLen : Nat := 0x30000028

/-! ### Register fields -/

def Fld.turnCtlAdopt : Fld := ⟨Reg.turnCtl, 3, 1⟩
def Fld.turnCtlSrc : Fld := ⟨Reg.turnCtl, 1, 2⟩
def Fld.turnCtlRun : Fld := ⟨Reg.turnCtl, 0, 1⟩
def Fld.turnPeriodPeriod : Fld := ⟨Reg.turnPeriod, 0, 32⟩
def Fld.turnPeriodCurPeriodCur : Fld := ⟨Reg.turnPeriodCur, 0, 32⟩
def Fld.turnStatusAdoptJump : Fld := ⟨Reg.turnStatus, 7, 1⟩
def Fld.turnStatusPeriodRej : Fld := ⟨Reg.turnStatus, 6, 1⟩
def Fld.turnStatusEarly : Fld := ⟨Reg.turnStatus, 5, 1⟩
def Fld.turnStatusLostSticky : Fld := ⟨Reg.turnStatus, 4, 1⟩
def Fld.turnStatusLost : Fld := ⟨Reg.turnStatus, 3, 1⟩
def Fld.turnStatusSrcCur : Fld := ⟨Reg.turnStatus, 1, 2⟩
def Fld.turnStatusRunning : Fld := ⟨Reg.turnStatus, 0, 1⟩
def Fld.turnCountLoCountLo : Fld := ⟨Reg.turnCountLo, 0, 32⟩
def Fld.turnCountHiCountHi : Fld := ⟨Reg.turnCountHi, 0, 32⟩
def Fld.turnElapsedElapsed : Fld := ⟨Reg.turnElapsed, 0, 32⟩
def Fld.turnOvrPolicyPolicy (n : Nat) : Fld := ⟨Reg.turnOvrPolicy, 2 * n, 2⟩
def Fld.turnDoneLastDone : Fld := ⟨Reg.turnDoneLast, 0, 16⟩
def Fld.turnHealthyLastHealthy : Fld := ⟨Reg.turnHealthyLast, 0, 16⟩
def Fld.turnOvrFlagOvr : Fld := ⟨Reg.turnOvrFlag, 0, 16⟩
def Fld.turnOvrClrClr : Fld := ⟨Reg.turnOvrClr, 0, 16⟩
def Fld.turnOvrCountCount (n : Nat) : Fld := ⟨Reg.turnOvrCount n, 0, 32⟩
def Fld.snapTurnCountLoCountLo : Fld := ⟨Reg.snapTurnCountLo, 0, 32⟩
def Fld.snapTurnCountHiCountHi : Fld := ⟨Reg.snapTurnCountHi, 0, 32⟩
def Fld.snapTurnStatusStatus : Fld := ⟨Reg.snapTurnStatus, 0, 32⟩
def Fld.turnSnapGenGen : Fld := ⟨Reg.turnSnapGen, 0, 32⟩
def Fld.ldrStatusJobOp : Fld := ⟨Reg.ldrStatus, 8, 2⟩
def Fld.ldrStatusJobSlot : Fld := ⟨Reg.ldrStatus, 4, 4⟩
def Fld.ldrStatusBusy : Fld := ⟨Reg.ldrStatus, 0, 1⟩
def Fld.ldrJqBaseBase : Fld := ⟨Reg.ldrJqBase, 6, 17⟩
def Fld.ldrJqPushPush : Fld := ⟨Reg.ldrJqPush, 0, 32⟩
def Fld.ldrJqStatusUnderflow : Fld := ⟨Reg.ldrJqStatus, 7, 1⟩
def Fld.ldrJqStatusOverflow : Fld := ⟨Reg.ldrJqStatus, 6, 1⟩
def Fld.ldrJqStatusFull : Fld := ⟨Reg.ldrJqStatus, 5, 1⟩
def Fld.ldrJqStatusDepth : Fld := ⟨Reg.ldrJqStatus, 0, 5⟩
def Fld.ldrLastErrSlot : Fld := ⟨Reg.ldrLastErr, 8, 4⟩
def Fld.ldrLastErrCode : Fld := ⟨Reg.ldrLastErr, 0, 8⟩
def Fld.ldrLastTagTag : Fld := ⟨Reg.ldrLastTag, 0, 32⟩
def Fld.ldrSwapReqTrialTurns : Fld := ⟨Reg.ldrSwapReq, 8, 8⟩
def Fld.ldrSwapReqCancel : Fld := ⟨Reg.ldrSwapReq, 7, 1⟩
def Fld.ldrSwapReqState : Fld := ⟨Reg.ldrSwapReq, 6, 1⟩
def Fld.ldrSwapReqMode : Fld := ⟨Reg.ldrSwapReq, 4, 2⟩
def Fld.ldrSwapReqSlot : Fld := ⟨Reg.ldrSwapReq, 0, 4⟩
def Fld.ldrSwapResultSlot : Fld := ⟨Reg.ldrSwapResult, 8, 4⟩
def Fld.ldrSwapResultCode : Fld := ⟨Reg.ldrSwapResult, 0, 8⟩
def Fld.ldrSlotTrialLeft (n : Nat) : Fld := ⟨Reg.ldrSlot n, 8, 8⟩
def Fld.ldrSlotCopying (n : Nat) : Fld := ⟨Reg.ldrSlot n, 6, 1⟩
def Fld.ldrSlotTrial (n : Nat) : Fld := ⟨Reg.ldrSlot n, 5, 1⟩
def Fld.ldrSlotSwapPend (n : Nat) : Fld := ⟨Reg.ldrSlot n, 4, 1⟩
def Fld.ldrSlotLoading (n : Nat) : Fld := ⟨Reg.ldrSlot n, 3, 1⟩
def Fld.ldrSlotValidB (n : Nat) : Fld := ⟨Reg.ldrSlot n, 2, 1⟩
def Fld.ldrSlotValidA (n : Nat) : Fld := ⟨Reg.ldrSlot n, 1, 1⟩
def Fld.ldrSlotActive (n : Nat) : Fld := ⟨Reg.ldrSlot n, 0, 1⟩
def Fld.ldrScrubCorrCount (n : Nat) : Fld := ⟨Reg.ldrScrubCorr n, 0, 32⟩
def Fld.ldrScrubUncCount (n : Nat) : Fld := ⟨Reg.ldrScrubUnc n, 0, 32⟩
def Fld.ldrScrubLastAddrFrame : Fld := ⟨Reg.ldrScrubLastAddr, 0, 27⟩
def Fld.ldrScrubLastSynOutcome : Fld := ⟨Reg.ldrScrubLastSyn, 11, 3⟩
def Fld.ldrScrubLastSynP : Fld := ⟨Reg.ldrScrubLastSyn, 10, 1⟩
def Fld.ldrScrubLastSynS : Fld := ⟨Reg.ldrScrubLastSyn, 3, 7⟩
def Fld.ldrScrubLastSynWord : Fld := ⟨Reg.ldrScrubLastSyn, 0, 3⟩
def Fld.snapLdrStatusStatus : Fld := ⟨Reg.snapLdrStatus, 0, 32⟩
def Fld.snapScrubLastAddrAddr : Fld := ⟨Reg.snapScrubLastAddr, 0, 32⟩
def Fld.snapScrubLastSynSyn : Fld := ⟨Reg.snapScrubLastSyn, 0, 32⟩
def Fld.ldrSnapGenGen : Fld := ⟨Reg.ldrSnapGen, 0, 32⟩
def Fld.slcStateGkind (w : Nat) : Fld := ⟨Reg.slcState w, 18, 2⟩
def Fld.slcStateGmember (w : Nat) : Fld := ⟨Reg.slcState w, 16, 2⟩
def Fld.slcStateBoundPort (w : Nat) : Fld := ⟨Reg.slcState w, 15, 1⟩
def Fld.slcStateBoundVf (w : Nat) : Fld := ⟨Reg.slcState w, 10, 5⟩
def Fld.slcStateChuck (w : Nat) : Fld := ⟨Reg.slcState w, 8, 2⟩
def Fld.slcStatePower (w : Nat) : Fld := ⟨Reg.slcState w, 6, 2⟩
def Fld.slcStateState (w : Nat) : Fld := ⟨Reg.slcState w, 0, 3⟩
def Fld.slcFaultSweep (w : Nat) : Fld := ⟨Reg.slcFault w, 7, 1⟩
def Fld.slcFaultDevice (w : Nat) : Fld := ⟨Reg.slcFault w, 6, 1⟩
def Fld.slcFaultTemp (w : Nat) : Fld := ⟨Reg.slcFault w, 5, 1⟩
def Fld.slcFaultSupply (w : Nat) : Fld := ⟨Reg.slcFault w, 4, 1⟩
def Fld.slcFaultTick (w : Nat) : Fld := ⟨Reg.slcFault w, 3, 1⟩
def Fld.slcFaultClock (w : Nat) : Fld := ⟨Reg.slcFault w, 2, 1⟩
def Fld.slcFaultConfig (w : Nat) : Fld := ⟨Reg.slcFault w, 1, 1⟩
def Fld.slcFaultChuck (w : Nat) : Fld := ⟨Reg.slcFault w, 0, 1⟩
def Fld.slcReqOp (w : Nat) : Fld := ⟨Reg.slcReq w, 0, 3⟩
def Fld.slcReqStatusPend (w : Nat) : Fld := ⟨Reg.slcReqStatus w, 8, 4⟩
def Fld.slcReqStatusResult (w : Nat) : Fld := ⟨Reg.slcReqStatus w, 0, 8⟩
def Fld.slcCtlWinsel (w : Nat) : Fld := ⟨Reg.slcCtl w, 4, 2⟩
def Fld.slcCtlVfreqEn (w : Nat) : Fld := ⟨Reg.slcCtl w, 1, 1⟩
def Fld.slcCtlSlotEn (w : Nat) : Fld := ⟨Reg.slcCtl w, 0, 1⟩
def Fld.slcClkRangeErr (w : Nat) : Fld := ⟨Reg.slcClk w, 8, 4⟩
def Fld.slcClkLock (w : Nat) : Fld := ⟨Reg.slcClk w, 4, 4⟩
def Fld.slcClkEn (w : Nat) : Fld := ⟨Reg.slcClk w, 0, 4⟩
def Fld.slcChuckStatusFaultCell (w : Nat) : Fld := ⟨Reg.slcChuckStatus w, 0, 9⟩
def Fld.slcBmStatusCollide (w b : Nat) : Fld := ⟨Reg.slcBmStatus w b, 31, 1⟩
def Fld.slcBmStatusUncorr (w b : Nat) : Fld := ⟨Reg.slcBmStatus w b, 30, 1⟩
def Fld.slcBmStatusOverflow (w b : Nat) : Fld := ⟨Reg.slcBmStatus w b, 29, 1⟩
def Fld.slcBmStatusUnderflow (w b : Nat) : Fld := ⟨Reg.slcBmStatus w b, 28, 1⟩
def Fld.slcBmStatusCorrClr (w b : Nat) : Fld := ⟨Reg.slcBmStatus w b, 27, 1⟩
def Fld.slcBmStatusCorrCount (w b : Nat) : Fld := ⟨Reg.slcBmStatus w b, 13, 8⟩
def Fld.slcBmStatusDepth (w b : Nat) : Fld := ⟨Reg.slcBmStatus w b, 0, 13⟩
def Fld.slcBmErraddrAddr (w b : Nat) : Fld := ⟨Reg.slcBmErraddr w b, 0, 9⟩
def Fld.snapSlcStateState (w : Nat) : Fld := ⟨Reg.snapSlcState w, 0, 32⟩
def Fld.slcSnapGenGen (w : Nat) : Fld := ⟨Reg.slcSnapGen w, 0, 32⟩
def Fld.ptStatusNumVfs (p : Nat) : Fld := ⟨Reg.ptStatus p, 10, 5⟩
def Fld.ptStatusVfEn (p : Nat) : Fld := ⟨Reg.ptStatus p, 9, 1⟩
def Fld.ptStatusPerst (p : Nat) : Fld := ⟨Reg.ptStatus p, 8, 1⟩
def Fld.ptStatusWidth (p : Nat) : Fld := ⟨Reg.ptStatus p, 4, 4⟩
def Fld.ptStatusSpeed (p : Nat) : Fld := ⟨Reg.ptStatus p, 1, 3⟩
def Fld.ptStatusLinkUp (p : Nat) : Fld := ⟨Reg.ptStatus p, 0, 1⟩
def Fld.ptLinkCfgFromWord (p : Nat) : Fld := ⟨Reg.ptLinkCfg p, 31, 1⟩
def Fld.ptLinkCfgL1ssDis (p : Nat) : Fld := ⟨Reg.ptLinkCfg p, 8, 1⟩
def Fld.ptLinkCfgMaxWidth (p : Nat) : Fld := ⟨Reg.ptLinkCfg p, 4, 4⟩
def Fld.ptLinkCfgMaxSpeed (p : Nat) : Fld := ⟨Reg.ptLinkCfg p, 1, 3⟩
def Fld.ptLinkCfgSris (p : Nat) : Fld := ⟨Reg.ptLinkCfg p, 0, 1⟩
def Fld.ptDmaTokensT (p : Nat) : Fld := ⟨Reg.ptDmaTokens p, 0, 32⟩
def Fld.ptDmaPoolPool (p : Nat) : Fld := ⟨Reg.ptDmaPool p, 0, 32⟩
def Fld.ptDmaUsedLastUsed (p : Nat) : Fld := ⟨Reg.ptDmaUsedLast p, 0, 32⟩
def Fld.ptDmaWeightW (p i j : Nat) : Fld := ⟨Reg.ptDmaWeight p i, 8 * j, 8⟩
def Fld.ptErrLogValid (p : Nat) : Fld := ⟨Reg.ptErrLog p, 31, 1⟩
def Fld.ptErrLogKind (p : Nat) : Fld := ⟨Reg.ptErrLog p, 8, 2⟩
def Fld.ptErrLogTcid (p : Nat) : Fld := ⟨Reg.ptErrLog p, 0, 6⟩
def Fld.ptErrAddrLoAddrLo (p : Nat) : Fld := ⟨Reg.ptErrAddrLo p, 0, 32⟩
def Fld.ptErrAddrHiAddrHi (p : Nat) : Fld := ⟨Reg.ptErrAddrHi p, 0, 8⟩
def Fld.snapPtStatusStatus (p : Nat) : Fld := ⟨Reg.snapPtStatus p, 0, 32⟩
def Fld.ptSnapGenGen (p : Nat) : Fld := ⟨Reg.ptSnapGen p, 0, 32⟩
def Fld.mbInStageData (w k : Nat) : Fld := ⟨Reg.mbInStage w k, 0, 32⟩
def Fld.mbInPushPush (w : Nat) : Fld := ⟨Reg.mbInPush w, 0, 32⟩
def Fld.mbOutPopPop (w : Nat) : Fld := ⟨Reg.mbOutPop w, 0, 32⟩
def Fld.mbCountOutVis (w : Nat) : Fld := ⟨Reg.mbCount w, 24, 7⟩
def Fld.mbCountOutTotal (w : Nat) : Fld := ⟨Reg.mbCount w, 16, 7⟩
def Fld.mbCountInVis (w : Nat) : Fld := ⟨Reg.mbCount w, 8, 7⟩
def Fld.mbCountInTotal (w : Nat) : Fld := ⟨Reg.mbCount w, 0, 7⟩
def Fld.mbFlagsOutUnf (w : Nat) : Fld := ⟨Reg.mbFlags w, 3, 1⟩
def Fld.mbFlagsOutOvf (w : Nat) : Fld := ⟨Reg.mbFlags w, 2, 1⟩
def Fld.mbFlagsInUnf (w : Nat) : Fld := ⟨Reg.mbFlags w, 1, 1⟩
def Fld.mbFlagsInOvf (w : Nat) : Fld := ⟨Reg.mbFlags w, 0, 1⟩
def Fld.mbInLowwaterLevel (w : Nat) : Fld := ⟨Reg.mbInLowwater w, 0, 6⟩
def Fld.mbOutHeadData (w k : Nat) : Fld := ⟨Reg.mbOutHead w k, 0, 32⟩
def Fld.snapMbCountCount (w : Nat) : Fld := ⟨Reg.snapMbCount w, 0, 32⟩
def Fld.snapMbFlagsFlags (w : Nat) : Fld := ⟨Reg.snapMbFlags w, 0, 32⟩
def Fld.mbSnapGenGen (w : Nat) : Fld := ⟨Reg.mbSnapGen w, 0, 32⟩
def Fld.dmaCtlResume (w : Nat) : Fld := ⟨Reg.dmaCtl w, 1, 1⟩
def Fld.dmaCtlEn (w : Nat) : Fld := ⟨Reg.dmaCtl w, 0, 1⟩
def Fld.dmaStatusLastCode (w : Nat) : Fld := ⟨Reg.dmaStatus w, 8, 8⟩
def Fld.dmaStatusBusy (w : Nat) : Fld := ⟨Reg.dmaStatus w, 1, 1⟩
def Fld.dmaStatusHalted (w : Nat) : Fld := ⟨Reg.dmaStatus w, 0, 1⟩
def Fld.dmaRingLoBaseLo (w : Nat) : Fld := ⟨Reg.dmaRingLo w, 6, 26⟩
def Fld.dmaRingHiBaseHi (w : Nat) : Fld := ⟨Reg.dmaRingHi w, 0, 32⟩
def Fld.dmaRingSizeLog2 (w : Nat) : Fld := ⟨Reg.dmaRingSize w, 0, 4⟩
def Fld.dmaTailTail (w : Nat) : Fld := ⟨Reg.dmaTail w, 0, 12⟩
def Fld.dmaHeadHead (w : Nat) : Fld := ⟨Reg.dmaHead w, 0, 12⟩
def Fld.dmaBalanceBalance (w : Nat) : Fld := ⟨Reg.dmaBalance w, 0, 32⟩
def Fld.snapDmaStatusStatus (w : Nat) : Fld := ⟨Reg.snapDmaStatus w, 0, 32⟩
def Fld.dmaSnapGenGen (w : Nat) : Fld := ⟨Reg.dmaSnapGen w, 0, 32⟩
def Fld.bmxCtlActRestored : Fld := ⟨Reg.bmxCtl, 1, 1⟩
def Fld.bmxCtlLock : Fld := ⟨Reg.bmxCtl, 0, 1⟩
def Fld.bmxStatusLockHeld : Fld := ⟨Reg.bmxStatus, 8, 1⟩
def Fld.bmxStatusLockMaster : Fld := ⟨Reg.bmxStatus, 4, 4⟩
def Fld.bmxStatusLockTarget : Fld := ⟨Reg.bmxStatus, 0, 3⟩
def Fld.bmxPriLoPri (t m : Nat) : Fld := ⟨Reg.bmxPriLo t, 4 * m, 4⟩
def Fld.bmxPriHiPriM8 (t : Nat) : Fld := ⟨Reg.bmxPriHi t, 0, 4⟩
def Fld.bmxDecLog0AddrLo : Fld := ⟨Reg.bmxDecLog0, 0, 32⟩
def Fld.bmxDecLog1Valid : Fld := ⟨Reg.bmxDecLog1, 31, 1⟩
def Fld.bmxDecLog1W : Fld := ⟨Reg.bmxDecLog1, 22, 1⟩
def Fld.bmxDecLog1Tcid : Fld := ⟨Reg.bmxDecLog1, 16, 6⟩
def Fld.bmxDecLog1Master : Fld := ⟨Reg.bmxDecLog1, 12, 4⟩
def Fld.bmxDecLog1AddrHi : Fld := ⟨Reg.bmxDecLog1, 0, 8⟩
def Fld.bmxIntCountCount : Fld := ⟨Reg.bmxIntCount, 0, 32⟩
def Fld.bmxLockForcedCount : Fld := ⟨Reg.bmxLockForced, 0, 32⟩
def Fld.actDenyPopPop : Fld := ⟨Reg.actDenyPop, 0, 32⟩
def Fld.actDenyStatusUnderflow : Fld := ⟨Reg.actDenyStatus, 7, 1⟩
def Fld.actDenyStatusOverflow : Fld := ⟨Reg.actDenyStatus, 6, 1⟩
def Fld.actDenyStatusFull : Fld := ⟨Reg.actDenyStatus, 5, 1⟩
def Fld.actDenyStatusDepth : Fld := ⟨Reg.actDenyStatus, 0, 5⟩
def Fld.actDenyLostCount : Fld := ⟨Reg.actDenyLost, 0, 32⟩
def Fld.snapBmxStatusStatus : Fld := ⟨Reg.snapBmxStatus, 0, 32⟩
def Fld.snapActDenyStatusStatus : Fld := ⟨Reg.snapActDenyStatus, 0, 32⟩
def Fld.bmxSnapGenGen : Fld := ⟨Reg.bmxSnapGen, 0, 32⟩
def Fld.actRgnBaseBase (t r : Nat) : Fld := ⟨Reg.actRgnBase t r, 12, 20⟩
def Fld.actRgnBaseEn (t r : Nat) : Fld := ⟨Reg.actRgnBase t r, 0, 1⟩
def Fld.actRgnLimitLimit (t r : Nat) : Fld := ⟨Reg.actRgnLimit t r, 12, 20⟩
def Fld.actEntKeyValid (t e : Nat) : Fld := ⟨Reg.actEntKey t e, 31, 1⟩
def Fld.actEntKeyMasterMask (t e : Nat) : Fld := ⟨Reg.actEntKey t e, 16, 9⟩
def Fld.actEntKeyTcid (t e : Nat) : Fld := ⟨Reg.actEntKey t e, 0, 6⟩
def Fld.actEntPermWr (t e : Nat) : Fld := ⟨Reg.actEntPerm t e, 16, 16⟩
def Fld.actEntPermRd (t e : Nat) : Fld := ⟨Reg.actEntPerm t e, 0, 16⟩
def Fld.benchStatusTamperErased : Fld := ⟨Reg.benchStatus, 10, 1⟩
def Fld.benchStatusZeroing : Fld := ⟨Reg.benchStatus, 9, 1⟩
def Fld.benchStatusReady : Fld := ⟨Reg.benchStatus, 8, 1⟩
def Fld.benchStatusAwake : Fld := ⟨Reg.benchStatus, 0, 8⟩
def Fld.benchSleepCtlIdleUs : Fld := ⟨Reg.benchSleepCtl, 8, 16⟩
def Fld.benchSleepCtlSleepEn : Fld := ⟨Reg.benchSleepCtl, 0, 8⟩
def Fld.benchPatrolCtlPeriodMs : Fld := ⟨Reg.benchPatrolCtl, 1, 16⟩
def Fld.benchPatrolCtlEn : Fld := ⟨Reg.benchPatrolCtl, 0, 1⟩
def Fld.benchEccCorrCount : Fld := ⟨Reg.benchEccCorr, 0, 32⟩
def Fld.benchEccUncCount : Fld := ⟨Reg.benchEccUnc, 0, 32⟩
def Fld.benchEccAddrWord : Fld := ⟨Reg.benchEccAddr, 3, 20⟩
def Fld.benchEccSynValid : Fld := ⟨Reg.benchEccSyn, 31, 1⟩
def Fld.benchEccSynPatrol : Fld := ⟨Reg.benchEccSyn, 9, 1⟩
def Fld.benchEccSynP : Fld := ⟨Reg.benchEccSyn, 8, 1⟩
def Fld.benchEccSynS : Fld := ⟨Reg.benchEccSyn, 0, 7⟩
def Fld.benchDirStatusMaxBusy : Fld := ⟨Reg.benchDirStatus, 8, 5⟩
def Fld.benchDirStatusBusy : Fld := ⟨Reg.benchDirStatus, 0, 5⟩
def Fld.snapBenchStatusStatus : Fld := ⟨Reg.snapBenchStatus, 0, 32⟩
def Fld.snapBenchEccUncCount : Fld := ⟨Reg.snapBenchEccUnc, 0, 32⟩
def Fld.benchSnapGenGen : Fld := ⟨Reg.benchSnapGen, 0, 32⟩
def Fld.grnStatusPageTrunc : Fld := ⟨Reg.grnStatus, 15, 1⟩
def Fld.grnStatusStoreTorn : Fld := ⟨Reg.grnStatus, 14, 1⟩
def Fld.grnStatusRecallNone : Fld := ⟨Reg.grnStatus, 13, 1⟩
def Fld.grnStatusLastCause : Fld := ⟨Reg.grnStatus, 10, 2⟩
def Fld.grnStatusRecallBank : Fld := ⟨Reg.grnStatus, 9, 1⟩
def Fld.grnStatusArmed : Fld := ⟨Reg.grnStatus, 8, 1⟩
def Fld.grnStatusPgwrBusy : Fld := ⟨Reg.grnStatus, 3, 1⟩
def Fld.grnStatusStoreBusy : Fld := ⟨Reg.grnStatus, 2, 1⟩
def Fld.grnStatusDReady : Fld := ⟨Reg.grnStatus, 1, 1⟩
def Fld.grnStatusSReady : Fld := ⟨Reg.grnStatus, 0, 1⟩
def Fld.grnCtlAutostoreEn : Fld := ⟨Reg.grnCtl, 0, 1⟩
def Fld.grnStoreCmdStore : Fld := ⟨Reg.grnStoreCmd, 0, 1⟩
def Fld.grnSSsnSsn : Fld := ⟨Reg.grnSSsn, 0, 32⟩
def Fld.grnEccCorrCount : Fld := ⟨Reg.grnEccCorr, 0, 32⟩
def Fld.grnEccUncCount : Fld := ⟨Reg.grnEccUnc, 0, 32⟩
def Fld.grnEccAddrCh : Fld := ⟨Reg.grnEccAddr, 18, 1⟩
def Fld.grnEccAddrGroup : Fld := ⟨Reg.grnEccAddr, 3, 15⟩
def Fld.grnEccSynValid : Fld := ⟨Reg.grnEccSyn, 31, 1⟩
def Fld.grnEccSynPatrol : Fld := ⟨Reg.grnEccSyn, 9, 1⟩
def Fld.grnEccSynP : Fld := ⟨Reg.grnEccSyn, 8, 1⟩
def Fld.grnEccSynS : Fld := ⟨Reg.grnEccSyn, 0, 7⟩
def Fld.grnPatrolCtlEn : Fld := ⟨Reg.grnPatrolCtl, 0, 1⟩
def Fld.grnUnlockLoCand : Fld := ⟨Reg.grnUnlockLo, 0, 32⟩
def Fld.grnUnlockHiCand : Fld := ⟨Reg.grnUnlockHi, 0, 32⟩
def Fld.grnUnlockCmdAll : Fld := ⟨Reg.grnUnlockCmd, 6, 1⟩
def Fld.grnUnlockCmdRelock : Fld := ⟨Reg.grnUnlockCmd, 5, 1⟩
def Fld.grnUnlockCmdKind : Fld := ⟨Reg.grnUnlockCmd, 4, 1⟩
def Fld.grnUnlockCmdRegion : Fld := ⟨Reg.grnUnlockCmd, 1, 3⟩
def Fld.grnUnlockCmdCh : Fld := ⟨Reg.grnUnlockCmd, 0, 1⟩
def Fld.grnUnlockStatusHeld : Fld := ⟨Reg.grnUnlockStatus, 0, 32⟩
def Fld.grnUnlockTimeoutMs : Fld := ⟨Reg.grnUnlockTimeout, 0, 16⟩
def Fld.grnUnlockFailLockout : Fld := ⟨Reg.grnUnlockFail, 0, 16⟩
def Fld.grnPwLoNew : Fld := ⟨Reg.grnPwLo, 0, 32⟩
def Fld.grnPwHiNew : Fld := ⟨Reg.grnPwHi, 0, 32⟩
def Fld.grnPwSetTarget : Fld := ⟨Reg.grnPwSet, 0, 5⟩
def Fld.grnOpResultCode : Fld := ⟨Reg.grnOpResult, 0, 8⟩
def Fld.grnPgbufData (k : Nat) : Fld := ⟨Reg.grnPgbuf k, 0, 32⟩
def Fld.grnPgwrGo : Fld := ⟨Reg.grnPgwr, 31, 1⟩
def Fld.grnPgwrLen : Fld := ⟨Reg.grnPgwr, 19, 7⟩
def Fld.grnPgwrCh : Fld := ⟨Reg.grnPgwr, 18, 1⟩
def Fld.grnPgwrOffset : Fld := ⟨Reg.grnPgwr, 0, 18⟩
def Fld.grnPgwrResultCode : Fld := ⟨Reg.grnPgwrResult, 0, 8⟩
def Fld.snapGrnStatusStatus : Fld := ⟨Reg.snapGrnStatus, 0, 32⟩
def Fld.snapGrnEccUncCount : Fld := ⟨Reg.snapGrnEccUnc, 0, 32⟩
def Fld.grnSnapGenGen : Fld := ⟨Reg.grnSnapGen, 0, 32⟩
def Fld.resStatusSector : Fld := ⟨Reg.resStatus, 7, 9⟩
def Fld.resStatusIscMode : Fld := ⟨Reg.resStatus, 6, 1⟩
def Fld.resStatusSuspended : Fld := ⟨Reg.resStatus, 5, 1⟩
def Fld.resStatusOp : Fld := ⟨Reg.resStatus, 3, 2⟩
def Fld.resStatusBank : Fld := ⟨Reg.resStatus, 2, 1⟩
def Fld.resStatusBusy : Fld := ⟨Reg.resStatus, 1, 1⟩
def Fld.resStatusReady : Fld := ⟨Reg.resStatus, 0, 1⟩
def Fld.resCtlLock : Fld := ⟨Reg.resCtl, 0, 1⟩
def Fld.resCmdSector : Fld := ⟨Reg.resCmd, 8, 9⟩
def Fld.resCmdOp : Fld := ⟨Reg.resCmd, 0, 3⟩
def Fld.resResultIsc : Fld := ⟨Reg.resResult, 10, 1⟩
def Fld.resResultOp : Fld := ⟨Reg.resResult, 8, 2⟩
def Fld.resResultCode : Fld := ⟨Reg.resResult, 0, 8⟩
def Fld.resElapsedUs : Fld := ⟨Reg.resElapsed, 0, 32⟩
def Fld.resBufPage : Fld := ⟨Reg.resBuf, 8, 17⟩
def Fld.resBufTcid : Fld := ⟨Reg.resBuf, 1, 6⟩
def Fld.resBufValid : Fld := ⟨Reg.resBuf, 0, 1⟩
def Fld.resSuspendCfgMinRunUs : Fld := ⟨Reg.resSuspendCfg, 8, 12⟩
def Fld.resSuspendCfgQuietUs : Fld := ⟨Reg.resSuspendCfg, 0, 8⟩
def Fld.resSuspMaxMaxUs : Fld := ⟨Reg.resSuspMax, 0, 16⟩
def Fld.resWpWp : Fld := ⟨Reg.resWp, 0, 32⟩
def Fld.resSuspCountCount : Fld := ⟨Reg.resSuspCount, 0, 32⟩
def Fld.resTornMapTorn (i : Nat) : Fld := ⟨Reg.resTornMap i, 0, 32⟩
def Fld.snapResStatusStatus : Fld := ⟨Reg.snapResStatus, 0, 32⟩
def Fld.resSnapGenGen : Fld := ⟨Reg.resSnapGen, 0, 32⟩
def Fld.hwdStatusDefaultGrants : Fld := ⟨Reg.hwdStatus, 4, 1⟩
def Fld.hwdStatusBootFail : Fld := ⟨Reg.hwdStatus, 3, 1⟩
def Fld.hwdStatusFallback : Fld := ⟨Reg.hwdStatus, 2, 1⟩
def Fld.hwdStatusBootCopy : Fld := ⟨Reg.hwdStatus, 1, 1⟩
def Fld.hwdStatusCmdReady : Fld := ⟨Reg.hwdStatus, 0, 1⟩
def Fld.hwdFwVersionVersion : Fld := ⟨Reg.hwdFwVersion, 0, 32⟩
def Fld.hwdSvnSvn : Fld := ⟨Reg.hwdSvn, 0, 32⟩
def Fld.hwdRollbackCounter : Fld := ⟨Reg.hwdRollback, 0, 32⟩
def Fld.hwdBuserr0AddrLo : Fld := ⟨Reg.hwdBuserr0, 0, 32⟩
def Fld.hwdBuserr1Valid : Fld := ⟨Reg.hwdBuserr1, 31, 1⟩
def Fld.hwdBuserr1Code : Fld := ⟨Reg.hwdBuserr1, 16, 3⟩
def Fld.hwdBuserr1Master : Fld := ⟨Reg.hwdBuserr1, 12, 4⟩
def Fld.hwdBuserr1AddrHi : Fld := ⟨Reg.hwdBuserr1, 0, 8⟩
def Fld.hwdCtlLock : Fld := ⟨Reg.hwdCtl, 0, 1⟩
def Fld.hwdSmbCtlPecReq : Fld := ⟨Reg.hwdSmbCtl, 0, 1⟩
def Fld.hwdSmbStatusTimeouts : Fld := ⟨Reg.hwdSmbStatus, 8, 8⟩
def Fld.hwdSmbStatusPecErrs : Fld := ⟨Reg.hwdSmbStatus, 0, 8⟩
def Fld.hwdQSqBaseBase (q : Nat) : Fld := ⟨Reg.hwdQSqBase q, 12, 11⟩
def Fld.hwdQCqBaseBase (q : Nat) : Fld := ⟨Reg.hwdQCqBase q, 12, 11⟩
def Fld.hwdQPushDoorbell (q : Nat) : Fld := ⟨Reg.hwdQPush q, 0, 32⟩
def Fld.hwdQCpopDoorbell (q : Nat) : Fld := ⟨Reg.hwdQCpop q, 0, 32⟩
def Fld.hwdQSqStatusHead (q : Nat) : Fld := ⟨Reg.hwdQSqStatus q, 24, 6⟩
def Fld.hwdQSqStatusTail (q : Nat) : Fld := ⟨Reg.hwdQSqStatus q, 16, 6⟩
def Fld.hwdQSqStatusUnderflow (q : Nat) : Fld := ⟨Reg.hwdQSqStatus q, 9, 1⟩
def Fld.hwdQSqStatusOverflow (q : Nat) : Fld := ⟨Reg.hwdQSqStatus q, 8, 1⟩
def Fld.hwdQSqStatusFull (q : Nat) : Fld := ⟨Reg.hwdQSqStatus q, 7, 1⟩
def Fld.hwdQSqStatusDepth (q : Nat) : Fld := ⟨Reg.hwdQSqStatus q, 0, 7⟩
def Fld.hwdQCqStatusHead (q : Nat) : Fld := ⟨Reg.hwdQCqStatus q, 24, 6⟩
def Fld.hwdQCqStatusTail (q : Nat) : Fld := ⟨Reg.hwdQCqStatus q, 16, 6⟩
def Fld.hwdQCqStatusUnderflow (q : Nat) : Fld := ⟨Reg.hwdQCqStatus q, 9, 1⟩
def Fld.hwdQCqStatusOverflow (q : Nat) : Fld := ⟨Reg.hwdQCqStatus q, 8, 1⟩
def Fld.hwdQCqStatusFull (q : Nat) : Fld := ⟨Reg.hwdQCqStatus q, 7, 1⟩
def Fld.hwdQCqStatusDepth (q : Nat) : Fld := ⟨Reg.hwdQCqStatus q, 0, 7⟩
def Fld.hwdQPermGroups (q : Nat) : Fld := ⟨Reg.hwdQPerm q, 0, 9⟩
def Fld.snapHwdStatusStatus : Fld := ⟨Reg.snapHwdStatus, 0, 32⟩
def Fld.hwdSnapGenGen : Fld := ⟨Reg.hwdSnapGen, 0, 32⟩
def Fld.secStatusTampered : Fld := ⟨Reg.secStatus, 7, 1⟩
def Fld.secStatusOtpPend : Fld := ⟨Reg.secStatus, 6, 1⟩
def Fld.secStatusErasing : Fld := ⟨Reg.secStatus, 5, 1⟩
def Fld.secStatusOpSlot : Fld := ⟨Reg.secStatus, 4, 1⟩
def Fld.secStatusOpKey : Fld := ⟨Reg.secStatus, 3, 1⟩
def Fld.secStatusOtpWeak : Fld := ⟨Reg.secStatus, 2, 1⟩
def Fld.secStatusOtpOk : Fld := ⟨Reg.secStatus, 1, 1⟩
def Fld.secStatusKsReady : Fld := ⟨Reg.secStatus, 0, 1⟩
def Fld.secLocksProgrammed : Fld := ⟨Reg.secLocks, 8, 6⟩
def Fld.secLocksInForce : Fld := ⟨Reg.secLocks, 0, 6⟩
def Fld.secKeysTskCount : Fld := ⟨Reg.secKeys, 8, 6⟩
def Fld.secKeysKak : Fld := ⟨Reg.secKeys, 1, 1⟩
def Fld.secKeysIdk : Fld := ⟨Reg.secKeys, 0, 1⟩
def Fld.secMinEndorseSerial : Fld := ⟨Reg.secMinEndorse, 0, 32⟩
def Fld.secSerialSerial (i : Nat) : Fld := ⟨Reg.secSerial i, 0, 32⟩
def Fld.secVendorHashHash (i : Nat) : Fld := ⟨Reg.secVendorHash i, 0, 32⟩
def Fld.secOpHashHash (i : Nat) : Fld := ⟨Reg.secOpHash i, 0, 32⟩
def Fld.secKaKeyidKeyid (i : Nat) : Fld := ⟨Reg.secKaKeyid i, 0, 32⟩
def Fld.snapSecStatusStatus : Fld := ⟨Reg.snapSecStatus, 0, 32⟩
def Fld.secSnapGenGen : Fld := ⟨Reg.secSnapGen, 0, 32⟩
def Fld.scribeCtlRingLead : Fld := ⟨Reg.scribeCtl, 16, 8⟩
def Fld.scribeCtlEvtEn : Fld := ⟨Reg.scribeCtl, 6, 1⟩
def Fld.scribeCtlRingOutEn : Fld := ⟨Reg.scribeCtl, 5, 1⟩
def Fld.scribeCtlRingInEn : Fld := ⟨Reg.scribeCtl, 4, 1⟩
def Fld.scribeCtlIoOutEn : Fld := ⟨Reg.scribeCtl, 3, 1⟩
def Fld.scribeCtlIoInEn : Fld := ⟨Reg.scribeCtl, 2, 1⟩
def Fld.scribeCtlMode : Fld := ⟨Reg.scribeCtl, 1, 1⟩
def Fld.scribeCtlFire : Fld := ⟨Reg.scribeCtl, 0, 1⟩
def Fld.scribeStatusLate : Fld := ⟨Reg.scribeStatus, 8, 1⟩
def Fld.scribeStatusSnapOverrun : Fld := ⟨Reg.scribeStatus, 7, 1⟩
def Fld.scribeStatusUnread : Fld := ⟨Reg.scribeStatus, 6, 1⟩
def Fld.scribeStatusPendAligned : Fld := ⟨Reg.scribeStatus, 5, 1⟩
def Fld.scribeStatusLastSrc : Fld := ⟨Reg.scribeStatus, 0, 4⟩
def Fld.scribeGenGen : Fld := ⟨Reg.scribeGen, 0, 32⟩
def Fld.scribeAckAck : Fld := ⟨Reg.scribeAck, 0, 32⟩
def Fld.scribeCapStatusRestoring : Fld := ⟨Reg.scribeCapStatus, 16, 16⟩
def Fld.scribeCapStatusCapturing : Fld := ⟨Reg.scribeCapStatus, 0, 16⟩
def Fld.scribeTmaskMask (i : Nat) : Fld := ⟨Reg.scribeTmask i, 0, 32⟩
def Fld.snapScribeStatusStatus : Fld := ⟨Reg.snapScribeStatus, 0, 32⟩
def Fld.scribeSnapGenGen : Fld := ⟨Reg.scribeSnapGen, 0, 32⟩
def Fld.evtCtlLock : Fld := ⟨Reg.evtCtl, 0, 1⟩
def Fld.evtStatusSumAny : Fld := ⟨Reg.evtStatusSum, 0, 16⟩
def Fld.evtStatusStatus (i : Nat) : Fld := ⟨Reg.evtStatus i, 0, 32⟩
def Fld.evtEnableEnable (i : Nat) : Fld := ⟨Reg.evtEnable i, 0, 32⟩
def Fld.evtQHeadRecord (q k : Nat) : Fld := ⟨Reg.evtQHead q k, 0, 32⟩
def Fld.evtQPopPop (q : Nat) : Fld := ⟨Reg.evtQPop q, 0, 32⟩
def Fld.evtQStatusUnderflow (q : Nat) : Fld := ⟨Reg.evtQStatus q, 9, 1⟩
def Fld.evtQStatusOverflow (q : Nat) : Fld := ⟨Reg.evtQStatus q, 8, 1⟩
def Fld.evtQStatusFull (q : Nat) : Fld := ⟨Reg.evtQStatus q, 7, 1⟩
def Fld.evtQStatusDepth (q : Nat) : Fld := ⟨Reg.evtQStatus q, 0, 7⟩
def Fld.evtQLostCount (q : Nat) : Fld := ⟨Reg.evtQLost q, 0, 32⟩
def Fld.snapEvtStatusSumAny : Fld := ⟨Reg.snapEvtStatusSum, 0, 32⟩
def Fld.evtSnapGenGen : Fld := ⟨Reg.evtSnapGen, 0, 32⟩
def Fld.evtRouteVfVec (e : Nat) : Fld := ⟨Reg.evtRoute e, 16, 3⟩
def Fld.evtRoutePfVec (e : Nat) : Fld := ⟨Reg.evtRoute e, 8, 6⟩
def Fld.evtRouteRing (e : Nat) : Fld := ⟨Reg.evtRoute e, 6, 1⟩
def Fld.evtRouteSafe (e : Nat) : Fld := ⟨Reg.evtRoute e, 5, 1⟩
def Fld.evtRouteSmb (e : Nat) : Fld := ⟨Reg.evtRoute e, 4, 1⟩
def Fld.evtRouteHwd (e : Nat) : Fld := ⟨Reg.evtRoute e, 3, 1⟩
def Fld.evtRoutePfb (e : Nat) : Fld := ⟨Reg.evtRoute e, 2, 1⟩
def Fld.evtRoutePfa (e : Nat) : Fld := ⟨Reg.evtRoute e, 1, 1⟩
def Fld.evtRouteVf (e : Nat) : Fld := ⟨Reg.evtRoute e, 0, 1⟩
def Fld.pwrCtlEmptyOff : Fld := ⟨Reg.pwrCtl, 1, 1⟩
def Fld.pwrCtlDozeEn : Fld := ⟨Reg.pwrCtl, 0, 1⟩
def Fld.pwrStatusHibPend : Fld := ⟨Reg.pwrStatus, 1, 1⟩
def Fld.pwrStatusDevState : Fld := ⟨Reg.pwrStatus, 0, 1⟩
def Fld.pwrDomStatusOn : Fld := ⟨Reg.pwrDomStatus, 0, 22⟩
def Fld.pwrDomCtlOff : Fld := ⟨Reg.pwrDomCtl, 0, 6⟩
def Fld.pwrHibMinOffMs : Fld := ⟨Reg.pwrHib, 16, 16⟩
def Fld.pwrHibDelayMs : Fld := ⟨Reg.pwrHib, 0, 16⟩
def Fld.pwrSlotSyncWait (n : Nat) : Fld := ⟨Reg.pwrSlot n, 27, 1⟩
def Fld.pwrSlotWakePend (n : Nat) : Fld := ⟨Reg.pwrSlot n, 26, 1⟩
def Fld.pwrSlotPower (n : Nat) : Fld := ⟨Reg.pwrSlot n, 24, 2⟩
def Fld.pwrSlotIdleCnt (n : Nat) : Fld := ⟨Reg.pwrSlot n, 16, 8⟩
def Fld.pwrSlotIdleTurns (n : Nat) : Fld := ⟨Reg.pwrSlot n, 8, 8⟩
def Fld.pwrSlotAutoRetain (n : Nat) : Fld := ⟨Reg.pwrSlot n, 0, 1⟩
def Fld.snapPwrStatusStatus : Fld := ⟨Reg.snapPwrStatus, 0, 32⟩
def Fld.snapPwrDomStatusOn : Fld := ⟨Reg.snapPwrDomStatus, 0, 32⟩
def Fld.pwrSnapGenGen : Fld := ⟨Reg.pwrSnapGen, 0, 32⟩
def Fld.devReadySlot : Fld := ⟨Reg.devReady, 16, 16⟩
def Fld.devReadyAutoload : Fld := ⟨Reg.devReady, 11, 1⟩
def Fld.devReadyRing : Fld := ⟨Reg.devReady, 10, 1⟩
def Fld.devReadyPortb : Fld := ⟨Reg.devReady, 9, 1⟩
def Fld.devReadyPorta : Fld := ⟨Reg.devReady, 8, 1⟩
def Fld.devReadyAct : Fld := ⟨Reg.devReady, 7, 1⟩
def Fld.devReadyHwd : Fld := ⟨Reg.devReady, 6, 1⟩
def Fld.devReadyAon : Fld := ⟨Reg.devReady, 0, 1⟩
def Fld.devReadyGrainD : Fld := ⟨Reg.devReady, 1, 1⟩
def Fld.devReadyGrainS : Fld := ⟨Reg.devReady, 2, 1⟩
def Fld.devReadyResident : Fld := ⟨Reg.devReady, 3, 1⟩
def Fld.devReadyBench : Fld := ⟨Reg.devReady, 4, 1⟩
def Fld.devReadySec : Fld := ⟨Reg.devReady, 5, 1⟩
def Fld.devBootCausePorCause : Fld := ⟨Reg.devBootCause, 8, 4⟩
def Fld.devBootCauseCause : Fld := ⟨Reg.devBootCause, 0, 4⟩
def Fld.devResetHistSeen : Fld := ⟨Reg.devResetHist, 0, 7⟩
def Fld.devStrapSmbAddr : Fld := ⟨Reg.devStrap, 2, 2⟩
def Fld.devStrapBootSel : Fld := ⟨Reg.devStrap, 0, 2⟩
def Fld.devResetCmdKey : Fld := ⟨Reg.devResetCmd, 16, 16⟩
def Fld.devResetCmdWarm : Fld := ⟨Reg.devResetCmd, 0, 1⟩
def Fld.devAutoloadDone : Fld := ⟨Reg.devAutoload, 31, 1⟩
def Fld.devAutoloadRunning : Fld := ⟨Reg.devAutoload, 30, 1⟩
def Fld.devAutoloadDirBad : Fld := ⟨Reg.devAutoload, 29, 1⟩
def Fld.devAutoloadAbandoned : Fld := ⟨Reg.devAutoload, 28, 1⟩
def Fld.devAutoloadCount : Fld := ⟨Reg.devAutoload, 16, 5⟩
def Fld.devAutoloadFailed : Fld := ⟨Reg.devAutoload, 0, 16⟩
def Fld.devAutoloadErrCode (i j : Nat) : Fld := ⟨Reg.devAutoloadErr i, 8 * j, 8⟩
def Fld.snapDevReadyReady : Fld := ⟨Reg.snapDevReady, 0, 32⟩
def Fld.devSnapGenGen : Fld := ⟨Reg.devSnapGen, 0, 32⟩
def Fld.safeStatusClearRej : Fld := ⟨Reg.safeStatus, 11, 1⟩
def Fld.safeStatusInjBusy : Fld := ⟨Reg.safeStatus, 10, 1⟩
def Fld.safeStatusRbLow : Fld := ⟨Reg.safeStatus, 9, 1⟩
def Fld.safeStatusDrive : Fld := ⟨Reg.safeStatus, 8, 1⟩
def Fld.safeStatusSelftestDone : Fld := ⟨Reg.safeStatus, 2, 1⟩
def Fld.safeStatusDss : Fld := ⟨Reg.safeStatus, 1, 1⟩
def Fld.safeStatusArmed : Fld := ⟨Reg.safeStatus, 0, 1⟩
def Fld.safeCtlRingAct : Fld := ⟨Reg.safeCtl, 8, 2⟩
def Fld.safeCtlDssClear : Fld := ⟨Reg.safeCtl, 2, 1⟩
def Fld.safeCtlRelease : Fld := ⟨Reg.safeCtl, 1, 1⟩
def Fld.safeCtlLock : Fld := ⟨Reg.safeCtl, 0, 1⟩
def Fld.safeCauseSeen : Fld := ⟨Reg.safeCause, 0, 17⟩
def Fld.safeActiveActive : Fld := ⟨Reg.safeActive, 0, 17⟩
def Fld.safeDssCauses : Fld := ⟨Reg.safeDss, 0, 17⟩
def Fld.safeTestKey : Fld := ⟨Reg.safeTest, 16, 16⟩
def Fld.safeTestSlot : Fld := ⟨Reg.safeTest, 8, 4⟩
def Fld.safeTestMech : Fld := ⟨Reg.safeTest, 0, 5⟩
def Fld.safeRingMaskMask : Fld := ⟨Reg.safeRingMask, 0, 16⟩
def Fld.safeSupplyVccioIn : Fld := ⟨Reg.safeSupply, 16, 16⟩
def Fld.safeSupplyInWindow : Fld := ⟨Reg.safeSupply, 0, 7⟩
def Fld.safeVccioClassClass (n : Nat) : Fld := ⟨Reg.safeVccioClass, 2 * n, 2⟩
def Fld.safeTempOver : Fld := ⟨Reg.safeTemp, 16, 1⟩
def Fld.safeTempReading : Fld := ⟨Reg.safeTemp, 0, 16⟩
def Fld.safeClkFaultSlot : Fld := ⟨Reg.safeClkFault, 0, 16⟩
def Fld.safeSelftestPass : Fld := ⟨Reg.safeSelftest, 0, 8⟩
def Fld.snapSafeStatusStatus : Fld := ⟨Reg.snapSafeStatus, 0, 32⟩
def Fld.snapSafeCauseCause : Fld := ⟨Reg.snapSafeCause, 0, 32⟩
def Fld.safeSnapGenGen : Fld := ⟨Reg.safeSnapGen, 0, 32⟩
def Fld.devIdId : Fld := ⟨Reg.devId, 0, 32⟩
def Fld.devRevStepMajor : Fld := ⟨Reg.devRev, 4, 4⟩
def Fld.devRevStepMinor : Fld := ⟨Reg.devRev, 0, 4⟩
def Fld.devCapRing : Fld := ⟨Reg.devCap, 18, 1⟩
def Fld.devCapPortb : Fld := ⟨Reg.devCap, 17, 1⟩
def Fld.devCapPorta : Fld := ⟨Reg.devCap, 16, 1⟩
def Fld.devCapMacrocellsK : Fld := ⟨Reg.devCap, 8, 8⟩
def Fld.devCapSlots : Fld := ⟨Reg.devCap, 0, 8⟩
def Fld.actDenyLog0AddrLo : Fld := ⟨Reg.actDenyLog0, 0, 32⟩
def Fld.actDenyLog1Kind : Fld := ⟨Reg.actDenyLog1, 25, 1⟩
def Fld.actDenyLog1W : Fld := ⟨Reg.actDenyLog1, 24, 1⟩
def Fld.actDenyLog1Tcid : Fld := ⟨Reg.actDenyLog1, 18, 6⟩
def Fld.actDenyLog1Target : Fld := ⟨Reg.actDenyLog1, 15, 3⟩
def Fld.actDenyLog1Master : Fld := ⟨Reg.actDenyLog1, 11, 4⟩
def Fld.actDenyLog1AddrHi : Fld := ⟨Reg.actDenyLog1, 0, 8⟩
def Fld.actDenyLog2Turn : Fld := ⟨Reg.actDenyLog2, 0, 32⟩
def Fld.ldrPlaneHashHash (np i : Nat) : Fld := ⟨Reg.ldrPlaneHash np i, 0, 32⟩
def Fld.ldrPlaneSecSecBits (np : Nat) : Fld := ⟨Reg.ldrPlaneSec np, 0, 32⟩
def Fld.ldrPlaneInfoValid (np : Nat) : Fld := ⟨Reg.ldrPlaneInfo np, 16, 1⟩
def Fld.ldrPlaneInfoMember (np : Nat) : Fld := ⟨Reg.ldrPlaneInfo np, 8, 4⟩
def Fld.ldrPlaneInfoClass (np : Nat) : Fld := ⟨Reg.ldrPlaneInfo np, 0, 8⟩
def Fld.evtCoalPfAge (p v : Nat) : Fld := ⟨Reg.evtCoalPf p v, 24, 8⟩
def Fld.evtCoalPfPending (p v : Nat) : Fld := ⟨Reg.evtCoalPf p v, 16, 8⟩
def Fld.evtCoalPfTurns (p v : Nat) : Fld := ⟨Reg.evtCoalPf p v, 8, 8⟩
def Fld.evtCoalPfCount (p v : Nat) : Fld := ⟨Reg.evtCoalPf p v, 0, 8⟩
def Fld.evtCoalVfAge (p fj : Nat) : Fld := ⟨Reg.evtCoalVf p fj, 24, 8⟩
def Fld.evtCoalVfPending (p fj : Nat) : Fld := ⟨Reg.evtCoalVf p fj, 16, 8⟩
def Fld.evtCoalVfTurns (p fj : Nat) : Fld := ⟨Reg.evtCoalVf p fj, 8, 8⟩
def Fld.evtCoalVfCount (p fj : Nat) : Fld := ⟨Reg.evtCoalVf p fj, 0, 8⟩
def Fld.ringCtlAddr : Fld := ⟨Reg.ringCtl, 4, 4⟩
def Fld.ringCtlCand : Fld := ⟨Reg.ringCtl, 1, 1⟩
def Fld.ringCtlEn : Fld := ⟨Reg.ringCtl, 0, 1⟩
def Fld.ringStatusMasterValid : Fld := ⟨Reg.ringStatus, 12, 1⟩
def Fld.ringStatusMasterAddr : Fld := ⟨Reg.ringStatus, 8, 4⟩
def Fld.ringStatusTickFollow : Fld := ⟨Reg.ringStatus, 6, 1⟩
def Fld.ringStatusWBroken : Fld := ⟨Reg.ringStatus, 5, 1⟩
def Fld.ringStatusEBroken : Fld := ⟨Reg.ringStatus, 4, 1⟩
def Fld.ringStatusWOrigin : Fld := ⟨Reg.ringStatus, 3, 1⟩
def Fld.ringStatusEOrigin : Fld := ⟨Reg.ringStatus, 2, 1⟩
def Fld.ringStatusMaster : Fld := ⟨Reg.ringStatus, 1, 1⟩
def Fld.ringStatusUp : Fld := ⟨Reg.ringStatus, 0, 1⟩
def Fld.ringPresentCand : Fld := ⟨Reg.ringPresent, 16, 16⟩
def Fld.ringPresentPresent : Fld := ⟨Reg.ringPresent, 0, 16⟩
def Fld.ringFaultFault : Fld := ⟨Reg.ringFault, 0, 16⟩
def Fld.ringLinkdlyWIn : Fld := ⟨Reg.ringLinkdly, 16, 16⟩
def Fld.ringLinkdlyEIn : Fld := ⟨Reg.ringLinkdly, 0, 16⟩
def Fld.ringTickOfsOfs : Fld := ⟨Reg.ringTickOfs, 0, 16⟩
def Fld.ringErrMiss : Fld := ⟨Reg.ringErr, 16, 16⟩
def Fld.ringErrCrc : Fld := ⟨Reg.ringErr, 0, 16⟩
def Fld.ringTxqPushPush : Fld := ⟨Reg.ringTxqPush, 0, 32⟩
def Fld.ringTxqStatusDepth : Fld := ⟨Reg.ringTxqStatus, 11, 10⟩
def Fld.ringTxqStatusFull : Fld := ⟨Reg.ringTxqStatus, 10, 1⟩
def Fld.ringTxqStatusUnderflow : Fld := ⟨Reg.ringTxqStatus, 9, 1⟩
def Fld.ringTxqStatusOverflow : Fld := ⟨Reg.ringTxqStatus, 8, 1⟩
def Fld.ringRxqPopPop : Fld := ⟨Reg.ringRxqPop, 0, 32⟩
def Fld.ringRxqStatusDepth : Fld := ⟨Reg.ringRxqStatus, 11, 10⟩
def Fld.ringRxqStatusFull : Fld := ⟨Reg.ringRxqStatus, 10, 1⟩
def Fld.ringRxqStatusUnderflow : Fld := ⟨Reg.ringRxqStatus, 9, 1⟩
def Fld.ringRxqStatusOverflow : Fld := ⟨Reg.ringRxqStatus, 8, 1⟩
def Fld.ringRxDoneSrc : Fld := ⟨Reg.ringRxDone, 16, 4⟩
def Fld.ringRxDoneXferId : Fld := ⟨Reg.ringRxDone, 0, 16⟩
def Fld.ringRxBaseBase : Fld := ⟨Reg.ringRxBase, 6, 17⟩
def Fld.ringRxLenLen : Fld := ⟨Reg.ringRxLen, 0, 23⟩
def Fld.ringRxSrcmaskMask : Fld := ⟨Reg.ringRxSrcmask, 0, 16⟩
def Fld.snapRingStatusStatus : Fld := ⟨Reg.snapRingStatus, 0, 32⟩
def Fld.snapRingFaultFault : Fld := ⟨Reg.snapRingFault, 0, 32⟩
def Fld.ringSnapGenGen : Fld := ⟨Reg.ringSnapGen, 0, 32⟩
def Fld.engOpOp : Fld := ⟨Reg.engOp, 0, 8⟩
def Fld.engStatusResult : Fld := ⟨Reg.engStatus, 8, 8⟩
def Fld.engStatusBusy : Fld := ⟨Reg.engStatus, 0, 1⟩
def Fld.engSrcLoSrcLo : Fld := ⟨Reg.engSrcLo, 0, 32⟩
def Fld.engSrcHiSrcHi : Fld := ⟨Reg.engSrcHi, 0, 8⟩
def Fld.engSrcLenLen : Fld := ⟨Reg.engSrcLen, 0, 32⟩
def Fld.engDstLoDstLo : Fld := ⟨Reg.engDstLo, 0, 32⟩
def Fld.engDstHiDstHi : Fld := ⟨Reg.engDstHi, 0, 8⟩
def Fld.engDstLenLen : Fld := ⟨Reg.engDstLen, 0, 32⟩

/-! ### The tables, one per register window -/

/-- Registers of the TURN window. -/
def regRowsTurn : List RegSpec :=
  [⟨0x0, 65536, 1, 4, 1, [⟨3, 1, .rw, 0x0, 30⟩, ⟨1, 2, .rw, 0x0, 30⟩, ⟨0, 1, .w1s, 0x0, 30⟩]⟩,
   ⟨0x4, 65536, 1, 4, 1, [⟨0, 32, .rw, 0x2710, 30⟩]⟩,
   ⟨0x8, 65536, 1, 4, 1, [⟨0, 32, .ro, 0x2710, 30⟩]⟩,
   ⟨0xC, 65536, 1, 4, 1, [⟨7, 1, .w1c, 0x0, 30⟩, ⟨6, 1, .w1c, 0x0, 30⟩, ⟨5, 1, .w1c, 0x0, 30⟩, ⟨4, 1, .w1c, 0x0, 30⟩, ⟨3, 1, .ro, 0x0, 30⟩, ⟨1, 2, .ro, 0x0, 30⟩, ⟨0, 1, .ro, 0x0, 30⟩]⟩,
   ⟨0x10, 65536, 1, 4, 1, [⟨0, 32, .ro, 0x0, 30⟩]⟩,
   ⟨0x14, 65536, 1, 4, 1, [⟨0, 32, .ro, 0x0, 30⟩]⟩,
   ⟨0x18, 65536, 1, 4, 1, [⟨0, 32, .ro, 0x0, 30⟩]⟩,
   ⟨0x20, 65536, 1, 4, 1, [⟨0, 32, .rw, 0x0, 30⟩]⟩,
   ⟨0x24, 65536, 1, 4, 1, [⟨0, 16, .ro, 0x0, 30⟩]⟩,
   ⟨0x28, 65536, 1, 4, 1, [⟨0, 16, .ro, 0x0, 30⟩]⟩,
   ⟨0x2C, 65536, 1, 4, 1, [⟨0, 16, .w1c, 0x0, 30⟩]⟩,
   ⟨0x30, 65536, 1, 4, 1, [⟨0, 16, .wo, 0x0, 0⟩]⟩,
   ⟨0x40, 65536, 1, 4, 16, [⟨0, 32, .ro, 0x0, 30⟩]⟩,
   ⟨0x80, 65536, 1, 4, 1, [⟨0, 32, .ro, 0x0, 28⟩]⟩,
   ⟨0x84, 65536, 1, 4, 1, [⟨0, 32, .ro, 0x0, 28⟩]⟩,
   ⟨0x88, 65536, 1, 4, 1, [⟨0, 32, .ro, 0x0, 28⟩]⟩,
   ⟨0x8C, 65536, 1, 4, 1, [⟨0, 32, .ro, 0x0, 28⟩]⟩]

/-- Registers of the LDR window. -/
def regRowsLdr : List RegSpec :=
  [⟨0x0, 65536, 1, 4, 1, [⟨8, 2, .ro, 0x0, 28⟩, ⟨4, 4, .ro, 0x0, 28⟩, ⟨0, 1, .ro, 0x0, 28⟩]⟩,
   ⟨0x10, 65536, 1, 4, 1, [⟨6, 17, .rw, 0x0, 28⟩]⟩,
   ⟨0x14, 65536, 1, 4, 1, [⟨0, 32, .wo, 0x0, 0⟩]⟩,
   ⟨0x18, 65536, 1, 4, 1, [⟨7, 1, .w1c, 0x0, 28⟩, ⟨6, 1, .w1c, 0x0, 28⟩, ⟨5, 1, .ro, 0x0, 28⟩, ⟨0, 5, .ro, 0x0, 28⟩]⟩,
   ⟨0x20, 65536, 1, 4, 1, [⟨8, 4, .ro, 0x0, 28⟩, ⟨0, 8, .ro, 0x0, 28⟩]⟩,
   ⟨0x24, 65536, 1, 4, 1, [⟨0, 32, .ro, 0x0, 28⟩]⟩,
   ⟨0x30, 65536, 1, 4, 1, [⟨8, 8, .wo, 0x0, 0⟩, ⟨7, 1, .wo, 0x0, 0⟩, ⟨6, 1, .wo, 0x0, 0⟩, ⟨4, 2, .wo, 0x0, 0⟩, ⟨0, 4, .wo, 0x0, 0⟩]⟩,
   ⟨0x34, 65536, 1, 4, 1, [⟨8, 4, .ro, 0x0, 28⟩, ⟨0, 8, .ro, 0x0, 28⟩]⟩,
   ⟨0x100, 65536, 1, 4, 16, [⟨8, 8, .ro, 0x0, 30⟩, ⟨6, 1, .ro, 0x0, 30⟩, ⟨5, 1, .ro, 0x0, 30⟩, ⟨4, 1, .ro, 0x0, 28⟩, ⟨3, 1, .ro, 0x0, 28⟩, ⟨2, 1, .ro, 0x0, 30⟩, ⟨1, 1, .ro, 0x0, 30⟩, ⟨0, 1, .ro, 0x0, 30⟩]⟩,
   ⟨0x200, 65536, 1, 4, 16, [⟨0, 32, .clr, 0x0, 28⟩]⟩,
   ⟨0x240, 65536, 1, 4, 16, [⟨0, 32, .clr, 0x0, 28⟩]⟩,
   ⟨0x280, 65536, 1, 4, 1, [⟨0, 27, .ro, 0x0, 28⟩]⟩,
   ⟨0x284, 65536, 1, 4, 1, [⟨11, 3, .ro, 0x0, 28⟩, ⟨10, 1, .ro, 0x0, 28⟩, ⟨3, 7, .ro, 0x0, 28⟩, ⟨0, 3, .ro, 0x0, 28⟩]⟩,
   ⟨0x800, 65536, 1, 4, 1, [⟨0, 32, .ro, 0x0, 28⟩]⟩,
   ⟨0x804, 65536, 1, 4, 1, [⟨0, 32, .ro, 0x0, 28⟩]⟩,
   ⟨0x808, 65536, 1, 4, 1, [⟨0, 32, .ro, 0x0, 28⟩]⟩,
   ⟨0x80C, 65536, 1, 4, 1, [⟨0, 32, .ro, 0x0, 28⟩]⟩,
   ⟨0x1000, 64, 32, 4, 12, [⟨0, 32, .ro, 0x0, 30⟩]⟩,
   ⟨0x1030, 65536, 1, 64, 32, [⟨0, 32, .ro, 0x0, 30⟩]⟩,
   ⟨0x1034, 65536, 1, 64, 32, [⟨16, 1, .ro, 0x0, 30⟩, ⟨8, 4, .ro, 0x0, 30⟩, ⟨0, 8, .ro, 0x0, 30⟩]⟩]

/-- Registers of the SLC window. -/
def regRowsSlc : List RegSpec :=
  [⟨0x0, 65536, 1, 4, 1, [⟨18, 2, .ro, 0x0, 30⟩, ⟨16, 2, .ro, 0x0, 30⟩, ⟨15, 1, .ro, 0x0, 30⟩, ⟨10, 5, .ro, 0x0, 30⟩, ⟨8, 2, .ro, 0x0, 30⟩, ⟨6, 2, .ro, 0x0, 30⟩, ⟨0, 3, .ro, 0x0, 30⟩]⟩,
   ⟨0x4, 65536, 1, 4, 1, [⟨7, 1, .ro, 0x0, 30⟩, ⟨6, 1, .ro, 0x0, 30⟩, ⟨5, 1, .ro, 0x0, 30⟩, ⟨4, 1, .ro, 0x0, 30⟩, ⟨3, 1, .ro, 0x0, 30⟩, ⟨2, 1, .ro, 0x0, 30⟩, ⟨1, 1, .ro, 0x0, 30⟩, ⟨0, 1, .ro, 0x0, 30⟩]⟩,
   ⟨0x8, 65536, 1, 4, 1, [⟨0, 3, .wo, 0x0, 0⟩]⟩,
   ⟨0xC, 65536, 1, 4, 1, [⟨8, 4, .ro, 0x0, 30⟩, ⟨0, 8, .ro, 0x0, 30⟩]⟩,
   ⟨0x10, 65536, 1, 4, 1, [⟨4, 2, .rw, 0x0, 30⟩, ⟨1, 1, .rw, 0x0, 30⟩, ⟨0, 1, .rw, 0x1, 30⟩]⟩,
   ⟨0x14, 65536, 1, 4, 1, [⟨8, 4, .ro, 0x0, 30⟩, ⟨4, 4, .ro, 0x0, 30⟩, ⟨0, 4, .ro, 0x0, 30⟩]⟩,
   ⟨0x18, 65536, 1, 4, 1, [⟨0, 9, .ro, 0x0, 30⟩]⟩,
   ⟨0x100, 65536, 1, 4, 16, [⟨31, 1, .w1c, 0x0, 30⟩, ⟨30, 1, .w1c, 0x0, 30⟩, ⟨29, 1, .w1c, 0x0, 14⟩, ⟨28, 1, .w1c, 0x0, 14⟩, ⟨27, 1, .wo, 0x0, 0⟩, ⟨13, 8, .ro, 0x0, 30⟩, ⟨0, 13, .ro, 0x0, 14⟩]⟩,
   ⟨0x140, 65536, 1, 4, 16, [⟨0, 9, .ro, 0x0, 30⟩]⟩,
   ⟨0x800, 65536, 1, 4, 1, [⟨0, 32, .ro, 0x0, 30⟩]⟩,
   ⟨0x80C, 65536, 1, 4, 1, [⟨0, 32, .ro, 0x0, 30⟩]⟩]

/-- Registers of the PTx window. -/
def regRowsPt : List RegSpec :=
  [⟨0x0, 65536, 1, 4, 1, [⟨10, 5, .ro, 0x0, 0⟩, ⟨9, 1, .ro, 0x0, 0⟩, ⟨8, 1, .ro, 0x0, 0⟩, ⟨4, 4, .ro, 0x0, 0⟩, ⟨1, 3, .ro, 0x0, 0⟩, ⟨0, 1, .ro, 0x0, 0⟩]⟩,
   ⟨0x4, 65536, 1, 4, 1, [⟨31, 1, .ro, 0x0, 6⟩, ⟨8, 1, .ro, 0x0, 6⟩, ⟨4, 4, .ro, 0x8, 6⟩, ⟨1, 3, .ro, 0x5, 6⟩, ⟨0, 1, .ro, 0x0, 6⟩]⟩,
   ⟨0x10, 65536, 1, 4, 1, [⟨0, 32, .rw, 0x0, 24⟩]⟩,
   ⟨0x14, 65536, 1, 4, 1, [⟨0, 32, .ro, 0x0, 24⟩]⟩,
   ⟨0x18, 65536, 1, 4, 1, [⟨0, 32, .ro, 0x0, 24⟩]⟩,
   ⟨0x20, 65536, 1, 4, 4, [⟨0, 32, .rw, 0x1010101, 24⟩]⟩,
   ⟨0x40, 65536, 1, 4, 1, [⟨31, 1, .w1c, 0x0, 24⟩, ⟨8, 2, .ro, 0x0, 24⟩, ⟨0, 6, .ro, 0x0, 24⟩]⟩,
   ⟨0x44, 65536, 1, 4, 1, [⟨0, 32, .ro, 0x0, 24⟩]⟩,
   ⟨0x48, 65536, 1, 4, 1, [⟨0, 8, .ro, 0x0, 24⟩]⟩,
   ⟨0xF00, 65536, 1, 4, 1, [⟨0, 32, .ro, 0x0, 24⟩]⟩,
   ⟨0xF0C, 65536, 1, 4, 1, [⟨0, 32, .ro, 0x0, 24⟩]⟩]

/-- Registers of the MB window. -/
def regRowsMb : List RegSpec :=
  [⟨0x0, 65536, 1, 4, 16, [⟨0, 32, .rw, 0x0, 22⟩]⟩,
   ⟨0x40, 65536, 1, 4, 1, [⟨0, 32, .wo, 0x0, 0⟩]⟩,
   ⟨0x44, 65536, 1, 4, 1, [⟨0, 32, .wo, 0x0, 0⟩]⟩,
   ⟨0x48, 65536, 1, 4, 1, [⟨24, 7, .ro, 0x0, 22⟩, ⟨16, 7, .ro, 0x0, 22⟩, ⟨8, 7, .ro, 0x0, 22⟩, ⟨0, 7, .ro, 0x0, 22⟩]⟩,
   ⟨0x4C, 65536, 1, 4, 1, [⟨3, 1, .w1c, 0x0, 22⟩, ⟨2, 1, .w1c, 0x0, 22⟩, ⟨1, 1, .w1c, 0x0, 22⟩, ⟨0, 1, .w1c, 0x0, 22⟩]⟩,
   ⟨0x50, 65536, 1, 4, 1, [⟨0, 6, .rw, 0x0, 22⟩]⟩,
   ⟨0x80, 65536, 1, 4, 16, [⟨0, 32, .ro, 0x0, 22⟩]⟩,
   ⟨0x800, 65536, 1, 4, 1, [⟨0, 32, .ro, 0x0, 28⟩]⟩,
   ⟨0x804, 65536, 1, 4, 1, [⟨0, 32, .ro, 0x0, 28⟩]⟩,
   ⟨0x80C, 65536, 1, 4, 1, [⟨0, 32, .ro, 0x0, 28⟩]⟩]

/-- Registers of the DMA window. -/
def regRowsDma : List RegSpec :=
  [⟨0x0, 65536, 1, 4, 1, [⟨1, 1, .w1s, 0x0, 0⟩, ⟨0, 1, .rw, 0x0, 16⟩]⟩,
   ⟨0x4, 65536, 1, 4, 1, [⟨8, 8, .ro, 0x0, 16⟩, ⟨1, 1, .ro, 0x0, 16⟩, ⟨0, 1, .ro, 0x0, 16⟩]⟩,
   ⟨0x8, 65536, 1, 4, 1, [⟨6, 26, .rw, 0x0, 16⟩]⟩,
   ⟨0xC, 65536, 1, 4, 1, [⟨0, 32, .rw, 0x0, 16⟩]⟩,
   ⟨0x10, 65536, 1, 4, 1, [⟨0, 4, .rw, 0x4, 16⟩]⟩,
   ⟨0x14, 65536, 1, 4, 1, [⟨0, 12, .rw, 0x0, 16⟩]⟩,
   ⟨0x18, 65536, 1, 4, 1, [⟨0, 12, .ro, 0x0, 16⟩]⟩,
   ⟨0x1C, 65536, 1, 4, 1, [⟨0, 32, .ro, 0x0, 16⟩]⟩,
   ⟨0x800, 65536, 1, 4, 1, [⟨0, 32, .ro, 0x0, 28⟩]⟩,
   ⟨0x80C, 65536, 1, 4, 1, [⟨0, 32, .ro, 0x0, 28⟩]⟩]

/-- Registers of the BMX window. -/
def regRowsBmx : List RegSpec :=
  [⟨0x0, 65536, 1, 4, 1, [⟨1, 1, .rw, 0x0, 28⟩, ⟨0, 1, .w1s, 0x0, 28⟩]⟩,
   ⟨0x4, 65536, 1, 4, 1, [⟨8, 1, .ro, 0x0, 28⟩, ⟨4, 4, .ro, 0x0, 28⟩, ⟨0, 3, .ro, 0x0, 28⟩]⟩,
   ⟨0x10, 65536, 1, 8, 8, [⟨0, 32, .rwl, 0x88888888, 28⟩]⟩,
   ⟨0x14, 65536, 1, 8, 8, [⟨0, 4, .rwl, 0x8, 28⟩]⟩,
   ⟨0x80, 65536, 1, 4, 1, [⟨0, 32, .ro, 0x0, 28⟩]⟩,
   ⟨0x84, 65536, 1, 4, 1, [⟨31, 1, .w1c, 0x0, 28⟩, ⟨22, 1, .ro, 0x0, 28⟩, ⟨16, 6, .ro, 0x0, 28⟩, ⟨12, 4, .ro, 0x0, 28⟩, ⟨0, 8, .ro, 0x0, 28⟩]⟩,
   ⟨0x90, 65536, 1, 4, 1, [⟨0, 32, .clr, 0x0, 28⟩]⟩,
   ⟨0x94, 65536, 1, 4, 1, [⟨0, 32, .clr, 0x0, 28⟩]⟩,
   ⟨0x10C, 65536, 1, 4, 1, [⟨0, 32, .wo, 0x0, 0⟩]⟩,
   ⟨0x110, 65536, 1, 4, 1, [⟨7, 1, .w1c, 0x0, 28⟩, ⟨6, 1, .w1c, 0x0, 28⟩, ⟨5, 1, .ro, 0x0, 28⟩, ⟨0, 5, .ro, 0x0, 28⟩]⟩,
   ⟨0x114, 65536, 1, 4, 1, [⟨0, 32, .clr, 0x0, 28⟩]⟩,
   ⟨0xF00, 65536, 1, 4, 1, [⟨0, 32, .ro, 0x0, 28⟩]⟩,
   ⟨0xF04, 65536, 1, 4, 1, [⟨0, 32, .ro, 0x0, 28⟩]⟩,
   ⟨0xF0C, 65536, 1, 4, 1, [⟨0, 32, .ro, 0x0, 28⟩]⟩,
   ⟨0x1000, 4096, 8, 8, 16, [⟨12, 20, .rwl, 0x0, 28⟩, ⟨0, 1, .rwl, 0x0, 28⟩]⟩,
   ⟨0x1004, 4096, 8, 8, 16, [⟨12, 20, .rwl, 0x0, 28⟩]⟩,
   ⟨0x1100, 4096, 8, 8, 64, [⟨31, 1, .rwl, 0x0, 28⟩, ⟨16, 9, .rwl, 0x0, 28⟩, ⟨0, 6, .rwl, 0x0, 28⟩]⟩,
   ⟨0x1104, 4096, 8, 8, 64, [⟨16, 16, .rwl, 0x0, 28⟩, ⟨0, 16, .rwl, 0x0, 28⟩]⟩,
   ⟨0x100, 65536, 1, 4, 1, [⟨0, 32, .ro, 0x0, 28⟩]⟩,
   ⟨0x104, 65536, 1, 4, 1, [⟨25, 1, .ro, 0x0, 28⟩, ⟨24, 1, .ro, 0x0, 28⟩, ⟨18, 6, .ro, 0x0, 28⟩, ⟨15, 3, .ro, 0x0, 28⟩, ⟨11, 4, .ro, 0x0, 28⟩, ⟨0, 8, .ro, 0x0, 28⟩]⟩,
   ⟨0x108, 65536, 1, 4, 1, [⟨0, 32, .ro, 0x0, 28⟩]⟩]

/-- Registers of the BENCH window. -/
def regRowsBench : List RegSpec :=
  [⟨0x0, 65536, 1, 4, 1, [⟨10, 1, .w1c, 0x0, 30⟩, ⟨9, 1, .ro, 0x0, 30⟩, ⟨8, 1, .ro, 0x0, 30⟩, ⟨0, 8, .ro, 0xFF, 30⟩]⟩,
   ⟨0x4, 65536, 1, 4, 1, [⟨8, 16, .rw, 0x64, 30⟩, ⟨0, 8, .rw, 0x0, 30⟩]⟩,
   ⟨0x8, 65536, 1, 4, 1, [⟨1, 16, .rw, 0x3E8, 30⟩, ⟨0, 1, .rw, 0x1, 30⟩]⟩,
   ⟨0x10, 65536, 1, 4, 1, [⟨0, 32, .clr, 0x0, 30⟩]⟩,
   ⟨0x14, 65536, 1, 4, 1, [⟨0, 32, .clr, 0x0, 30⟩]⟩,
   ⟨0x18, 65536, 1, 4, 1, [⟨3, 20, .ro, 0x0, 30⟩]⟩,
   ⟨0x1C, 65536, 1, 4, 1, [⟨31, 1, .w1c, 0x0, 30⟩, ⟨9, 1, .ro, 0x0, 30⟩, ⟨8, 1, .ro, 0x0, 30⟩, ⟨0, 7, .ro, 0x0, 30⟩]⟩,
   ⟨0x20, 65536, 1, 4, 1, [⟨8, 5, .clr, 0x0, 30⟩, ⟨0, 5, .ro, 0x0, 30⟩]⟩,
   ⟨0xF00, 65536, 1, 4, 1, [⟨0, 32, .ro, 0x0, 28⟩]⟩,
   ⟨0xF04, 65536, 1, 4, 1, [⟨0, 32, .ro, 0x0, 28⟩]⟩,
   ⟨0xF0C, 65536, 1, 4, 1, [⟨0, 32, .ro, 0x0, 28⟩]⟩]

/-- Registers of the GRN window. -/
def regRowsGrn : List RegSpec :=
  [⟨0x0, 65536, 1, 4, 1, [⟨15, 1, .w1c, 0x0, 30⟩, ⟨14, 1, .w1c, 0x0, 30⟩, ⟨13, 1, .w1c, 0x0, 30⟩, ⟨10, 2, .ro, 0x0, 30⟩, ⟨9, 1, .ro, 0x0, 30⟩, ⟨8, 1, .ro, 0x0, 30⟩, ⟨3, 1, .ro, 0x0, 30⟩, ⟨2, 1, .ro, 0x0, 30⟩, ⟨1, 1, .ro, 0x0, 30⟩, ⟨0, 1, .ro, 0x0, 30⟩]⟩,
   ⟨0x4, 65536, 1, 4, 1, [⟨0, 1, .rw, 0x1, 30⟩]⟩,
   ⟨0x8, 65536, 1, 4, 1, [⟨0, 1, .wo, 0x0, 0⟩]⟩,
   ⟨0xC, 65536, 1, 4, 1, [⟨0, 32, .ro, 0x0, 30⟩]⟩,
   ⟨0x10, 65536, 1, 4, 1, [⟨0, 32, .clr, 0x0, 30⟩]⟩,
   ⟨0x14, 65536, 1, 4, 1, [⟨0, 32, .clr, 0x0, 30⟩]⟩,
   ⟨0x18, 65536, 1, 4, 1, [⟨18, 1, .ro, 0x0, 30⟩, ⟨3, 15, .ro, 0x0, 30⟩]⟩,
   ⟨0x1C, 65536, 1, 4, 1, [⟨31, 1, .w1c, 0x0, 30⟩, ⟨9, 1, .ro, 0x0, 30⟩, ⟨8, 1, .ro, 0x0, 30⟩, ⟨0, 7, .ro, 0x0, 30⟩]⟩,
   ⟨0x20, 65536, 1, 4, 1, [⟨0, 1, .rw, 0x1, 30⟩]⟩,
   ⟨0x30, 65536, 1, 4, 1, [⟨0, 32, .wo, 0x0, 0⟩]⟩,
   ⟨0x34, 65536, 1, 4, 1, [⟨0, 32, .wo, 0x0, 0⟩]⟩,
   ⟨0x38, 65536, 1, 4, 1, [⟨6, 1, .wo, 0x0, 0⟩, ⟨5, 1, .wo, 0x0, 0⟩, ⟨4, 1, .wo, 0x0, 0⟩, ⟨1, 3, .wo, 0x0, 0⟩, ⟨0, 1, .wo, 0x0, 0⟩]⟩,
   ⟨0x3C, 65536, 1, 4, 1, [⟨0, 32, .ro, 0x0, 0⟩]⟩,
   ⟨0x40, 65536, 1, 4, 1, [⟨0, 16, .rw, 0x3E8, 30⟩]⟩,
   ⟨0x44, 65536, 1, 4, 1, [⟨0, 16, .ro, 0x0, 30⟩]⟩,
   ⟨0x50, 65536, 1, 4, 1, [⟨0, 32, .wo, 0x0, 0⟩]⟩,
   ⟨0x54, 65536, 1, 4, 1, [⟨0, 32, .wo, 0x0, 0⟩]⟩,
   ⟨0x58, 65536, 1, 4, 1, [⟨0, 5, .wo, 0x0, 0⟩]⟩,
   ⟨0x5C, 65536, 1, 4, 1, [⟨0, 8, .ro, 0x0, 0⟩]⟩,
   ⟨0x80, 65536, 1, 4, 16, [⟨0, 32, .rw, 0x0, 30⟩]⟩,
   ⟨0xC0, 65536, 1, 4, 1, [⟨31, 1, .wo, 0x0, 0⟩, ⟨19, 7, .wo, 0x0, 0⟩, ⟨18, 1, .wo, 0x0, 0⟩, ⟨0, 18, .wo, 0x0, 0⟩]⟩,
   ⟨0xC4, 65536, 1, 4, 1, [⟨0, 8, .ro, 0x0, 30⟩]⟩,
   ⟨0xF00, 65536, 1, 4, 1, [⟨0, 32, .ro, 0x0, 28⟩]⟩,
   ⟨0xF04, 65536, 1, 4, 1, [⟨0, 32, .ro, 0x0, 28⟩]⟩,
   ⟨0xF0C, 65536, 1, 4, 1, [⟨0, 32, .ro, 0x0, 28⟩]⟩]

/-- Registers of the RES window. -/
def regRowsRes : List RegSpec :=
  [⟨0x0, 65536, 1, 4, 1, [⟨7, 9, .ro, 0x0, 30⟩, ⟨6, 1, .ro, 0x0, 30⟩, ⟨5, 1, .ro, 0x0, 30⟩, ⟨3, 2, .ro, 0x0, 30⟩, ⟨2, 1, .ro, 0x0, 30⟩, ⟨1, 1, .ro, 0x0, 30⟩, ⟨0, 1, .ro, 0x0, 30⟩]⟩,
   ⟨0x4, 65536, 1, 4, 1, [⟨0, 1, .w1s, 0x0, 30⟩]⟩,
   ⟨0x8, 65536, 1, 4, 1, [⟨8, 9, .wo, 0x0, 0⟩, ⟨0, 3, .wo, 0x0, 0⟩]⟩,
   ⟨0xC, 65536, 1, 4, 1, [⟨10, 1, .ro, 0x0, 30⟩, ⟨8, 2, .ro, 0x0, 30⟩, ⟨0, 8, .ro, 0x0, 30⟩]⟩,
   ⟨0x10, 65536, 1, 4, 1, [⟨0, 32, .ro, 0x0, 30⟩]⟩,
   ⟨0x14, 65536, 1, 4, 1, [⟨8, 17, .ro, 0x0, 28⟩, ⟨1, 6, .ro, 0x0, 28⟩, ⟨0, 1, .ro, 0x0, 28⟩]⟩,
   ⟨0x18, 65536, 1, 4, 1, [⟨8, 12, .rw, 0xC8, 30⟩, ⟨0, 8, .rw, 0xA, 30⟩]⟩,
   ⟨0x1C, 65536, 1, 4, 1, [⟨0, 16, .rw, 0x7D0, 30⟩]⟩,
   ⟨0x20, 65536, 1, 4, 1, [⟨0, 32, .rwl, 0x0, 30⟩]⟩,
   ⟨0x24, 65536, 1, 4, 1, [⟨0, 32, .clr, 0x0, 30⟩]⟩,
   ⟨0x40, 65536, 1, 4, 16, [⟨0, 32, .ro, 0x0, 30⟩]⟩,
   ⟨0xF00, 65536, 1, 4, 1, [⟨0, 32, .ro, 0x0, 28⟩]⟩,
   ⟨0xF0C, 65536, 1, 4, 1, [⟨0, 32, .ro, 0x0, 28⟩]⟩]

/-- Registers of the HWD window. -/
def regRowsHwd : List RegSpec :=
  [⟨0x0, 65536, 1, 4, 1, [⟨4, 1, .ro, 0x0, 28⟩, ⟨3, 1, .ro, 0x0, 28⟩, ⟨2, 1, .ro, 0x0, 28⟩, ⟨1, 1, .ro, 0x0, 28⟩, ⟨0, 1, .ro, 0x0, 28⟩]⟩,
   ⟨0x4, 65536, 1, 4, 1, [⟨0, 32, .ro, 0x0, 28⟩]⟩,
   ⟨0x8, 65536, 1, 4, 1, [⟨0, 32, .ro, 0x0, 28⟩]⟩,
   ⟨0xC, 65536, 1, 4, 1, [⟨0, 32, .ro, 0x0, 28⟩]⟩,
   ⟨0x10, 65536, 1, 4, 1, [⟨0, 32, .ro, 0x0, 28⟩]⟩,
   ⟨0x14, 65536, 1, 4, 1, [⟨31, 1, .w1c, 0x0, 28⟩, ⟨16, 3, .ro, 0x0, 28⟩, ⟨12, 4, .ro, 0x0, 28⟩, ⟨0, 8, .ro, 0x0, 28⟩]⟩,
   ⟨0x20, 65536, 1, 4, 1, [⟨0, 1, .w1s, 0x0, 28⟩]⟩,
   ⟨0x24, 65536, 1, 4, 1, [⟨0, 1, .rwl, 0x1, 28⟩]⟩,
   ⟨0x28, 65536, 1, 4, 1, [⟨8, 8, .clr, 0x0, 28⟩, ⟨0, 8, .clr, 0x0, 28⟩]⟩,
   ⟨0x100, 65536, 1, 32, 3, [⟨12, 11, .rw, 0x0, 28⟩]⟩,
   ⟨0x104, 65536, 1, 32, 3, [⟨12, 11, .rw, 0x0, 28⟩]⟩,
   ⟨0x108, 65536, 1, 32, 3, [⟨0, 32, .wo, 0x0, 0⟩]⟩,
   ⟨0x10C, 65536, 1, 32, 3, [⟨0, 32, .wo, 0x0, 0⟩]⟩,
   ⟨0x110, 65536, 1, 32, 3, [⟨24, 6, .ro, 0x0, 28⟩, ⟨16, 6, .ro, 0x0, 28⟩, ⟨9, 1, .w1c, 0x0, 28⟩, ⟨8, 1, .w1c, 0x0, 28⟩, ⟨7, 1, .ro, 0x0, 28⟩, ⟨0, 7, .ro, 0x0, 28⟩]⟩,
   ⟨0x114, 65536, 1, 32, 3, [⟨24, 6, .ro, 0x0, 28⟩, ⟨16, 6, .ro, 0x0, 28⟩, ⟨9, 1, .w1c, 0x0, 28⟩, ⟨8, 1, .w1c, 0x0, 28⟩, ⟨7, 1, .ro, 0x0, 28⟩, ⟨0, 7, .ro, 0x0, 28⟩]⟩,
   ⟨0x118, 65536, 1, 32, 3, [⟨0, 9, .rwl, 0x1FF, 28⟩]⟩,
   ⟨0xF00, 65536, 1, 4, 1, [⟨0, 32, .ro, 0x0, 28⟩]⟩,
   ⟨0xF0C, 65536, 1, 4, 1, [⟨0, 32, .ro, 0x0, 28⟩]⟩]

/-- Registers of the SEC window. -/
def regRowsSec : List RegSpec :=
  [⟨0x0, 65536, 1, 4, 1, [⟨7, 1, .ro, 0x0, 63⟩, ⟨6, 1, .ro, 0x0, 30⟩, ⟨5, 1, .ro, 0x0, 30⟩, ⟨4, 1, .ro, 0x0, 30⟩, ⟨3, 1, .ro, 0x0, 30⟩, ⟨2, 1, .w1c, 0x0, 30⟩, ⟨1, 1, .ro, 0x0, 30⟩, ⟨0, 1, .ro, 0x0, 30⟩]⟩,
   ⟨0x4, 65536, 1, 4, 1, [⟨8, 6, .ro, 0x0, 30⟩, ⟨0, 6, .ro, 0x0, 30⟩]⟩,
   ⟨0x8, 65536, 1, 4, 1, [⟨8, 6, .ro, 0x0, 30⟩, ⟨1, 1, .ro, 0x0, 30⟩, ⟨0, 1, .ro, 0x0, 30⟩]⟩,
   ⟨0xC, 65536, 1, 4, 1, [⟨0, 32, .ro, 0x0, 28⟩]⟩,
   ⟨0x40, 65536, 1, 4, 4, [⟨0, 32, .ro, 0x0, 30⟩]⟩,
   ⟨0x80, 65536, 1, 4, 12, [⟨0, 32, .ro, 0x0, 30⟩]⟩,
   ⟨0xC0, 65536, 1, 4, 12, [⟨0, 32, .ro, 0x0, 30⟩]⟩,
   ⟨0x100, 65536, 1, 4, 4, [⟨0, 32, .ro, 0x0, 30⟩]⟩,
   ⟨0xF00, 65536, 1, 4, 1, [⟨0, 32, .ro, 0x0, 28⟩]⟩,
   ⟨0xF0C, 65536, 1, 4, 1, [⟨0, 32, .ro, 0x0, 28⟩]⟩]

/-- Registers of the SCRIBE window. -/
def regRowsScribe : List RegSpec :=
  [⟨0x0, 65536, 1, 4, 1, [⟨16, 8, .rw, 0x2, 28⟩, ⟨6, 1, .rw, 0x0, 28⟩, ⟨5, 1, .rw, 0x0, 28⟩, ⟨4, 1, .rw, 0x0, 28⟩, ⟨3, 1, .rw, 0x0, 28⟩, ⟨2, 1, .rw, 0x0, 28⟩, ⟨1, 1, .rw, 0x0, 28⟩, ⟨0, 1, .wo, 0x0, 0⟩]⟩,
   ⟨0x4, 65536, 1, 4, 1, [⟨8, 1, .w1c, 0x0, 28⟩, ⟨7, 1, .w1c, 0x0, 28⟩, ⟨6, 1, .ro, 0x0, 28⟩, ⟨5, 1, .ro, 0x0, 28⟩, ⟨0, 4, .ro, 0x0, 28⟩]⟩,
   ⟨0x8, 65536, 1, 4, 1, [⟨0, 32, .ro, 0x0, 30⟩]⟩,
   ⟨0xC, 65536, 1, 4, 1, [⟨0, 32, .wo, 0x0, 0⟩]⟩,
   ⟨0x10, 65536, 1, 4, 1, [⟨16, 16, .ro, 0x0, 28⟩, ⟨0, 16, .ro, 0x0, 28⟩]⟩,
   ⟨0x20, 65536, 1, 4, 16, [⟨0, 32, .rw, 0x0, 28⟩]⟩,
   ⟨0xF00, 65536, 1, 4, 1, [⟨0, 32, .ro, 0x0, 28⟩]⟩,
   ⟨0xF0C, 65536, 1, 4, 1, [⟨0, 32, .ro, 0x0, 28⟩]⟩]

/-- Registers of the EVT window. -/
def regRowsEvt : List RegSpec :=
  [⟨0x0, 65536, 1, 4, 1, [⟨0, 1, .w1s, 0x0, 28⟩]⟩,
   ⟨0x4, 65536, 1, 4, 1, [⟨0, 16, .ro, 0x0, 30⟩]⟩,
   ⟨0x10, 65536, 1, 4, 16, [⟨0, 32, .w1c, 0x0, 30⟩]⟩,
   ⟨0x80, 65536, 1, 4, 16, [⟨0, 32, .rwl, 0x0, 28⟩]⟩,
   ⟨0x100, 32, 4, 4, 4, [⟨0, 32, .ro, 0x0, 28⟩]⟩,
   ⟨0x110, 65536, 1, 32, 4, [⟨0, 32, .wo, 0x0, 0⟩]⟩,
   ⟨0x114, 65536, 1, 32, 4, [⟨9, 1, .w1c, 0x0, 28⟩, ⟨8, 1, .w1c, 0x0, 28⟩, ⟨7, 1, .ro, 0x0, 28⟩, ⟨0, 7, .ro, 0x0, 28⟩]⟩,
   ⟨0x118, 65536, 1, 32, 4, [⟨0, 32, .clr, 0x0, 28⟩]⟩,
   ⟨0xF00, 65536, 1, 4, 1, [⟨0, 32, .ro, 0x0, 28⟩]⟩,
   ⟨0xF0C, 65536, 1, 4, 1, [⟨0, 32, .ro, 0x0, 28⟩]⟩,
   ⟨0x1000, 65536, 1, 4, 512, [⟨16, 3, .rwl, 0x0, 28⟩, ⟨8, 6, .rwl, 0x0, 28⟩, ⟨6, 1, .rwl, 0x0, 28⟩, ⟨5, 1, .rwl, 0x0, 28⟩, ⟨4, 1, .rwl, 0x0, 28⟩, ⟨3, 1, .rwl, 0x0, 28⟩, ⟨2, 1, .rwl, 0x0, 28⟩, ⟨1, 1, .rwl, 0x0, 28⟩, ⟨0, 1, .rwl, 0x0, 28⟩]⟩,
   ⟨0x2000, 4096, 2, 4, 64, [⟨24, 8, .ro, 0x0, 16⟩, ⟨16, 8, .ro, 0x0, 16⟩, ⟨8, 8, .rwl, 0x0, 28⟩, ⟨0, 8, .rwl, 0x1, 28⟩]⟩,
   ⟨0x2100, 4096, 2, 4, 128, [⟨24, 8, .ro, 0x0, 16⟩, ⟨16, 8, .ro, 0x0, 16⟩, ⟨8, 8, .rwl, 0x0, 28⟩, ⟨0, 8, .rwl, 0x1, 28⟩]⟩]

/-- Registers of the PWR window. -/
def regRowsPwr : List RegSpec :=
  [⟨0x0, 65536, 1, 4, 1, [⟨1, 1, .rw, 0x0, 30⟩, ⟨0, 1, .rw, 0x1, 30⟩]⟩,
   ⟨0x4, 65536, 1, 4, 1, [⟨1, 1, .ro, 0x0, 30⟩, ⟨0, 1, .ro, 0x0, 30⟩]⟩,
   ⟨0x8, 65536, 1, 4, 1, [⟨0, 22, .ro, 0x3FFFFF, 30⟩]⟩,
   ⟨0xC, 65536, 1, 4, 1, [⟨0, 6, .rw, 0x0, 30⟩]⟩,
   ⟨0x10, 65536, 1, 4, 1, [⟨16, 16, .rw, 0x14, 30⟩, ⟨0, 16, .rw, 0xA, 30⟩]⟩,
   ⟨0x100, 65536, 1, 4, 16, [⟨27, 1, .ro, 0x0, 30⟩, ⟨26, 1, .ro, 0x0, 30⟩, ⟨24, 2, .ro, 0x0, 30⟩, ⟨16, 8, .ro, 0x0, 30⟩, ⟨8, 8, .rw, 0x10, 30⟩, ⟨0, 1, .rw, 0x0, 30⟩]⟩,
   ⟨0xF00, 65536, 1, 4, 1, [⟨0, 32, .ro, 0x0, 28⟩]⟩,
   ⟨0xF04, 65536, 1, 4, 1, [⟨0, 32, .ro, 0x0, 28⟩]⟩,
   ⟨0xF0C, 65536, 1, 4, 1, [⟨0, 32, .ro, 0x0, 28⟩]⟩]

/-- Registers of the DEV window. -/
def regRowsDev : List RegSpec :=
  [⟨0x10, 65536, 1, 4, 1, [⟨16, 16, .ro, 0x0, 30⟩, ⟨11, 1, .ro, 0x0, 30⟩, ⟨10, 1, .ro, 0x0, 30⟩, ⟨9, 1, .ro, 0x0, 24⟩, ⟨8, 1, .ro, 0x0, 24⟩, ⟨7, 1, .ro, 0x0, 28⟩, ⟨6, 1, .ro, 0x0, 28⟩, ⟨0, 6, .ro, 0x0, 30⟩]⟩,
   ⟨0x14, 65536, 1, 4, 1, [⟨8, 4, .ro, 0x0, 30⟩, ⟨0, 4, .ro, 0x0, 28⟩]⟩,
   ⟨0x18, 65536, 1, 4, 1, [⟨0, 7, .w1c, 0x0, 30⟩]⟩,
   ⟨0x1C, 65536, 1, 4, 1, [⟨2, 2, .ro, 0x0, 30⟩, ⟨0, 2, .ro, 0x0, 30⟩]⟩,
   ⟨0x20, 65536, 1, 4, 1, [⟨16, 16, .wo, 0x0, 0⟩, ⟨0, 1, .wo, 0x0, 0⟩]⟩,
   ⟨0x24, 65536, 1, 4, 1, [⟨31, 1, .ro, 0x0, 30⟩, ⟨30, 1, .ro, 0x0, 30⟩, ⟨29, 1, .ro, 0x0, 30⟩, ⟨28, 1, .ro, 0x0, 30⟩, ⟨16, 5, .ro, 0x0, 30⟩, ⟨0, 16, .ro, 0x0, 30⟩]⟩,
   ⟨0x28, 65536, 1, 4, 4, [⟨0, 32, .ro, 0x0, 30⟩]⟩,
   ⟨0xF00, 65536, 1, 4, 1, [⟨0, 32, .ro, 0x0, 28⟩]⟩,
   ⟨0xF0C, 65536, 1, 4, 1, [⟨0, 32, .ro, 0x0, 28⟩]⟩,
   ⟨0x0, 65536, 1, 4, 1, [⟨0, 32, .ro, 0x2316C0B5, 0⟩]⟩,
   ⟨0x4, 65536, 1, 4, 1, [⟨4, 4, .ro, 0xA, 0⟩, ⟨0, 4, .ro, 0x1, 0⟩]⟩,
   ⟨0x8, 65536, 1, 4, 1, [⟨18, 1, .ro, 0x1, 0⟩, ⟨17, 1, .ro, 0x1, 0⟩, ⟨16, 1, .ro, 0x1, 0⟩, ⟨8, 8, .ro, 0x20, 0⟩, ⟨0, 8, .ro, 0x10, 0⟩]⟩]

/-- Registers of the SAFE window. -/
def regRowsSafe : List RegSpec :=
  [⟨0x0, 65536, 1, 4, 1, [⟨11, 1, .w1c, 0x0, 30⟩, ⟨10, 1, .ro, 0x0, 30⟩, ⟨9, 1, .ro, 0x0, 30⟩, ⟨8, 1, .ro, 0x1, 30⟩, ⟨2, 1, .ro, 0x0, 30⟩, ⟨1, 1, .ro, 0x0, 30⟩, ⟨0, 1, .ro, 0x0, 30⟩]⟩,
   ⟨0x4, 65536, 1, 4, 1, [⟨8, 2, .rwl, 0x0, 30⟩, ⟨2, 1, .wo, 0x0, 0⟩, ⟨1, 1, .wo, 0x0, 0⟩, ⟨0, 1, .w1s, 0x0, 30⟩]⟩,
   ⟨0x8, 65536, 1, 4, 1, [⟨0, 17, .w1c, 0x0, 30⟩]⟩,
   ⟨0xC, 65536, 1, 4, 1, [⟨0, 17, .ro, 0x0, 30⟩]⟩,
   ⟨0x10, 65536, 1, 4, 1, [⟨0, 17, .ro, 0x0, 30⟩]⟩,
   ⟨0x14, 65536, 1, 4, 1, [⟨16, 16, .wo, 0x0, 0⟩, ⟨8, 4, .wo, 0x0, 0⟩, ⟨0, 5, .wo, 0x0, 0⟩]⟩,
   ⟨0x18, 65536, 1, 4, 1, [⟨0, 16, .rwl, 0xFFFF, 30⟩]⟩,
   ⟨0x20, 65536, 1, 4, 1, [⟨16, 16, .ro, 0x0, 30⟩, ⟨0, 7, .ro, 0x0, 30⟩]⟩,
   ⟨0x24, 65536, 1, 4, 1, [⟨0, 32, .ro, 0x0, 30⟩]⟩,
   ⟨0x28, 65536, 1, 4, 1, [⟨16, 1, .ro, 0x0, 30⟩, ⟨0, 16, .ro, 0x0, 30⟩]⟩,
   ⟨0x2C, 65536, 1, 4, 1, [⟨0, 16, .ro, 0x0, 30⟩]⟩,
   ⟨0x30, 65536, 1, 4, 1, [⟨0, 8, .ro, 0x0, 30⟩]⟩,
   ⟨0xF00, 65536, 1, 4, 1, [⟨0, 32, .ro, 0x0, 28⟩]⟩,
   ⟨0xF04, 65536, 1, 4, 1, [⟨0, 32, .ro, 0x0, 28⟩]⟩,
   ⟨0xF0C, 65536, 1, 4, 1, [⟨0, 32, .ro, 0x0, 28⟩]⟩]

/-- Registers of the RING window. -/
def regRowsRing : List RegSpec :=
  [⟨0x0, 65536, 1, 4, 1, [⟨4, 4, .rw, 0x0, 30⟩, ⟨1, 1, .rw, 0x0, 30⟩, ⟨0, 1, .rw, 0x0, 30⟩]⟩,
   ⟨0x4, 65536, 1, 4, 1, [⟨12, 1, .ro, 0x0, 30⟩, ⟨8, 4, .ro, 0x0, 30⟩, ⟨6, 1, .ro, 0x0, 30⟩, ⟨5, 1, .ro, 0x0, 30⟩, ⟨4, 1, .ro, 0x0, 30⟩, ⟨3, 1, .ro, 0x0, 30⟩, ⟨2, 1, .ro, 0x0, 30⟩, ⟨1, 1, .ro, 0x0, 30⟩, ⟨0, 1, .ro, 0x0, 30⟩]⟩,
   ⟨0x8, 65536, 1, 4, 1, [⟨16, 16, .ro, 0x0, 30⟩, ⟨0, 16, .ro, 0x0, 30⟩]⟩,
   ⟨0xC, 65536, 1, 4, 1, [⟨0, 16, .ro, 0x0, 30⟩]⟩,
   ⟨0x10, 65536, 1, 4, 1, [⟨16, 16, .ro, 0x0, 30⟩, ⟨0, 16, .ro, 0x0, 30⟩]⟩,
   ⟨0x14, 65536, 1, 4, 1, [⟨0, 16, .ro, 0x0, 30⟩]⟩,
   ⟨0x18, 65536, 1, 4, 1, [⟨16, 16, .clr, 0x0, 30⟩, ⟨0, 16, .clr, 0x0, 30⟩]⟩,
   ⟨0x20, 65536, 1, 4, 1, [⟨0, 32, .wo, 0x0, 30⟩]⟩,
   ⟨0x24, 65536, 1, 4, 1, [⟨11, 10, .ro, 0x0, 30⟩, ⟨10, 1, .ro, 0x0, 30⟩, ⟨9, 1, .w1c, 0x0, 30⟩, ⟨8, 1, .w1c, 0x0, 30⟩]⟩,
   ⟨0x28, 65536, 1, 4, 1, [⟨0, 32, .wo, 0x0, 30⟩]⟩,
   ⟨0x2C, 65536, 1, 4, 1, [⟨11, 10, .ro, 0x0, 30⟩, ⟨10, 1, .ro, 0x0, 30⟩, ⟨9, 1, .w1c, 0x0, 30⟩, ⟨8, 1, .w1c, 0x0, 30⟩]⟩,
   ⟨0x30, 65536, 1, 4, 1, [⟨16, 4, .wo, 0x0, 30⟩, ⟨0, 16, .wo, 0x0, 30⟩]⟩,
   ⟨0x34, 65536, 1, 4, 1, [⟨6, 17, .rw, 0x0, 30⟩]⟩,
   ⟨0x38, 65536, 1, 4, 1, [⟨0, 23, .rw, 0x0, 30⟩]⟩,
   ⟨0x3C, 65536, 1, 4, 1, [⟨0, 16, .rw, 0x0, 30⟩]⟩,
   ⟨0xF00, 65536, 1, 4, 1, [⟨0, 32, .ro, 0x0, 28⟩]⟩,
   ⟨0xF04, 65536, 1, 4, 1, [⟨0, 32, .ro, 0x0, 28⟩]⟩,
   ⟨0xF0C, 65536, 1, 4, 1, [⟨0, 32, .ro, 0x0, 28⟩]⟩]

/-- Registers of the ENG window. -/
def regRowsEng : List RegSpec :=
  [⟨0x0, 65536, 1, 4, 1, [⟨0, 8, .wo, 0x0, 28⟩]⟩,
   ⟨0x4, 65536, 1, 4, 1, [⟨8, 8, .ro, 0x0, 28⟩, ⟨0, 1, .ro, 0x0, 28⟩]⟩,
   ⟨0x10, 65536, 1, 4, 1, [⟨0, 32, .rw, 0x0, 28⟩]⟩,
   ⟨0x14, 65536, 1, 4, 1, [⟨0, 8, .rw, 0x0, 28⟩]⟩,
   ⟨0x18, 65536, 1, 4, 1, [⟨0, 32, .rw, 0x0, 28⟩]⟩,
   ⟨0x20, 65536, 1, 4, 1, [⟨0, 32, .rw, 0x0, 28⟩]⟩,
   ⟨0x24, 65536, 1, 4, 1, [⟨0, 8, .rw, 0x0, 28⟩]⟩,
   ⟨0x28, 65536, 1, 4, 1, [⟨0, 32, .rw, 0x0, 28⟩]⟩]

/-! ### Lookup -/

/-- Whether a register family holds a register at a window offset. -/
def RegSpec.hit (r : RegSpec) (off : Nat) : Bool :=
  decide (r.off ≤ off) && decide ((off - r.off) / r.s1 < r.c1) &&
    decide ((off - r.off) % r.s1 / r.s2 < r.c2) && decide ((off - r.off) % r.s1 % r.s2 = 0)

/-- The register table of a 64 KiB window of device control space ("Device control space" table). -/
def regRowsBlock : Nat → List RegSpec
  | 0 => regRowsDev
  | 1 => regRowsPwr
  | 2 => regRowsTurn
  | 3 => regRowsScribe
  | 4 => regRowsEvt
  | 5 => regRowsBmx
  | 6 => regRowsSafe
  | 7 => regRowsSec
  | 8 => regRowsRing
  | 9 => regRowsGrn
  | 10 => regRowsRes
  | 11 => regRowsBench
  | 12 => regRowsLdr
  | 13 => regRowsHwd
  | 14 => regRowsPt
  | 15 => regRowsPt
  | _ => []

/-- The register table and the window offset that an internal address falls in (R8, R34, R37); addresses outside every
register window have an empty table. -/
def regWindow (addr : Nat) : List RegSpec × Nat :=
  if 0x80000000 ≤ addr ∧ addr < 0x81000000 then
    (regRowsBlock ((addr - 0x80000000) / 0x10000), (addr - 0x80000000) % 0x10000)
  else if 0x40000000 ≤ addr ∧ addr < 0x50000000 then
    let o := (addr - 0x40000000) % 0x1000000
    if o < 0x1000 then (regRowsSlc, o)
    else if o < 0x2000 then (regRowsMb, o - 0x1000)
    else if o < 0x3000 then (regRowsDma, o - 0x2000)
    else ([], 0)
  else if 0x30000000 ≤ addr ∧ addr < 0x30010000 then (regRowsEng, addr - 0x30000000)
  else ([], 0)

/-- The register at an internal address, if there is one. -/
def regSpecAt (addr : Nat) : Option RegSpec :=
  (regWindow addr).1.find? fun r => r.hit (regWindow addr).2

/-- Default VF vector of slot event offset `o` ("Slot event offsets" table). -/
def slotEventVec (o : Nat) : Nat :=
  if o ≤ 3 then o else if o ≤ 6 then 3 else if o ≤ 10 then 4 else if o ≤ 13 then 5 else if o ≤ 15 then 6 else 7

/-- Reset value of EVT_ROUTE_e ("EVT_ROUTE_e" table). -/
def evtRouteReset (e : Nat) : Nat :=
  let safety := decide (480 ≤ e) && decide (e ≤ 495)
  (if e < 384 then slotEventVec (e % 24) * 2 ^ 16 + 1 else 0) + (e % 64) * 2 ^ 8 +
    (if safety then 0x66 else 0) + (if 384 ≤ e then 8 else 0)

/-- The reset values that the tables give per register of a family, beside the field resets of the rows. -/
def regResetNat (addr : Nat) : Nat :=
  if Reg.evtRoute 0 ≤ addr ∧ addr < Reg.evtRoute 512 then evtRouteReset ((addr - Reg.evtRoute 0) / 4)
  else if addr = Reg.evtEnable 15 then 0xFFFF
  else match regSpecAt addr with
    | none => 0
    | some r => r.fields.foldl (fun a f => a + f.reset * 2 ^ f.lo) 0

/-- The Reset value of the register at an internal address (the Reset column of its table); 0 where there is none. The
hidden per-TCID copies of a register stand at its address plus a multiple of 2 ^ 40 and reset alike. -/
def regReset (addr : Nat) : BitVec 32 := BitVec.ofNat 32 (regResetNat (addr % 2 ^ 40))


end Sys2Proof.Machine
end

