-- ==== Sys2Proof/Machine/Regs.lean ====
section
/-! DEFINITION. Access to memory bytes, registers and slots of the device: the one place that reads or writes them. -/

namespace Sys2Proof.Machine

/-! ### Memory

Key space: an internal address (below 2 ^ 40) names the byte at that address; the areas from 2 ^ 40 up hold memory that
no internal address reaches (check bytes, block memory arrays, shadow banks, key stores). -/

/-- What a byte that nothing has written reads as: 0xFF in the resident store array (erased flash); the CRC word of an
all-zero VENDOR_HASH in the OTP and the marks "held" of the two manufacture keys in the key store, as delivered; 0
elsewhere (assumption log 2). -/
def memDefault (a : Nat) : Byte :=
  if a < 0x2000000 then 0xFF
  else if 2 ^ 40 + 0x50000094 ≤ a ∧ a < 2 ^ 40 + 0x50000098 then
    BitVec.ofNat 8 (0x288C3AB9 / 256 ^ (a - (2 ^ 40 + 0x50000094)))
  else if a = 2 ^ 40 + 0x51000000 ∨ a = 2 ^ 40 + 0x51000040 then 1
  else 0

/-- The canonical form of memory. -/
abbrev Memory.wf (m : List Host.Cell) : Bool := Sparse.wf memDefault m

/-- The byte at key `a`. -/
def Device.byte (d : Device) (a : Nat) : Byte := Sparse.get memDefault d.mem a

/-- Write one byte. -/
def Device.setByte (d : Device) (a : Nat) (v : Byte) : Device :=
  { d with mem := Sparse.set memDefault d.mem a v }

/-- `n` bytes from key `a` up. -/
def Device.bytes (d : Device) (a n : Nat) : List Byte := (List.range n).map fun i => d.byte (a + i)

/-- Write a byte string from key `a` up. -/
def Device.setBytes (d : Device) (a : Nat) : List Byte → Device
  | [] => d
  | b :: t => (d.setByte a b).setBytes (a + 1) t

/-- The little-endian number of `n` bytes at key `a`. -/
def Device.le (d : Device) (a n : Nat) : Nat := leOf (d.bytes a n)

/-- Write a number as `n` little-endian bytes at key `a`. -/
def Device.setLe (d : Device) (a n v : Nat) : Device := d.setBytes a (leBytes n v)

/-- Return `len` bytes from key `a` up to their unwritten value. -/
def Device.clearMem (d : Device) (a len : Nat) : Device := { d with mem := Sparse.clear d.mem a len }

/-- Block memory array bytes (4,608 per block memory, R340 layout). -/
def keyBm (slot b : Nat) : Nat := 2 ^ 40 + slot * 0x20000 + b * 0x2000
/-- Check byte of a Bench word. -/
def keyBenchCheck (word : Nat) : Nat := 2 ^ 40 + 0x10000000 + word
/-- Check byte of a Grain group: channel S groups first, channel D groups from 0x8000. -/
def keyGrainCheck (group : Nat) : Nat := 2 ^ 40 + 0x20000000 + group
/-- Shadow bank `b` of Grain channel S: data from 0, check bytes from 0x80000, header from 0xF0000. -/
def keyShadow (b : Nat) : Nat := 2 ^ 40 + 0x30000000 + b * 0x100000
/-- Chuck declaration latch of a plane: the 128-byte body of the image's CHUCK section record of the member. -/
def keyChuck (slot plane : Nat) : Nat := 2 ^ 40 + 0x40000000 + (slot * 2 + plane) * 0x1000
/-- OTP, 512 bytes. -/
def keyOtp : Nat := 2 ^ 40 + 0x50000000
/-- Key store. -/
def keyStore : Nat := 2 ^ 40 + 0x51000000
/-- Grain region passwords. -/
def keyPassword : Nat := 2 ^ 40 + 0x52000000

/-! ### Registers -/

/-- The stored value of the register at an internal address. -/
def Device.rd (d : Device) (a : Nat) : Nat := (Sparse.get regReset d.regs a).toNat

/-- Store a register value. -/
def Device.wr (d : Device) (a v : Nat) : Device :=
  { d with regs := Sparse.set regReset d.regs a (BitVec.ofNat 32 v) }

/-- A register field. -/
def Device.fld (d : Device) (f : Fld) : Nat := bitsOf (d.rd f.addr) f.lo f.width

/-- Store a register field. -/
def Device.setFld (d : Device) (f : Fld) (v : Nat) : Device :=
  d.wr f.addr (withBits (d.rd f.addr) f.lo f.width v)

/-- A register field read as a flag. -/
def Device.flag (d : Device) (f : Fld) : Bool := d.fld f != 0

/-- Set or clear a register field used as a flag. -/
def Device.setFlag (d : Device) (f : Fld) (b : Bool) : Device := d.setFld f (natOf b)

/-- Saturating increment of a register field. -/
def Device.incFld (d : Device) (f : Fld) : Device := d.setFld f (satInc (2 ^ f.width - 1) (d.fld f))

/-- Bit `i` of a register field. -/
def Device.fldBit (d : Device) (f : Fld) (i : Nat) : Bool := bitOf (d.fld f) i

/-- Write bit `i` of a register field. -/
def Device.setFldBit (d : Device) (f : Fld) (i : Nat) (b : Bool) : Device := d.setFld f (withBit (d.fld f) i b)

/-- The registers from `lo` up over `len` addresses take their Reset values. -/
def Device.resetRegs (d : Device) (lo len : Nat) : Device := { d with regs := Sparse.clear d.regs lo len }

/-! ### Slots -/

/-- The sixteen slots in rising order. -/
def allSlots : List (Fin 16) := [0, 1, 2, 3, 4, 5, 6, 7, 8, 9, 10, 11, 12, 13, 14, 15]

/-- A slot. -/
def Device.slot (d : Device) (n : Fin 16) : Slot := d.slots[n]

/-- Change a slot. -/
def Device.modSlot (d : Device) (n : Fin 16) (f : Slot → Slot) : Device :=
  { d with slots := d.slots.set n (f (d.slots[n])) }

/-- `f` applied to the device for each listed slot in turn. -/
def Device.forSlots (d : Device) (l : List (Fin 16)) (f : Fin 16 → Device → Device) : Device :=
  l.foldl (fun d n => f n d) d

/-- A slot number from its low four bits. -/
def slotOf (n : Nat) : Fin 16 := ⟨n % 16, Nat.mod_lt _ (by decide)⟩

/-- The member positions' slots of a group of kind `k` whose member 0 is slot `b` (R23, R266). -/
def groupSlots (k b : Nat) : List (Fin 16) :=
  if k = 1 then [slotOf b, slotOf (b + 1)]
  else if k = 2 then [slotOf b, slotOf (b + 4)]
  else if k = 3 then [slotOf b, slotOf (b + 1), slotOf (b + 4), slotOf (b + 5)]
  else [slotOf b]

/-- Offset of member position `m` from member 0 in a group of kind `k`. -/
def memberOffset (k m : Nat) : Nat :=
  if k = 1 then m else if k = 2 then 4 * m else if k = 3 then m % 2 + 4 * (m / 2) else 0

/-- The slot at member position 0 of a slot's group; the slot itself when it is in no group. -/
def Device.member0 (d : Device) (n : Fin 16) : Fin 16 :=
  slotOf (n.val - memberOffset (d.slot n).gkind (d.slot n).gmember)

/-- The members of a slot's group, itself alone when it is in none. -/
def Device.members (d : Device) (n : Fin 16) : List (Fin 16) := groupSlots (d.slot n).gkind (d.member0 n).val

/-! ### Outputs and free values -/

/-- Emit an output. -/
def Device.emit (d : Device) (o : Out) : Device := { d with out := d.out ++ [o] }

/-- Take a free value (assumption log 3). -/
def Device.free (d : Device) : Nat × Device := ((Config.freeWord d.freeCtr).toNat, { d with freeCtr := d.freeCtr + 1 })

/-- A free bit. -/
def Device.freeBit (d : Device) : Bool × Device := (bitOf d.free.1 0, d.free.2)

/-- The 64-bit turn counter (R311). -/
def Device.turnCount (d : Device) : Nat := d.rd Reg.turnCountLo + 2 ^ 32 * d.rd Reg.turnCountHi

/-- The turn number that the next tick opens (R311, R312): the ring marker's number under the ring source with ADOPT, else
the counter plus 1. -/
def Device.nextTurn (d : Device) : Nat :=
  match d.turn.ringTurn with
  | some t => if d.fld Fld.turnStatusSrcCur = 2 ∧ d.flag Fld.turnCtlAdopt then t.toNat else (d.turnCount + 1) % 2 ^ 64
  | none => (d.turnCount + 1) % 2 ^ 64

/-- A lock bit is in force (R769, R770): 0 JTAG_DISABLE, 1 ISP_LOCK, 2 DEBUG_LOCK, 3 PLAINTEXT_DENY,
4 OPERATOR_KEY_LOCK, 5 SCRIBE_GLOBAL_DENY. -/
def Device.lockBit (d : Device) (i : Nat) : Bool := d.fldBit Fld.secLocksInForce i

end Sys2Proof.Machine
end

