-- ==== Sys2Proof/Machine/Planes.lean ====
section
/-! DEFINITION. The configuration planes as stored bits (chapter 10): frame addresses, regions, words, the descriptor. -/

namespace Sys2Proof.Machine

/-- The regions of the "Regions" table by code: blocks, frames per block, base offset in the plane (R373). -/
def regionInfo : Nat → Option (Nat × Nat × Nat)
  | 0 => some (32, 144, 0x00000)
  | 1 => some (4, 3, 0x90000)
  | 2 => some (4, 3, 0x91000)
  | 3 => some (16, 76, 0xA0000)
  | 4 => some (3, 2, 0xD0000)
  | 5 => some (1, 1, 0xD1000)
  | 6 => some (1, 3, 0xD2000)
  | 7 => some (2, 4, 0xD3000)
  | _ => none

/-- Whether a frame is present (R373). -/
def framePresent (region block frame : Nat) : Bool :=
  match regionInfo region with
  | none => false
  | some (bs, f, _) =>
    decide (block < bs) && decide (frame < f) &&
      !(decide (region = 4) && decide (block = 2) && decide (frame = 1)) &&
      !(decide (region = 7) && decide (block = 1) && decide (0 < frame))

/-- Whether an image frame may write it (R374). -/
def frameImage (region block frame : Nat) : Bool :=
  framePresent region block frame && !(decide (region = 3) && decide (4 ≤ frame)) &&
    !(decide (region = 7) && decide (block = 1))

/-- The device frame address of R372. -/
def frameAddr (slot plane region block frame : Nat) : Nat :=
  slot * 2 ^ 23 + plane * 2 ^ 22 + region * 2 ^ 18 + block * 2 ^ 10 + frame

/-- The offset of a frame in its plane (R375). -/
def frameOffset (region block frame : Nat) : Nat :=
  match regionInfo region with
  | none => 0
  | some (_, f, base) => base + (block * f + frame) * 0x80

/-- Internal address of plane `p` of a slot (R35). -/
def planeBase (slot plane : Nat) : Nat := 0x60000000 + slot * 0x800000 + plane * 0x400000

/-- Internal address of a frame (R375). -/
def frameBase (slot plane region block frame : Nat) : Nat := planeBase slot plane + frameOffset region block frame

/-- The present frame at a plane offset and the byte within it, if the offset lies in the first 128 bytes of one (R376). -/
def frameOfOffset (o : Nat) : Option (Nat × Nat × Nat × Nat) :=
  ([0, 1, 2, 3, 4, 5, 6, 7] : List Nat).findSome? fun r =>
    match regionInfo r with
    | none => none
    | some (bs, f, base) =>
      if base ≤ o ∧ o < base + bs * f * 0x80 then
        let k := (o - base) / 0x80
        if framePresent r (k / f) (k % f) then some (r, k / f, k % f, (o - base) % 0x80) else none
      else none

/-- Every present frame of a plane as (region, block, frame), in ascending device frame address. -/
def presentFrames : List (Nat × Nat × Nat) :=
  ([0, 1, 2, 3, 4, 5, 6, 7] : List Nat).flatMap fun r =>
    match regionInfo r with
    | none => []
    | some (bs, f, _) =>
      ((List.range bs).flatMap fun b => (List.range f).map fun k => (r, b, k)).filter fun x =>
        framePresent x.1 x.2.1 x.2.2

/-- Data word `w` of a frame, as stored. -/
def Device.frameWord (d : Device) (fb w : Nat) : Nat := d.le (fb + 8 * w) 8

/-- Check byte `w` of a frame, as stored. -/
def Device.frameCheck (d : Device) (fb w : Nat) : Nat := (d.byte (fb + 64 + w)).toNat

/-- Write a data word with its check byte in one operation (R399). -/
def Device.setFrameWord (d : Device) (fb w v : Nat) : Device :=
  (d.setLe (fb + 8 * w) 8 v).setByte (fb + 64 + w) (BitVec.ofNat 8 (checkByte v))

/-- Write a whole frame of 64 data bytes with its check bytes. -/
def Device.setFrame (d : Device) (fb : Nat) (data : List Byte) : Device :=
  iter 8 (fun w d => d.setFrameWord fb w (leAt data (8 * w) 8)) d

/-- Stored byte `q` of a block of a region of a plane: region bits 8q to 8q + 7 (R369, R375). -/
def Device.regionByte (d : Device) (slot plane region block q : Nat) : Byte :=
  d.byte (frameBase slot plane region block (q / 64) + q % 64)

/-- `n` region bits from region bit `r` up, of a block of a region of a plane, read from the stored data bits (R369,
R370); a field may run over the end of a frame into the next. -/
def Device.cfg (d : Device) (slot plane region block r n : Nat) : Nat :=
  bitsOf (leOf ((List.range ((r % 8 + n + 7) / 8)).map fun i => d.regionByte slot plane region block (r / 8 + i)))
    (r % 8) n

/-- Key of the plane descriptor frame (R395). -/
def descBase (slot plane : Nat) : Nat := frameBase slot plane 7 1 0

/-- VALID of a plane's descriptor. -/
def Device.pValid (d : Device) (slot plane : Nat) : Bool := d.cfg slot plane 7 1 432 1 == 1
/-- IMAGE_HASH octets of a plane's descriptor. -/
def Device.pHash (d : Device) (slot plane : Nat) : List Byte := d.bytes (descBase slot plane) 48
/-- SEC_BITS of a plane's descriptor. -/
def Device.pSec (d : Device) (slot plane : Nat) : Nat := d.cfg slot plane 7 1 384 32
/-- IMAGE_CLASS of a plane's descriptor. -/
def Device.pClass (d : Device) (slot plane : Nat) : Nat := d.cfg slot plane 7 1 416 8
/-- MEMBER of a plane's descriptor. -/
def Device.pMember (d : Device) (slot plane : Nat) : Nat := d.cfg slot plane 7 1 424 4

/-- Rewrite the descriptor word that holds VALID, with a fresh check byte (R401, R413 step 7). -/
def Device.setValid (d : Device) (slot plane : Nat) (v : Bool) : Device :=
  d.setFrameWord (descBase slot plane) 6 (withBit (d.frameWord (descBase slot plane) 6) 48 v)

/-- Number of a slot's active plane. -/
def Device.act (d : Device) (n : Fin 16) : Nat := natOf (d.slot n).active
/-- Number of a slot's inactive plane. -/
def Device.inact (d : Device) (n : Fin 16) : Nat := 1 - natOf (d.slot n).active

/-- Move a slot's scrub. -/
def Device.setScrub (d : Device) (n : Fin 16) (q : ScrubPos) : Device :=
  { d with loader := { d.loader with scrub := d.loader.scrub.set n q } }

/-- The IMAGE_CLASS that fills a group of kind `k` (R329): 1 class 1, 2 class 2H, 3 class 2V, 4 class 4. -/
def classOfKind (k : Nat) : Nat := k + 1

/-- Zero a plane with its check bytes and its chuck declaration latch (R396, R471). -/
def Device.zeroPlane (d : Device) (slot plane : Nat) : Device :=
  (d.clearMem (planeBase slot plane) 0x400000).clearMem (keyChuck slot plane) 0x1000

end Sys2Proof.Machine
end

