-- ==== Sys2Proof/Machine/Events.lean ====
section
/-! DEFINITION. The event hub (chapter 21) and the SCRIBE triggers that a raise can make (R799 to R807). -/

namespace Sys2Proof.Machine

/-! ### SCRIBE triggers -/

/-- The tick number a device puts into an ALIGNED ring trigger (R806). -/
def Device.leadTick (d : Device) : Nat :=
  d.turnCount + (if d.fld Fld.scribeCtlRingLead = 0 then 1 else d.fld Fld.scribeCtlRingLead)

/-- Make an ALIGNED latch pending at tick `tick` (none: the next tick); a trigger that meets a pending latch joins it
(R804, R805). -/
def Device.pendAligned (d : Device) (tick : Option Nat) : Device :=
  if d.flag Fld.scribeStatusPendAligned then d
  else { (d.setFlag Fld.scribeStatusPendAligned true) with scribe := { d.scribe with alignTick := tick } }

/-- A trigger of source `src` (1 FIRE, 2 SCRIBE_IO, 3 ring, 4 event) at REFCLK edge `edge`, in the given mode; `tick` is
the tick an ALIGNED latch waits for. Triggers on one edge count as one (R799). -/
def Device.trigger (d : Device) (src edge : Nat) (aligned : Bool) (tick : Option Nat) : Device :=
  if d.scribe.lastTrig = some edge then d
  else
    let d := { d with scribe := { d.scribe with lastTrig := some edge } }
    let d := (d.wr Reg.scribeGen (d.rd Reg.scribeGen + 1)).setFld Fld.scribeStatusLastSrc src
    let d := if d.flag Fld.scribeCtlIoOutEn && src != 2 then
        { d.emit .scribeIo with scribe := { d.scribe with deafTill := d.now + 14 } } else d
    let ringOut := d.flag Fld.scribeCtlRingOutEn && src != 3
    let d := if ringOut then
        let q := (d.ring.seq + 1) % 256
        ({ d with ring := { d.ring with seq := q } }).emit (.ringTrigger aligned (if aligned then d.leadTick else 0) q)
      else d
    if aligned then d.pendAligned (if ringOut then some d.leadTick else tick)
    else { d with scribe := { d.scribe with immDue := d.scribe.immDue ++ [edge + 3] } }

/-! ### Raising (R837 to R839) -/

/-- Pack syndrome fields, each a value and its width, from bit 0 upward (R839). -/
def packSyn : List (Nat × Nat) → Nat
  | [] => 0
  | (v, w) :: t => v % 2 ^ w + 2 ^ w * packSyn t

/-- A raise latch at its place in the order of event numbers. -/
def latchInsert (l : List RaiseLatch) (x : RaiseLatch) : List RaiseLatch :=
  match l with
  | [] => [x]
  | y :: t => if x.event < y.event then x :: y :: t else y :: latchInsert t x

/-- Set the raise latch of an event, or merge into the waiting delivery (R843, R844). -/
def latchRaise (l : List RaiseLatch) (e : Nat) (syn : BitVec 64) (turn route : BitVec 32) : List RaiseLatch :=
  if l.any fun x => x.event == e then
    l.map fun x => if x.event = e then ⟨e, syn, turn, route, satInc 255 x.merge⟩ else x
  else latchInsert l ⟨e, syn, turn, route, 0⟩

/-- ENABLE of event `e`. -/
def Device.evtEnable (d : Device) (e : Nat) : Bool := bitOf (d.rd (Reg.evtEnable (e / 32))) (e % 32)
/-- STATUS of event `e`. -/
def Device.evtStatus (d : Device) (e : Nat) : Bool := bitOf (d.rd (Reg.evtStatus (e / 32))) (e % 32)

/-- Whether a raise of `e` is a SCRIBE trigger (R799, R800). -/
def Device.evtTriggers (d : Device) (e : Nat) : Bool :=
  d.flag Fld.scribeCtlEvtEn && bitOf (d.rd (Reg.scribeTmask (e / 32))) (e % 32) &&
    !(decide (507 ≤ e) && decide (e ≤ 509))

/-- Raise event `e` with a packed syndrome: STATUS at once, the latch where ENABLE is 1, and the trigger. -/
def Device.raiseSyn (d : Device) (e : Nat) (syn : Nat) : Device :=
  let d := d.wr (Reg.evtStatus (e / 32)) (withBit (d.rd (Reg.evtStatus (e / 32))) (e % 32) true)
  let d := if d.evtEnable e then
      { d with latches := latchRaise d.latches e (BitVec.ofNat 64 syn) (BitVec.ofNat 32 (d.rd Reg.turnCountLo))
                 (BitVec.ofNat 32 (d.rd (Reg.evtRoute e))) }
    else d
  if d.evtTriggers e then d.trigger 4 d.now (d.flag Fld.scribeCtlMode) none else d

/-- Raise event `e` with the syndrome fields its chapter names (R839). -/
def Device.raise (d : Device) (e : Nat) (syn : List (Nat × Nat)) : Device := d.raiseSyn e (packSyn syn)

/-- Raise slot event `o` of slot `n` (R836). -/
def Device.raiseSlot (d : Device) (n : Fin 16) (o : Nat) (syn : List (Nat × Nat)) : Device :=
  d.raise (24 * n.val + o) syn

/-! ### Level outputs (R842) -/

/-- Whether some event of a list has STATUS and ENABLE 1 and route bit `b` set. -/
def Device.anyRouted (d : Device) (l : List Nat) (b : Nat) : Bool :=
  l.any fun e => d.evtStatus e && d.evtEnable e && bitOf (d.rd (Reg.evtRoute e)) b

/-- SMB_ALERT_N is driven low. -/
def Device.smbAlert (d : Device) : Bool := d.anyRouted (List.range 512) 4
/-- The SAFE_N request of the hub. -/
def Device.safeRequest (d : Device) : Bool := d.anyRouted ((List.range 16).map (480 + ·)) 5
/-- The ring fault summary bit. -/
def Device.ringFaultBit (d : Device) : Bool := d.anyRouted (List.range 512) 6

/-- The ring interface is in service: EN is 1, VCCRING is above its falling threshold, and the RING domain is on (R867, R898). -/
def Device.ringOn (d : Device) : Bool :=
  d.flag Fld.ringCtlEn && !bitOf d.power.low.toNat 6 && d.fldBit Fld.pwrDomStatusOn 21

/-- This device's ring address. -/
def Device.ringAddr (d : Device) : Nat := d.fld Fld.ringCtlAddr

/-- Some condition of R969 holds, so that SAFE_N must be driven low. -/
def Device.safeDrive (d : Device) : Bool :=
  !d.flag Fld.safeStatusArmed || d.flag Fld.safeStatusDss || d.rd Reg.safeActive != 0 || d.safeRequest

/-- SAFE_N goes low when a condition of R969 holds, and the ball then reads low (R971); it goes high only at its release. -/
def Device.safeLow (d : Device) : Device :=
  if d.safeDrive && !d.flag Fld.safeStatusDrive then (d.setFlag Fld.safeStatusDrive true).setFlag Fld.safeStatusRbLow true
  else d

/-- The safety plane's record of a detection: the SAFE_CAUSE bit, the event, and SAFE_N (R965, R966, R969). -/
def Device.signal (d : Device) (cause event : Nat) (syn : List (Nat × Nat)) : Device :=
  ((d.setFldBit Fld.safeCauseSeen cause true).raise event syn).safeLow

/-! ### Delivery (R840 to R848) -/

/-- The latch the delivery engine takes next: events 480 to 495 first, then every other, ascending (R843). -/
def nextLatch (l : List RaiseLatch) : Option RaiseLatch :=
  match l.find? fun x => decide (480 ≤ x.event) && decide (x.event ≤ 495) with
  | some x => some x
  | none => l.head?

/-- VF `v` of port `p` is enabled. -/
def Device.vfEnabled (d : Device) (p v : Nat) : Bool :=
  d.flag (Fld.ptStatusVfEn p) && decide (1 ≤ v) && decide (v ≤ d.fld (Fld.ptStatusNumVfs p))

/-- The binding of a slot's group: that of its member 0 (R467). -/
def Device.bindingOf (d : Device) (n : Fin 16) : Option (Fin 2 × Nat) := (d.slot (d.member0 n)).binding

/-- The owner VF of a delivery (R841): by slot number, or by the slot in syndrome bits [3:0] for 507, 508 and 510. -/
def Device.ownerVf (d : Device) (x : RaiseLatch) : Option (Fin 2 × Nat) :=
  let o := if x.event < 384 then some (x.event / 24)
    else if x.event = 507 ∨ x.event = 508 ∨ x.event = 510 then some (x.syn.toNat % 16) else none
  match o with
  | none => none
  | some n =>
    match d.bindingOf (slotOf n) with
    | some (p, v) => if d.vfEnabled p v then some (p, v) else none
    | none => none

/-- The coalescing register of a vector: function 0 is the PF (64 vectors), f a VF (8 vectors). -/
def coalReg (p fn v : Nat) : Nat :=
  if fn = 0 then Reg.evtCoalPf p v else Reg.evtCoalVf p (8 * (fn - 1) + v)

/-- Hand a ready message to the MSI-X engine: it is pending in the function's PBA until sent (R849, R515). -/
def Device.msixReady (d : Device) (p : Fin 2) (fn v : Nat) : Device :=
  let q := d.ports[p]
  { d with ports := d.ports.set p { q with pba := if (fn, v) ∈ q.pba then q.pba else q.pba ++ [(fn, v)] } }

/-- Make the message of a vector ready: pending count and age become 0 (R848). -/
def Device.vectorReady (d : Device) (p : Fin 2) (fn v : Nat) : Device :=
  (d.wr (coalReg p fn v) (d.rd (coalReg p fn v) % 2 ^ 16)).msixReady p fn v

/-- A vector whose age has reached its TURNS, where that is not 0, has its message made ready (R848). -/
def Device.vectorExpire (d : Device) (p : Fin 2) (fn v : Nat) : Device :=
  let w := d.rd (coalReg p fn v)
  if bitsOf w 16 8 ≠ 0 ∧ bitsOf w 8 8 ≠ 0 ∧ bitsOf w 8 8 ≤ bitsOf w 24 8 then d.vectorReady p fn v else d

/-- A delivery reaches a vector: its pending count rises, its age restarts when the count rises from 0, and the count
condition is judged (R847, R848). -/
def Device.vectorAdd (d : Device) (p : Fin 2) (fn v : Nat) : Device :=
  let w := d.rd (coalReg p fn v)
  let pend := satInc 255 (bitsOf w 16 8)
  let age := if bitsOf w 16 8 = 0 then 0 else bitsOf w 24 8
  let count := if bitsOf w 0 8 = 0 then 1 else bitsOf w 0 8
  let d := d.wr (coalReg p fn v) (w % 2 ^ 16 + pend * 2 ^ 16 + age * 2 ^ 24)
  if count ≤ pend then d.vectorReady p fn v else d

/-- The device side of one delivery: the vectors its route names (R840). -/
def Device.deliverVectors (d : Device) (x : RaiseLatch) : Device :=
  let r := x.route.toNat
  let d := if bitOf r 0 then
      match d.ownerVf x with
      | some (p, v) => d.vectorAdd p v (bitsOf r 16 3)
      | none => d
    else d
  let d := if bitOf r 1 then d.vectorAdd 0 0 (bitsOf r 8 6) else d
  if bitOf r 2 then d.vectorAdd 1 0 (bitsOf r 8 6) else d

/-- At a tick instant the age of every vector with a pending count rises, and the turn condition is judged (R847,
R848); the vectors are those whose coalescing register is listed, since a pending count is not its reset value. -/
def Device.ageVectors (d : Device) : Device :=
  let one := fun (p : Fin 2) (fn v : Nat) (d : Device) =>
    let w := d.rd (coalReg p fn v)
    if bitsOf w 16 8 = 0 then d
    else
      let age := satInc 255 (bitsOf w 24 8)
      (d.wr (coalReg p fn v) (w % 2 ^ 24 + age * 2 ^ 24)).vectorExpire p fn v
  (d.regs.filter fun c => decide (Reg.evtCoalPf 0 0 ≤ c.1) && decide (c.1 < Reg.evtCoalPf 0 0 + 0x2000)).foldl
    (fun d c =>
      let o := c.1 - Reg.evtCoalPf 0 0
      let p : Fin 2 := if o < 0x1000 then 0 else 1
      let k := o % 0x1000 / 4
      if k < 64 then one p 0 k d else one p ((k - 64) / 8 + 1) ((k - 64) % 8) d) d

/-- Drop the latch of an event. -/
def dropLatch (l : List RaiseLatch) (e : Nat) : List RaiseLatch := l.filter fun x => x.event != e

/-- The record of a delivery (R845). -/
def RaiseLatch.record (x : RaiseLatch) : EvtRecord := ⟨x.event, x.merge, x.syn, x.turn⟩

/-- The queues a route names: q 0 by PFA, 1 by PFB, 2 by SMB, 3 by HWD ("Route targets" table). -/
def routeQueue (route q : Nat) : Bool := bitOf route (if q = 0 then 1 else if q = 1 then 2 else if q = 2 then 4 else 3)

/-- Pending counts and ages of a range of vectors return to 0 (R852). -/
def Device.resetVectors (d : Device) (p fn : Nat) : Device :=
  iter (if fn = 0 then 64 else 8) (fun v d => d.wr (coalReg p fn v) (d.rd (coalReg p fn v) % 2 ^ 16)) d

end Sys2Proof.Machine
end

