-- ==== Sys2Proof/Machine/Bench.lean ====
section
/-! DEFINITION. Bench memory (chapter 15): words with ECC, the coherence directory, patrol, sleep and contents. -/

namespace Sys2Proof.Machine

/-! ### Words (R602 to R606) -/

/-- Internal address of Bench offset 0. -/
def benchBase : Nat := 0x10000000
/-- Bench size in bytes. -/
def benchSize : Nat := 0x800000

/-- Stored data of Bench word `w`. -/
def Device.benchData (d : Device) (w : Nat) : Nat := d.le (benchBase + 8 * w) 8
/-- Stored check byte of Bench word `w`. -/
def Device.benchCheck (d : Device) (w : Nat) : Nat := (d.byte (keyBenchCheck w)).toNat

/-- Store a Bench word with a freshly computed check byte (R603). -/
def Device.setBenchWord (d : Device) (w v : Nat) : Device :=
  (d.setLe (benchBase + 8 * w) 8 v).setByte (keyBenchCheck w) (BitVec.ofNat 8 (checkByte v))

/-- Latch the first ECC record (R605, R638). -/
def Device.benchLatch (d : Device) (w : Nat) (patrol : Bool) : Device :=
  if d.flag Fld.benchEccSynValid then d
  else (d.setFld Fld.benchEccAddrWord w).wr Reg.benchEccSyn
    (2 ^ 31 + natOf patrol * 2 ^ 9 + natOf (eccP (d.benchData w) (d.benchCheck w)) * 2 ^ 8 +
      eccS (d.benchData w) (d.benchCheck w))

/-- A correctable word: counted, reported and written back unless told otherwise (R604, R608); the record is that of an uncorrectable
outcome (R605), so that it stays. -/
def Device.benchCorrected (d : Device) (w v : Nat) (writeBack : Bool) : Device :=
  let d := (d.incFld Fld.benchEccCorrCount).raise 440 [(8 * w, 23)]
  if writeBack then d.setBenchWord w v else d

/-- An uncorrectable word met by an access or the patrol (R605, R607, R608). -/
def Device.benchUncorrectable (d : Device) (w : Nat) (patrol : Bool) : Device :=
  let d := (d.benchLatch w patrol).incFld Fld.benchEccUncCount
  let d := d.raise (if patrol then 442 else 441) [(8 * w, 23)]
  d.signal 11 488 [(natOf patrol, 4)]

/-- Read one word from the array with its ECC outcome: the data, or none where it is uncorrectable. -/
def Device.benchReadWord (d : Device) (w : Nat) : Option Nat × Device :=
  match eccDecode (d.benchData w) (d.benchCheck w) with
  | .clean => (some (d.benchData w), d)
  | .corrected v => (some v, d.benchCorrected w v true)
  | .uncorrectable => (none, d.benchUncorrectable w false)

/-- Merge enabled bytes (bit i of `en` for byte i) of `v` into the 8-byte word `old`. -/
def mergeBytes (n old en v : Nat) : Nat :=
  iter n (fun i a => if bitOf en i then withBits a (8 * i) 8 (bitsOf v (8 * i) 8) else a) old

/-- Write the enabled bytes of one word: a whole word is replaced, a part is a read-modify-write (R603, R605). The flag
is false where the word was uncorrectable and stays unchanged. -/
def Device.benchWriteWord (d : Device) (w en v : Nat) : Bool × Device :=
  if en % 256 = 0 then (true, d)
  else if en % 256 = 255 then (true, d.setBenchWord w v)
  else
    match d.benchReadWord w with
    | (some old, d) => (true, d.setBenchWord w (mergeBytes 8 old en v))
    | (none, d) => (false, d)

/-- The bank of a Bench offset is awake after an access or the patrol's read (R609, R611). -/
def Device.benchWake (d : Device) (off : Nat) : Device := d.setFldBit Fld.benchStatusAwake (off / 0x100000 % 8) true

/-! ### The directory (R617 to R625) -/

/-- The directory entry of a line; a line that is not listed is I, not busy and has nothing waiting. -/
def Device.benchLine (d : Device) (l : Nat) : BenchLine :=
  match d.bench.lines.find? fun x => x.line = l with
  | some x => x
  | none => ⟨l, 0, none, 0, false, []⟩

/-- A directory entry says nothing: the line is I, not busy, and nothing waits for it. -/
def BenchLine.idle (x : BenchLine) : Bool := x.sharers == 0 && x.owner.isNone && !x.busy && x.pend.isEmpty

/-- Put a directory entry at its place in the rising order in the stead of its line's, dropping it when it says nothing. -/
def putLine (l : List BenchLine) (x : BenchLine) : List BenchLine :=
  let rest := l.filter fun y => y.line != x.line
  if x.idle then rest
  else (rest.takeWhile fun y => decide (y.line < x.line)) ++ x :: rest.dropWhile fun y => decide (y.line < x.line)

/-- Store a directory entry. -/
def Device.setBenchLine (d : Device) (x : BenchLine) : Device :=
  { d with bench := { d.bench with lines := putLine d.bench.lines x } }

/-- Lines busy now. -/
def Device.benchBusy (d : Device) : Nat := (d.bench.lines.filter fun x => x.busy).length

/-- The line of a Bench offset is busy while a request to it is served, and its bank is awake (R611, R617): MAX_BUSY keeps the highest
count of busy lines. -/
def Device.benchEnter (d : Device) (off : Nat) : Device :=
  let d := d.benchWake off
  let n := d.benchBusy + natOf (!(d.benchLine (off / 64)).busy)
  if d.fld Fld.benchDirStatusMaxBusy < n then d.setFld Fld.benchDirStatusMaxBusy n else d

/-- Write a whole line to the array (PutM, forwards). -/
def Device.benchPutLine (d : Device) (l : Nat) (data : BitVec 512) : Device :=
  iter 8 (fun i d => d.setBenchWord (8 * l + i) (bitsOf data.toNat (64 * i) 64)) d

/-- Read a whole line from the array; none where a word is uncorrectable (R606). -/
def Device.benchGetLine (d : Device) (l : Nat) : Option (BitVec 512) × Device :=
  (List.range 8).foldl (fun (r : Option (BitVec 512) × Device) i =>
    match r.2.benchReadWord (8 * l + i) with
    | (some v, d) => (r.1.map fun a => a ||| BitVec.ofNat 512 (v * 2 ^ (64 * i)), d)
    | (none, d) => (none, d)) (some 0, d)

/-- The data that a sharer of a line holds: the array's, without an array operation; a word that has become uncorrectable since is a free
value. -/
def Device.benchShared (d : Device) (l : Nat) : BitVec 512 × Device :=
  (List.range 8).foldl (fun (r : BitVec 512 × Device) i =>
    let (v, d) := match eccDecode (r.2.benchData (8 * l + i)) (r.2.benchCheck (8 * l + i)) with
      | .clean => (r.2.benchData (8 * l + i), r.2)
      | .corrected v => (v, r.2)
      | .uncorrectable => r.2.free
    (r.1 ||| BitVec.ofNat 512 (v % 2 ^ 64 * 2 ^ (64 * i)), d)) (0, d)

/-- Take a line's dirty copy back into the array; with `keep` the owner keeps S (downgrade), else it goes I. -/
def Device.benchForward (d : Device) (l : Nat) (keep : Bool) : Device :=
  let x := d.benchLine l
  match x.owner with
  | none => d
  | some a =>
    (d.benchPutLine l x.data).setBenchLine
      { x with owner := none, sharers := if keep then BitVec.ofNat 3 (withBit x.sharers.toNat a.val true) else 0 }

/-- Merge enabled bytes of a line into the array, word by word (R603, R634). -/
def Device.benchMerge (d : Device) (l : Nat) (en : BitVec 64) (data : BitVec 512) : Bool × Device :=
  (List.range 8).foldl (fun (r : Bool × Device) i =>
    let (ok, d) := r.2.benchWriteWord (8 * l + i) (bitsOf en.toNat (8 * i) 8) (bitsOf data.toNat (64 * i) 64)
    (r.1 && ok, d)) (true, d)

/-- Serve one request at the directory ("Directory actions" table): response data (none: TGTERR) and the device. -/
def Device.benchServe (d : Device) (l : Nat) (src : Fin 4) (op : LineOp) : Option (BitVec 512) × Device :=
  let d := d.benchEnter (64 * l)
  let agent : Fin 3 := ⟨src.val % 3, Nat.mod_lt _ (by decide)⟩
  match op with
  | .getS =>
    let d := d.benchForward l true
    let (v, d) := d.benchGetLine l
    let x := d.benchLine l
    (v, d.setBenchLine { x with sharers := BitVec.ofNat 3 (withBit x.sharers.toNat agent.val true) })
  | .getM =>
    let held := bitOf (d.benchLine l).sharers.toNat agent.val
    let d := d.benchForward l false
    let (v, d) := if held then ((d.benchShared l).map some id) else d.benchGetLine l
    let x := d.benchLine l
    match v with
    | some v => (some v, d.setBenchLine { x with sharers := 0, owner := some agent, data := v })
    | none => (none, d)
  | .putM data =>
    let x := d.benchLine l
    if x.owner = some agent then
      (some 0, (d.benchPutLine l data).setBenchLine { x with owner := none, sharers := 0, data := 0 })
    else (some 0, d)
  | .wrLine en data =>
    let d := d.benchForward l false
    let x := d.benchLine l
    let d := d.setBenchLine { x with sharers := 0, data := 0 }
    let (ok, d) := d.benchMerge l en data
    (if ok then some 0 else none, d)
  | .read =>
    let d := d.benchForward l true
    d.benchGetLine l
  | .write en data =>
    let d := d.benchForward l false
    let x := d.benchLine l
    let d := d.setBenchLine { x with sharers := 0, data := 0 }
    let (ok, d) := d.benchMerge l en data
    (if ok then some 0 else none, d)

/-- The rank of a waiting request among those of its cycle (R621). -/
def LineReq.rank (q : LineReq) : Nat :=
  match q.op with
  | .putM _ => 0
  | _ => q.src.val + 1

/-- The waiting request served next: oldest cycle first, then R621's order. -/
def nextLineReq : List LineReq → Option LineReq
  | [] => none
  | q :: t =>
    match nextLineReq t with
    | none => some q
    | some r => if r.cycle < q.cycle ∨ (r.cycle = q.cycle ∧ r.rank < q.rank) then some r else some q

/-- Mark a line busy or not, keeping MAX_BUSY the highest busy count seen. -/
def Device.benchSetBusy (d : Device) (l : Nat) (b : Bool) : Device :=
  let d := d.setBenchLine { d.benchLine l with busy := b }
  let n := d.benchBusy
  let d := d.setFld Fld.benchDirStatusBusy n
  if d.fld Fld.benchDirStatusMaxBusy < n then d.setFld Fld.benchDirStatusMaxBusy n else d

/-- A request reaches the directory: it is served when its line is not busy and fewer than 16 lines are, else it waits
in its source's pending slot; `long` says that its action is still under way when the next request arrives, so that the
line stays busy until it is freed (R617, R620, R622). -/
def Device.benchRequest (d : Device) (l : Nat) (q : LineReq) (long : Bool) : Option (Option (BitVec 512)) × Device :=
  let x := d.benchLine l
  if x.busy ∨ 16 ≤ d.benchBusy then
    if x.pend.any fun r => r.src = q.src then (none, d)
    else (none, d.setBenchLine { x with pend := x.pend ++ [q] })
  else
    let (v, d) := d.benchServe l q.src q.op
    (some v, if long then d.benchSetBusy l true else d)

/-- A busy line completes; the request that waits for it longest is served (R622). -/
def Device.benchFree (d : Device) (l : Nat) : Option (LineReq × Option (BitVec 512)) × Device :=
  let d := d.benchSetBusy l false
  let x := d.benchLine l
  match nextLineReq x.pend with
  | none => (none, d)
  | some q =>
    let d := d.setBenchLine { x with pend := x.pend.filter fun r => r.src != q.src }
    let (v, d) := d.benchServe l q.src q.op
    (some (q, v), d)

/-! ### Coherent accesses of firmware and of the matrix -/

/-- Read `n` bytes at Bench offset `off`; none where a word is uncorrectable. The directory is asked where `snoop` holds; reads of M2 are
served from the array alone (R626). -/
def Device.benchReadBy (d : Device) (snoop : Bool) (off n : Nat) : Option (List Byte) × Device :=
  if n = 0 then (some [], d)
  else
    let first := off / 8
    let last := (off + n - 1) / 8
    let (ok, d) := (List.range (last - first + 1)).foldl (fun (r : Bool × Device) i =>
      let w := first + i
      let d := r.2.benchEnter (8 * w)
      let d := if snoop then d.benchForward (w / 8) true else d
      match d.benchReadWord w with
      | (some _, d) => (r.1, d)
      | (none, d) => (false, d)) (true, d)
    if ok then (some (d.bytes (benchBase + off) n), d) else (none, d)

/-- Read `n` bytes at Bench offset `off` through the directory. -/
def Device.benchRead (d : Device) (off n : Nat) : Option (List Byte) × Device := d.benchReadBy true off n

/-- Write bytes at Bench offset `off` through the directory, `en` telling which are enabled. The flag is false where a
partial write met an uncorrectable word (R605, R606). -/
def Device.benchWrite (d : Device) (off : Nat) (en : List Bool) (data : List Byte) : Bool × Device :=
  let n := data.length
  if n = 0 then (true, d)
  else
    let first := off / 8
    let last := (off + n - 1) / 8
    (List.range (last - first + 1)).foldl (fun (r : Bool × Device) i =>
      let w := first + i
      let byteAt := fun k => if 8 * w + k < off then none else
        match data[8 * w + k - off]?, en[8 * w + k - off]? with
        | some b, some true => some b
        | _, _ => none
      let enb := ofBits ((List.range 8).map fun k => (byteAt k).isSome)
      let v := leOf ((List.range 8).map fun k => (byteAt k).getD 0)
      let d := (r.2.benchEnter (8 * w)).benchForward (w / 8) false
      let x := d.benchLine (w / 8)
      let d := d.setBenchLine { x with sharers := 0, data := 0 }
      let (ok, d) := d.benchWriteWord w enb v
      (r.1 && ok, d)) (true, d)

/-- Write a byte string with every byte enabled. -/
def Device.benchStore (d : Device) (off : Nat) (data : List Byte) : Device :=
  (d.benchWrite off (List.replicate data.length true) data).2

/-- An address range lies wholly in Bench memory. -/
def inBench (addr len : Nat) : Bool := decide (benchBase ≤ addr) && decide (addr + len ≤ benchBase + benchSize)

/-! ### Patrol, sleep, contents -/

/-- The patrol reads the next word (R608) and wakes its bank for that (R609): an uncorrectable word is left as stored; a correctable one is written back
unless a cache holds its line in M. -/
def Device.benchPatrol (d : Device) : Device :=
  if d.flag Fld.benchPatrolCtlEn then
    let w := d.bench.patrol
    let d := ({ d with bench := { d.bench with patrol := (w + 1) % 0x100000 } }).benchWake (8 * w)
    match eccDecode (d.benchData w) (d.benchCheck w) with
    | .clean => d
    | .corrected v => d.benchCorrected w v (d.benchLine (w / 8)).owner.isNone
    | .uncorrectable => d.benchUncorrectable w true
  else d

/-- A bank that has been idle for IDLE_US enters sleep where its SLEEP_EN bit is 1 (R610). -/
def Device.benchSleep (d : Device) (bank : Nat) : Device :=
  if d.fldBit Fld.benchSleepCtlSleepEn bank then d.setFldBit Fld.benchStatusAwake bank false else d

/-- Zero the whole array with valid check bytes and reset the directory (R627, R631). -/
def Device.benchZero (d : Device) : Device :=
  let d := (d.clearMem benchBase benchSize).clearMem (keyBenchCheck 0) 0x100000
  { d with bench := { d.bench with lines := [] } }

/-- Bench zeroing starts: not ready until it ends (R627). -/
def Device.benchZeroStart (d : Device) : Device :=
  (d.setFlag Fld.benchStatusReady false).setFlag Fld.benchStatusZeroing true

/-- At a warm reset every line held in M is written back and every line becomes I (R628). -/
def Device.benchWriteBackAll (d : Device) : Device :=
  let d := d.bench.lines.foldl (fun d x => d.benchForward x.line false) d
  { d with bench := { d.bench with lines := [] } }

end Sys2Proof.Machine
end

