-- ==== Sys2Proof/Machine/HwdQueue.lean ====
section
/-! DEFINITION. Heartwood's command queues and completions (R739 to R742, R745). -/

namespace Sys2Proof.Machine

/-- A named byte field of a descriptor. -/
def HwdCmd.f (c : HwdCmd) (off n : Nat) : Nat := leAt c.desc off n
/-- The OPCODE of a command. -/
def HwdCmd.op (c : HwdCmd) : Nat := c.f 0 1
/-- The CMD_TAG of a command. -/
def HwdCmd.tag (c : HwdCmd) : Nat := c.f 4 4

/-- The command in progress with a serial number. -/
def Device.cmd (d : Device) (cid : Nat) : Option HwdCmd := d.hwd.cmds.find? fun c => c.cid = cid

/-- Commands of queue `q` in progress. -/
def Device.inProgress (d : Device) (q : Nat) : Nat := (d.hwd.cmds.filter fun c => c.queue.val = q).length

/-- Change a command in progress. -/
def Device.modCmd (d : Device) (cid : Nat) (f : HwdCmd → HwdCmd) : Device :=
  { d with hwd := { d.hwd with cmds := d.hwd.cmds.map fun c => if c.cid = cid then f c else c } }

/-- Microseconds between a past time and now, saturating (R742 completion entry). -/
def Device.elapsedUs (d : Device) (t : Nat) : Nat := min (0xFFFFFFFF) ((d.now - t) / 100)

/-- Post a completion entry on queue `q`: written at CQ_BASE + 64 × TAIL, then pushed, then event 448 + q (R741, R766). -/
def Device.postCompletion (d : Device) (q tag op status taken : Nat) (result : List Byte) : Device :=
  let tail := d.fld (Fld.hwdQCqStatusTail q)
  let entry := leBytes 4 tag ++ leBytes 1 op ++ leBytes 1 status ++ leBytes 1 q ++ [0] ++
    leBytes 4 (d.elapsedUs taken) ++ leBytes 8 d.turnCount ++ padTo 44 result
  let d := if d.flag Fld.devReadyBench then d.benchStore (d.fld (Fld.hwdQCqBaseBase q) * 4096 + 64 * tail) entry else d
  let d := d.setFld (Fld.hwdQCqStatusTail q) ((tail + 1) % 64)
  let n := d.fld (Fld.hwdQCqStatusDepth q) + 1
  let d := (d.setFld (Fld.hwdQCqStatusDepth q) n).setFlag (Fld.hwdQCqStatusFull q) (decide (n = 64))
  d.raise (448 + q) [(tag, 16)]

/-- Complete one command in progress. -/
def Device.completeOne (d : Device) (c : HwdCmd) (status : Nat) (result : List Byte) : Device :=
  let d := { d with hwd := { d.hwd with cmds := d.hwd.cmds.filter fun x => x.cid != c.cid } }
  d.postCompletion c.queue.val c.tag c.op status c.taken result

/-- The ABORT commands that wait for a command to end (R749). -/
def Device.abortsOf (d : Device) (cid : Nat) : List HwdCmd :=
  d.hwd.cmds.filter fun x => x.op == 0x7F && x.stage == 1 && x.aux == cid

/-- Complete a command in progress with a status and a result area, and after it every ABORT that waits for it (R749). A serial
number below 16 names an entry of the autoload directory, whose code firmware keeps; one that names no command in progress
has been completed already. -/
def Device.complete (d : Device) (cid status : Nat) (result : List Byte) : Device :=
  match d.cmd cid with
  | none =>
    if cid < 16 then
      { d with hwd := { d.hwd with auto := d.hwd.auto.map fun a => { a with results := a.results ++ [(cid, status)] } } }
    else d
  | some c => (d.abortsOf cid).foldl (fun d a => d.completeOne a 0 []) (d.completeOne c status result)

/-- Complete a command when there is one. -/
def Device.completeOpt (d : Device) (cid : Option Nat) (status : Nat) (result : List Byte) : Device :=
  match cid with
  | some c => d.complete c status result
  | none => d

/-- The number of the tick being performed, as the turn counter holds it from position 8 on (R6): the result of a command that
completes at its tick (R746). -/
def Device.tickNumber (d : Device) : List Byte := leBytes 8 d.nextTurn

/-- A queue register's overflow or underflow is set and raises event 451 with queue and ring (R766). -/
def Device.queueFault (d : Device) (f : Fld) (q ring : Nat) : Device := (d.setFlag f true).raise 451 [(q, 2), (ring, 1)]

/-- A submission doorbell (R740): counts a command that the submitter has written at the tail. -/
def Device.sqPush (d : Device) (q : Nat) : Device :=
  let n := d.fld (Fld.hwdQSqStatusDepth q)
  if n ≥ 64 then d.queueFault (Fld.hwdQSqStatusOverflow q) q 0
  else
    let d := d.setFld (Fld.hwdQSqStatusTail q) ((d.fld (Fld.hwdQSqStatusTail q) + 1) % 64)
    (d.setFld (Fld.hwdQSqStatusDepth q) (n + 1)).setFlag (Fld.hwdQSqStatusFull q) (decide (n + 1 = 64))

/-- A completion doorbell (R741): pops the completion that the host has read. -/
def Device.cqPop (d : Device) (q : Nat) : Device :=
  let n := d.fld (Fld.hwdQCqStatusDepth q)
  if n = 0 then d.queueFault (Fld.hwdQCqStatusUnderflow q) q 1
  else
    let d := d.setFld (Fld.hwdQCqStatusHead q) ((d.fld (Fld.hwdQCqStatusHead q) + 1) % 64)
    (d.setFld (Fld.hwdQCqStatusDepth q) (n - 1)).setFlag (Fld.hwdQCqStatusFull q) false

/-- Firmware pops the submission head (R741). -/
def Device.sqPop (d : Device) (q : Nat) : Device :=
  let n := d.fld (Fld.hwdQSqStatusDepth q)
  if n = 0 then d.queueFault (Fld.hwdQSqStatusUnderflow q) q 0
  else
    let d := d.setFld (Fld.hwdQSqStatusHead q) ((d.fld (Fld.hwdQSqStatusHead q) + 1) % 64)
    (d.setFld (Fld.hwdQSqStatusDepth q) (n - 1)).setFlag (Fld.hwdQSqStatusFull q) false

end Sys2Proof.Machine
end

