-- ==== Sys2Proof/Machine/Grain.lean ====
section
/-! DEFINITION. Grain store (chapter 16): channels with ECC, STORE and RECALL, page writes, passwords, patrol, journal. -/

namespace Sys2Proof.Machine

/-! ### Groups (R656) -/

/-- Internal address of channel `ch` (0 S, 1 D) offset 0. -/
def grainBase (ch : Nat) : Nat := if ch = 0 then 0x20000000 else 0x20100000
/-- Size of a channel in bytes. -/
def grainSize (ch : Nat) : Nat := if ch = 0 then 0x40000 else 0x20000
/-- Key of the check byte of group `g` of a channel. -/
def grainCheckKey (ch g : Nat) : Nat := keyGrainCheck (ch * 0x8000 + g)

/-- Stored data of group `g` of a channel. -/
def Device.grainData (d : Device) (ch g : Nat) : Nat := d.le (grainBase ch + 8 * g) 8
/-- Stored check byte of group `g` of a channel. -/
def Device.grainCheck (d : Device) (ch g : Nat) : Nat := (d.byte (grainCheckKey ch g)).toNat

/-- Store a group with a fresh check byte. -/
def Device.setGroup (d : Device) (ch g v : Nat) : Device :=
  (d.setLe (grainBase ch + 8 * g) 8 v).setByte (grainCheckKey ch g) (BitVec.ofNat 8 (checkByte v))

/-- Offset of a group within target T2, the field "offset" of R839. -/
def grainOffset (ch g : Nat) : Nat := ch * 0x100000 + 8 * g

/-- A correctable group: counted, event 418, written back (R604, R656). -/
def Device.grainCorrected (d : Device) (ch g v : Nat) : Device :=
  ((d.incFld Fld.grnEccCorrCount).raise 418 [(grainOffset ch g, 23)]).setGroup ch g v

/-- An uncorrectable group met by an access or the patrol (R605, R656, R658). -/
def Device.grainUncorrectable (d : Device) (ch g : Nat) (patrol : Bool) : Device :=
  let d := if d.flag Fld.grnEccSynValid then d
    else (d.wr Reg.grnEccAddr (ch * 2 ^ 18 + 8 * g)).wr Reg.grnEccSyn
      (2 ^ 31 + natOf patrol * 2 ^ 9 + natOf (eccP (d.grainData ch g) (d.grainCheck ch g)) * 2 ^ 8 +
        eccS (d.grainData ch g) (d.grainCheck ch g))
  let d := (d.incFld Fld.grnEccUncCount).raise (if patrol then 420 else 419) [(grainOffset ch g, 23)]
  d.signal 11 488 [(2 + natOf patrol, 4)]

/-- Read a group with its ECC outcome. -/
def Device.readGroup (d : Device) (ch g : Nat) : Option Nat × Device :=
  match eccDecode (d.grainData ch g) (d.grainCheck ch g) with
  | .clean => (some (d.grainData ch g), d)
  | .corrected v => (some v, d.grainCorrected ch g v)
  | .uncorrectable => (none, d.grainUncorrectable ch g false)

/-- Write the enabled bytes of a group; false where a partial write met an uncorrectable group, which stays (R605). -/
def Device.writeGroup (d : Device) (ch g en v : Nat) : Bool × Device :=
  if en % 256 = 0 then (true, d)
  else if en % 256 = 255 then (true, d.setGroup ch g v)
  else
    match d.readGroup ch g with
    | (some old, d) => (true, d.setGroup ch g (mergeBytes 8 old en v))
    | (none, d) => (false, d)

/-- Read `n` bytes of a channel; none where a group is uncorrectable (R606). -/
def Device.grainRead (d : Device) (ch off n : Nat) : Option (List Byte) × Device :=
  if n = 0 then (some [], d)
  else
    let (ok, d) := (List.range ((off + n - 1) / 8 - off / 8 + 1)).foldl (fun (r : Bool × Device) i =>
      match r.2.readGroup ch (off / 8 + i) with
      | (some _, d) => (r.1, d)
      | (none, d) => (false, d)) (true, d)
    if ok then (some (d.bytes (grainBase ch + off) n), d) else (none, d)

/-- Write bytes of a channel, `en` telling which are enabled; false where some group was uncorrectable. -/
def Device.grainWrite (d : Device) (ch off : Nat) (en : List Bool) (data : List Byte) : Bool × Device :=
  if data.length = 0 then (true, d)
  else
    (List.range ((off + data.length - 1) / 8 - off / 8 + 1)).foldl (fun (r : Bool × Device) i =>
      let g := off / 8 + i
      let byteAt := fun k => if 8 * g + k < off then none else
        match data[8 * g + k - off]?, en[8 * g + k - off]? with
        | some b, some true => some b
        | _, _ => none
      let enb := ofBits ((List.range 8).map fun k => (byteAt k).isSome)
      let v := leOf ((List.range 8).map fun k => (byteAt k).getD 0)
      let (ok, d) := r.2.writeGroup ch g enb v
      (r.1 && ok, d)) (true, d)

/-! ### Passwords and unlocks (R659 to R663) -/

/-- Region of a channel offset (R641). -/
def grainRegion (ch off : Nat) : Nat := if ch = 0 then off / 0x8000 else off / 0x4000

/-- A region's password (R659). -/
def Device.password (d : Device) (ch region : Nat) (write : Bool) : Nat :=
  d.le (keyPassword + 16 * (8 * ch + region) + 8 * natOf write) 8

/-- A TCID holds an unlock. -/
def Device.unlocked (d : Device) (tcid ch region : Nat) (write : Bool) : Bool :=
  decide (Unlock.mk tcid ch region write ∈ d.grain.unlocks)

/-- GRN_UNLOCK_STATUS of a TCID. -/
def Device.unlockStatus (d : Device) (tcid : Nat) : Nat :=
  ofBits ((List.range 32).map fun i => d.unlocked tcid (i / 16) (i % 8) (i / 8 % 2 == 1))

/-- A password denies an access of a TCID to a region (R659). -/
def Device.passwordDenies (d : Device) (tcid ch region : Nat) (write : Bool) : Bool :=
  tcid != 0x3E && d.password ch region write != 0 && !d.unlocked tcid ch region write

/-- The "Channel D layout" table forbids a write of a TCID to channel D offset `off` (R642). -/
def layoutDenies (tcid ch off : Nat) : Bool :=
  ch == 1 && ((decide (off < 0x10000) && tcid != 0x3E) || (decide (0x10000 ≤ off) && decide (off < 0x10800)))

/-- Judge an access of the bytes `[off, off + n)` of a channel by R642 and the passwords; a password denial raises 421. -/
def Device.grainJudge (d : Device) (tcid ch off n : Nat) (write : Bool) : Bool × Device :=
  if write && (List.range n).any fun i => layoutDenies tcid ch (off + i) then (false, d)
  else
    let rs := (List.range 8).filter fun r => (List.range n).any fun i => grainRegion ch (off + i) == r
    match rs.find? fun r => d.passwordDenies tcid ch r write with
    | some r => (false, d.raise 421 [(tcid, 6), (ch, 1), (r, 3)])
    | none => (true, d)

/-- The place of a register that is held separately for each TCID (R685): the register's address in the TCID's own
copy. -/
def perTcid (tcid a : Nat) : Nat := a + (tcid % 64 + 1) * 2 ^ 40

/-- Record GRN_OP_RESULT for a TCID. -/
def Device.grainOpResult (d : Device) (tcid code : Nat) : Device := d.wr (perTcid tcid Reg.grnOpResult) code

/-- An unlock attempt (R660, R661). -/
def Device.grainUnlock (d : Device) (tcid ch region : Nat) (write : Bool) : Device :=
  let k := 8 * ch + region
  let cand := d.rd (perTcid tcid Reg.grnUnlockLo) + 2 ^ 32 * d.rd (perTcid tcid Reg.grnUnlockHi)
  if d.fldBit Fld.grnUnlockFailLockout k then
    (d.grainOpResult tcid 0x67).raise 421 [(tcid, 6), (ch, 1), (region, 3)]
  else if cand = d.password ch region write then
    let u : Unlock := ⟨tcid, ch, region, write⟩
    let d := { d with grain := { d.grain with
      unlocks := if u ∈ d.grain.unlocks then d.grain.unlocks else d.grain.unlocks ++ [u]
      fails := d.grain.fails.set! k 0 } }
    d.grainOpResult tcid 0
  else
    let n := (d.grain.fails[k]?).getD 0 + 1
    let d := { d with grain := { d.grain with fails := d.grain.fails.set! k n } }
    let d := if 8 ≤ n then d.setFldBit Fld.grnUnlockFailLockout k true else d
    (d.grainOpResult tcid 0x66).raise 421 [(tcid, 6), (ch, 1), (region, 3)]

/-- End the unlocks that satisfy `p` (R662). -/
def Device.endUnlocks (d : Device) (p : Unlock → Bool) : Device :=
  { d with grain := { d.grain with unlocks := d.grain.unlocks.filter fun u => !p u } }

/-- Set a region password (R663). -/
def Device.passwordSet (d : Device) (tcid ch region : Nat) (write : Bool) : Device :=
  if d.unlocked tcid ch region true || d.password ch region true == 0 then
    let v := d.rd (perTcid tcid Reg.grnPwLo) + 2 ^ 32 * d.rd (perTcid tcid Reg.grnPwHi)
    (d.setLe (keyPassword + 16 * (8 * ch + region) + 8 * natOf write) 8 v).grainOpResult tcid 0
  else d.grainOpResult tcid 0x68

/-! ### STORE and RECALL (R644 to R651) -/

/-- Copy `len` bytes of memory between two areas whose unwritten bytes read alike. -/
def Device.copyMem (d : Device) (src dst len : Nat) : Device :=
  let cells := d.mem.filter fun c => decide (src ≤ c.1) && decide (c.1 < src + len)
  cells.foldl (fun d c => d.setByte (dst + (c.1 - src)) c.2) (d.clearMem dst len)

/-- Header bytes of a shadow bank. -/
def Device.bankHeader (d : Device) (b : Nat) : List Byte := d.bytes (keyShadow b + 0xF0000) 64

/-- A header is readable: MAGIC matches and HDR_CRC matches (R644). -/
def headerReadable (h : List Byte) : Bool :=
  leAt h 0 4 == 0x534E5247 && leAt h 60 4 == crc32c (h.take 60)

/-- SSN of a readable bank, 0 otherwise. -/
def Device.bankSsn (d : Device) (b : Nat) : Nat := if headerReadable (d.bankHeader b) then leAt (d.bankHeader b) 4 4 else 0

/-- A bank is valid: readable, CLOSED, and DATA_CRC matches (R644). -/
def Device.bankValid (d : Device) (b : Nat) : Bool :=
  let h := d.bankHeader b
  headerReadable h && leAt h 8 1 == 2 && leAt h 12 4 == crc32c (d.bytes (keyShadow b) 0x40000)

/-- Write a bank header of R644. -/
def Device.writeHeader (d : Device) (b ssn state cause crc turn : Nat) : Device :=
  let h := leBytes 4 0x534E5247 ++ leBytes 4 ssn ++ leBytes 1 state ++ leBytes 1 cause ++ leBytes 2 0 ++ leBytes 4 crc ++
    leBytes 4 turn ++ List.replicate 40 (0 : Byte)
  d.setBytes (keyShadow b + 0xF0000) (h ++ leBytes 4 (crc32c h))

/-- The bank with the highest readable SSN, if any header is readable. -/
def Device.newestBank (d : Device) : Option Nat :=
  let r0 := headerReadable (d.bankHeader 0)
  let r1 := headerReadable (d.bankHeader 1)
  if r0 && (!r1 || decide (d.bankSsn 1 ≤ d.bankSsn 0)) then some 0 else if r1 then some 1 else none

/-- Steps 1 and 2 of a STORE (R645); a request during a STORE is satisfied by that STORE (R675). -/
def Device.storeStart (d : Device) (cause : Nat) : Device :=
  match d.grain.store with
  | some _ => d
  | none =>
    let bank := match d.newestBank with | some b => 1 - b | none => 0
    let ssn := match d.newestBank with | some b => d.bankSsn b + 1 | none => 1
    let d := d.writeHeader bank ssn 1 cause 0 (d.rd Reg.turnCountLo)
    let d := d.setFlag Fld.grnStatusStoreBusy true
    { d with grain := { d.grain with store := some ⟨bank, ssn, cause⟩ } }

/-- Steps 3 and 4 of a STORE and its end (R645): event 416, and the GRAIN_STORE commands that wait for it. The check bytes of channel S are
not copied (assumption log 85). -/
def Device.storeEnd (d : Device) : Device :=
  match d.grain.store with
  | none => d
  | some j =>
    let h := d.bankHeader j.bank
    let d := d.copyMem (grainBase 0) (keyShadow j.bank) 0x40000
    let d := d.writeHeader j.bank j.ssn 2 j.cause (crc32c (d.bytes (keyShadow j.bank) 0x40000)) (leAt h 16 4)
    let d := (d.wr Reg.grnSSsn j.ssn).setFld Fld.grnStatusLastCause (min 3 j.cause)
    let d := (d.setFlag Fld.grnStatusStoreBusy false).raise 416 [(j.cause, 4), (j.ssn, 32)]
    let ws := d.grain.waiters
    let d := { d with grain := { d.grain with store := none, waiters := [], pfStored := d.grain.pfStored || d.grain.pfail } }
    ws.foldl (fun d c => d.complete c 0 (leBytes 4 j.ssn)) d

/-- A power-fail cause arises (R647, R648, R676): with AUTOSTORE_EN and ARMED a STORE runs, one per cause. -/
def Device.powerFail (d : Device) : Device :=
  let blocked := d.grain.pfail
  let d := { d with grain := { d.grain with pfail := true } }
  if blocked then d
  else if d.grain.store.isSome then d
  else if d.flag Fld.grnCtlAutostoreEn && d.flag Fld.grnStatusArmed then d.storeStart 2 else d

/-- A command STORE (R647): the code of its refusal, or 0. -/
def Device.storeRequest (d : Device) : Nat × Device :=
  if d.grain.store.isSome then (0, d)
  else if d.flag Fld.grnStatusArmed then (0, d.storeStart 1)
  else (0x60, d.raise 423 [])

/-- Writes to channel S complete with TGTERR: the power-fail cause persists after its STORE (R648). -/
def Device.grainPfBlocked (d : Device) : Bool := d.grain.pfail && d.grain.pfStored

/-- A RECALL begins (R650). -/
def Device.recallStart (d : Device) : Device :=
  (d.setFlag Fld.grnStatusSReady false).setFlag Fld.devReadyGrainS false

/-- A RECALL ends ("RECALL outcomes" table, R649). -/
def Device.recallEnd (d : Device) : Device :=
  if d.flag Fld.grnStatusSReady then d
  else
    let (outcome, bank) : Nat × Option Nat := match d.newestBank with
      | none => (3, none)
      | some b => if d.bankValid b then (0, some b) else if d.bankValid (1 - b) then (1, some (1 - b)) else (2, none)
    let d := (d.clearMem (grainBase 0) 0x40000).clearMem (grainCheckKey 0 0) 0x8000
    let d := match bank with
      | none => d
      | some b =>
        let cells := d.mem.filter fun (c : Host.Cell) => decide (keyShadow b ≤ c.1) && decide (c.1 < keyShadow b + 0x40000)
        let groups := (cells.map fun (c : Host.Cell) => (c.1 - keyShadow b) / 8).eraseDups
        groups.foldl (fun d g => d.setGroup 0 g (d.le (keyShadow b + 8 * g) 8)) d
    let ssn := match bank with | some b => d.bankSsn b | none => 0
    let d := d.setFld Fld.grnStatusRecallBank (bank.getD 0)
    let d := d.wr Reg.grnSSsn ssn
    let d := if outcome = 1 ∨ outcome = 2 then d.setFlag Fld.grnStatusStoreTorn true else d
    let d := if outcome = 2 ∨ outcome = 3 then d.setFlag Fld.grnStatusRecallNone true else d
    ((d.setFlag Fld.grnStatusSReady true).setFlag Fld.devReadyGrainS true).raise 417 [(outcome, 4), (ssn, 32)]

/-! ### Page writes (R653 to R655) -/

/-- A write of GRN_PGWR with GO by a TCID; `denied` says that step 2 or step 4 of R563 denies the span (R654). -/
def Device.pageStart (d : Device) (tcid ch off len : Nat) (denied : Bool) : Device :=
  if d.grain.page.isSome then d.wr Reg.grnPgwrResult 0x6A
  else if len = 0 ∨ 64 < len ∨ grainSize ch ≤ off ∨ (ch = 0 ∧ grainSize 0 < off + len) then d.wr Reg.grnPgwrResult 0x69
  else
    let n := if ch = 1 then min len (64 - off % 64) else len
    let d := if n < len then (d.setFlag Fld.grnStatusPageTrunc true).raise 422 [] else d
    if denied then d.wr Reg.grnPgwrResult 0x6B
    else
      let (ok, d) := d.grainJudge tcid ch off n true
      if !ok || (ch == 0 && (!d.flag Fld.grnStatusSReady || d.grainPfBlocked)) then d.wr Reg.grnPgwrResult 0x6B
      else
        let data := (List.range 16).flatMap fun k => leBytes 4 (d.rd (Reg.grnPgbuf k))
        { (d.setFlag Fld.grnStatusPgwrBusy true) with
          grain := { d.grain with page := some ⟨tcid, ch, off, data.take n⟩ } }

/-- A page write ends (R655); a page write of channel S waits for a STORE in progress (R646). -/
def Device.pageEnd (d : Device) : Device :=
  match d.grain.page with
  | none => d
  | some j =>
    if j.ch = 0 ∧ d.grain.store.isSome then d
    else
      let (ok, d) := d.grainWrite j.ch j.off (List.replicate j.data.length true) j.data
      let d := { (d.setFlag Fld.grnStatusPgwrBusy false) with grain := { d.grain with page := none } }
      d.wr Reg.grnPgwrResult (if ok then 0 else 0x6C)

/-! ### Patrol (R658) -/

/-- The patrol reads the next group: channel S groups 0 to 0x7FFF, then channel D groups; channel S is skipped while a
RECALL is in progress. -/
def Device.grainPatrol (d : Device) : Device :=
  if !d.flag Fld.grnPatrolCtlEn then d
  else
    let k := d.grain.patrol
    let d := { d with grain := { d.grain with patrol := (k + 1) % 0xC000 } }
    let ch := if k < 0x8000 then 0 else 1
    let g := if k < 0x8000 then k else k - 0x8000
    if ch = 0 ∧ !d.flag Fld.grnStatusSReady then d
    else match eccDecode (d.grainData ch g) (d.grainCheck ch g) with
      | .clean => d
      | .corrected v => d.grainCorrected ch g v
      | .uncorrectable => d.grainUncorrectable ch g true

/-! ### The Grain journal (R664 to R672) -/

/-- The classes of a journal slot (R665). -/
inductive JSlot where
  | free
  | valid (key seq : Nat) (payload : List Byte)
  | invalid
  deriving DecidableEq, Repr

/-- Class of journal slot `i`, over the slot's bytes as the check code delivers them. -/
def Device.jslot (d : Device) (i : Nat) : JSlot :=
  let gs := (List.range 8).map fun k =>
    eccDecode (d.grainData 1 (8 * i + k)) (d.grainCheck 1 (8 * i + k))
  let b := (List.range 8).flatMap fun k =>
    leBytes 8 (eccData (d.grainData 1 (8 * i + k)) (d.grainCheck 1 (8 * i + k)))
  if gs.all (· == .clean) && b.all (· == 0) then .free
  else
    let key := leAt b 0 2
    let len := leAt b 2 1
    let crcIn := b.take 3 ++ [0] ++ (b.drop 4).take 56
    if decide (1 ≤ key) && decide (key ≤ 0xFFFE) && decide (len ≤ 52) && leAt b 3 1 % 2 == 0 &&
        leAt b 60 4 == crc32c crcIn && !(gs.any (· == .uncorrectable)) then
      .valid key (leAt b 4 4) ((b.drop 8).take len)
    else .invalid

/-- The device with no memory but that of journal slot `i`. -/
def Device.onlySlot (d : Device) (i : Nat) : Device :=
  { d with mem := d.mem.filter fun c =>
      (decide (grainBase 1 + 64 * i ≤ c.1) && decide (c.1 < grainBase 1 + 64 * i + 64)) ||
        (decide (grainCheckKey 1 (8 * i) ≤ c.1) && decide (c.1 < grainCheckKey 1 (8 * i) + 8)) }

/-- The journal's 1,024 slots in order; a slot that holds nothing but unwritten bytes is free without a look at it. -/
def Device.journal (d : Device) : List JSlot :=
  let hot := ((d.mem.filter fun c => (decide (grainBase 1 ≤ c.1) && decide (c.1 < grainBase 1 + 0x10000)) ||
      (decide (grainCheckKey 1 0 ≤ c.1) && decide (c.1 < grainCheckKey 1 0x2000))).map fun c =>
        if c.1 < 2 ^ 40 then (c.1 - grainBase 1) / 64 else (c.1 - grainCheckKey 1 0) / 8).foldl
      (fun (l : List Nat) i => if l.head? = some i then l else i :: l) []
  (List.range 1024).map fun i => if i ∈ hot then (d.onlySlot i).jslot i else .free

/-- Ring distance of slot `i` from the head. -/
def ringPos (head i : Nat) : Nat := (i + 1024 - head) % 1024

/-- The live record of a key (R667): highest SEQ, and of equal SEQ the one later in ring order from the head; slot
number, SEQ and payload. -/
def liveRecord (j : List JSlot) (head key : Nat) : Option (Nat × Nat × List Byte) :=
  j.zipIdx.foldl (fun best x =>
    match x.1 with
    | .valid k s p =>
      if k = key then
        match best with
        | none => some (x.2, s, p)
        | some (i, t, _) => if t < s ∨ (t = s ∧ ringPos head i < ringPos head x.2) then some (x.2, s, p) else best
      else best
    | _ => best) none

/-- The keys that have a valid record, each once. -/
def journalKeys (j : List JSlot) : List Nat :=
  (j.filterMap fun x => match x with | .valid k _ _ => some k | _ => none).eraseDups

/-- Number of live records. -/
def liveCount (j : List JSlot) : Nat := (journalKeys j).length
/-- Number of free slots. -/
def freeCount (j : List JSlot) : Nat := (j.filter (· == .free)).length
/-- The highest SEQ of any valid record, 0 when there is none. -/
def highSeq (j : List JSlot) : Nat := j.foldl (fun a x => match x with | .valid _ s _ => max a s | _ => a) 0

/-- The first free slot at or after slot `i` in ring order. -/
def freeFrom (j : List JSlot) (i : Nat) : Option Nat :=
  ((List.range 1024).map fun k => (i + k) % 1024).find? fun k => j[k]? == some .free

/-- Zero the 64 slots of segment `g`, one page write each (R670 step 3). -/
def Device.zeroSegment (d : Device) (g : Nat) : Device :=
  (d.clearMem (grainBase 1 + 4096 * g) 4096).clearMem (grainCheckKey 1 (512 * g)) 512

/-- The head that firmware finds at boot (R668). -/
def Device.findHead (d : Device) : Device :=
  let j := d.journal
  let hs := highSeq j
  let last := if hs = 0 then none else
    (j.zipIdx.filterMap fun x => match x.1 with | .valid _ s _ => if s = hs then some x.2 else none | _ => none).head?
  match last with
  | some i => { d with grain := { d.grain with jhead := (freeFrom j (i + 1)).getD ((i + 1) % 1024) } }
  | none =>
    match freeFrom j 0 with
    | some i => { d with grain := { d.grain with jhead := i } }
    | none => { (d.zeroSegment 0) with grain := { d.grain with jhead := 0 } }

/-- Write a record's 64 bytes at slot `i` in two writes: bytes 8 to 63, then the header (R666). -/
def Device.writeSlot (d : Device) (i key seq : Nat) (payload : List Byte) : Device :=
  let head := leBytes 2 key ++ leBytes 1 payload.length ++ [0] ++ leBytes 4 seq
  let body := padTo 52 payload
  let crc := crc32c (head ++ body)
  let all := head ++ body ++ leBytes 4 crc
  let d := iter 7 (fun k d => d.setGroup 1 (8 * i + k + 1) (leAt all (8 * (k + 1)) 8)) d
  d.setGroup 1 (8 * i) (leAt all 0 8)

/-- The journal as planing sees it for its copies: no slot of the segment being reclaimed is free (R670 step 1). -/
def hideSegment (j : List JSlot) (g : Nat) : List JSlot := j.mapIdx fun i x => if i / 64 = g ∧ x = .free then .invalid else x

/-- Move the head to the first free slot at or after slot `i` of the journal `j`, or to `i` where none is free. -/
def Device.moveHead (d : Device) (j : List JSlot) (i : Nat) : Device :=
  { d with grain := { d.grain with jhead := (freeFrom j i).getD (i % 1024) } }

/-- Move the head to the next free slot after the one just written. -/
def Device.advanceHead (d : Device) : Device := d.moveHead d.journal (d.grain.jhead + 1)

/-- Set STALE in the original at slot `i` (R670 step 2). -/
def Device.staleSlot (d : Device) (i : Nat) : Device :=
  d.setGroup 1 (8 * i) (withBit (eccData (d.grainData 1 (8 * i)) (d.grainCheck 1 (8 * i))) 24 true)

/-- Reclaim one segment (R670): false when planing must stop. -/
def Device.reclaim (d : Device) : Bool × Device :=
  let j := d.journal
  let head := d.grain.jhead
  let ahead := ((List.range 1024).map fun k => (head + k) % 1024).find? fun i =>
    i / 64 != head / 64 && j[i]? != some .free
  match ahead with
  | none => (false, d)
  | some i =>
    let g := i / 64
    let live := (List.range 64).filterMap fun k =>
      match j[64 * g + k]? with
      | some (.valid key s p) =>
        if (liveRecord j head key).map (·.1) = some (64 * g + k) then some (64 * g + k, key, s, p) else none
      | _ => none
    let free := ((List.range 1024).filter fun k => k / 64 != g && j[k]? == some .free).length
    if free < live.length then (false, d)
    else
      let d := live.foldl (fun d x =>
        let e := d.writeSlot d.grain.jhead x.2.1 x.2.2.1 x.2.2.2
        e.moveHead (hideSegment e.journal g) (e.grain.jhead + 1)) d
      let d := (live.foldl (fun d x => d.staleSlot x.1) d).zeroSegment g
      (true, d.moveHead d.journal d.grain.jhead)

/-- Planing until at least 256 slots are free, with the stops of R670: `fuel` bounds the reclaims, `hist` holds the free
counts before the reclaims made so far, the last first. -/
def planeLoop : Nat → List Nat → Device → Device
  | 0, _, d => d
  | fuel + 1, hist, d =>
    let free := freeCount d.journal
    let stuck := match hist[15]? with
      | some f => decide (free ≤ f)
      | none => false
    if 256 ≤ free || stuck then d
    else
      match d.reclaim with
      | (false, d) => d
      | (true, d) => planeLoop fuel (free :: hist.take 15) d

/-- Planing; `forced` is GRAIN_PLANE, which reclaims at least one segment. -/
def Device.plane (d : Device) (forced : Bool) : Device :=
  if forced then
    match d.reclaim with
    | (false, e) => e
    | (true, e) => planeLoop 16384 [freeCount d.journal] e
  else planeLoop 16384 [] d

/-- Write a record of a key at the head (R667, R668, R671), with the code of the refusal or 0; `seq` and the slot are the
head's. -/
def Device.recordWrite (d : Device) (key : Nat) (payload : List Byte) : Nat × Device :=
  let j := d.journal
  if (liveRecord j d.grain.jhead key).isNone ∧ 896 ≤ liveCount j then (0x64, d)
  else if 0xFFFFFFFF ≤ highSeq j then (0x65, d)
  else
    let low := freeCount j < 256
    let d := if low then d.plane false else d
    let j := if low then d.journal else j
    if freeCount j < 64 then (0x64, d)
    else (0, (d.writeSlot d.grain.jhead key (highSeq j + 1) payload).advanceHead)

/-- The payload of the live record of a key. -/
def Device.recordRead (d : Device) (key : Nat) : Option (Nat × List Byte) :=
  (liveRecord d.journal d.grain.jhead key).map (·.2)

/-! ### Sector status table (R673) -/

/-- Entry of a resident store sector: its state byte, none where its group is uncorrectable, and its erase count. -/
def Device.sectorEntry (d : Device) (s : Nat) : Option (Nat × Nat) :=
  let g := 0x2000 + s / 2
  match eccDecode (d.grainData 1 g) (d.grainCheck 1 g) with
  | .uncorrectable => none
  | _ =>
    let v := bitsOf (eccData (d.grainData 1 g) (d.grainCheck 1 g)) (32 * (s % 2)) 32
    some (v % 256, v / 256)

/-- The controller treats the entry as OPEN. -/
def Device.sectorOpen (d : Device) (s : Nat) : Bool :=
  match d.sectorEntry s with
  | some (st, _) => st != 0x00 && st != 0x5A
  | none => true

/-- Write the entry of a sector: the whole 8-byte group in one operation. What the other entry of an uncorrectable group becomes, the
spec does not state: a free value. -/
def Device.setSector (d : Device) (s state count : Nat) : Device :=
  let g := 0x2000 + s / 2
  let (old, d) := match eccDecode (d.grainData 1 g) (d.grainCheck 1 g) with
    | .uncorrectable => (d.free.1 % 2 ^ 64, d.free.2)
    | _ => (eccData (d.grainData 1 g) (d.grainCheck 1 g), d)
  d.setGroup 1 g (withBits old (32 * (s % 2)) 32 (state + 256 * count))

/-- The erase count of a sector's entry; that of an uncorrectable group, which the spec does not state, is a free value. -/
def Device.eraseCount (d : Device) (s : Nat) : Nat × Device :=
  match d.sectorEntry s with
  | some (_, c) => (c, d)
  | none => (d.free.1 % 2 ^ 24, d.free.2)

end Sys2Proof.Machine
end

