-- ==== Sys2Proof/Machine/ActRecord.lean ====
section
/-! DEFINITION. What firmware records of the access control tables and priorities in the Grain journal (R737, R738). -/

namespace Sys2Proof.Machine

/-- Firmware runs and has reported command-ready (R736). -/
def Device.fwRuns (d : Device) : Bool := d.hwd.boot == 2 && d.flag Fld.hwdStatusCmdReady

/-- The 624-byte ACT image of a target (R737). -/
def Device.actImage (d : Device) (t : Nat) : List Byte :=
  ((List.range 16).flatMap fun r => leBytes 4 (d.rd (Reg.actRgnBase t r)) ++ leBytes 4 (d.rd (Reg.actRgnLimit t r))) ++
    (List.range 62).flatMap fun e => leBytes 4 (d.rd (Reg.actEntKey t (e + 2))) ++ leBytes 4 (d.rd (Reg.actEntPerm t (e + 2)))

/-- Chunk `j` of an ACT image. -/
def actChunk (img : List Byte) (j : Nat) : List Byte := (img.drop (52 * j)).take 52

/-- Journal key of chunk `j` of target `t`. -/
def actKeyOf (t j : Nat) : Nat := 0x100 + 16 * t + j

/-- A record is written where the live record of its key differs. -/
def Device.recordChanged (d : Device) (key : Nat) (payload : List Byte) : Device :=
  if (d.recordRead key).map (·.2) = some payload then d else (d.recordWrite key payload).2

/-- Every changed chunk of the ACT of target `t` is written. -/
def Device.actRecord (d : Device) (t : Nat) : Device :=
  iter 12 (fun j d => d.recordChanged (actKeyOf t j) (actChunk (d.actImage t) j)) d

/-- The PRIORITIES payload. -/
def Device.priImage (d : Device) : List Byte :=
  (List.range 8).flatMap fun t => leBytes 4 (d.rd (Reg.bmxPriLo t)) ++ leBytes 1 (d.rd (Reg.bmxPriHi t))

/-- Firmware that has changed an ACT records it before the command or operation completes (R738), where channel D is served. -/
def Device.actSettle (d : Device) (t : Nat) : Device :=
  if d.fwRuns && d.flag Fld.devReadyGrainD then d.actRecord t else d

end Sys2Proof.Machine
end

