-- ==== Sys2Proof/Machine/Resident.lean ====
section
/-! DEFINITION. Resident store controller (chapter 17): reads, program buffer, program, erase, suspend, TORN sectors, ISC. -/

namespace Sys2Proof.Machine

/-! ### Status -/

/-- A sector is TORN (R690). -/
def Device.torn (d : Device) (s : Nat) : Bool := bitOf (d.rd (Reg.resTornMap (s / 32))) (s % 32)

/-- Mark or unmark a sector as TORN. -/
def Device.setTorn (d : Device) (s : Nat) (b : Bool) : Device :=
  d.wr (Reg.resTornMap (s / 32)) (withBit (d.rd (Reg.resTornMap (s / 32))) (s % 32) b)

/-- A program or erase is in progress. -/
def Device.resBusy (d : Device) : Bool := d.resident.job.isSome

/-- The sector an operation concerns. -/
def ResJob.sector (j : ResJob) : Nat := if j.op = 1 then j.unit_ / 256 else j.unit_

/-- The group of a sector is protected by RES_WP (R696). -/
def Device.resProtected (d : Device) (s : Nat) : Bool := bitOf (d.rd Reg.resWp) (s / 16)

/-- Record the outcome of an operation or refusal (R695): RES_RESULT, RES_ELAPSED and event 424, 425 or 426. -/
def Device.resResult (d : Device) (op code : Nat) (isc : Bool) (us : Nat) : Device :=
  let d := (d.wr Reg.resResult (natOf isc * 2 ^ 10 + op % 4 * 2 ^ 8 + code)).wr Reg.resElapsed (min 0xFFFFFFFF us)
  let d := if isc then { d with jtag := { d.jtag with iscFail := code != 0 } } else d
  if code ≠ 0 then d.raise 426 [(code, 8)] else if op = 1 then d.raise 424 [] else if op = 2 then d.raise 425 [] else d

/-! ### Reads (R689, R690, R697, R699) -/

/-- A read of the busy bank suspends the operation (R697). -/
def Device.resSuspend (d : Device) : Device :=
  if d.resBusy && !d.flag Fld.resStatusSuspended then
    (d.setFlag Fld.resStatusSuspended true).incFld Fld.resSuspCountCount
  else d

/-- A read of `[addr, addr + n)` meets the busy bank while its operation runs. -/
def Device.resStalls (d : Device) (addr : Nat) : Bool :=
  match d.resident.job with
  | some j => addr / 0x1000000 % 2 == j.sector / 256 && !d.flag Fld.resStatusSuspended
  | none => false

/-- The read touches the sector being erased or the page being programmed (R699). -/
def Device.resChanging (d : Device) (addr : Nat) : Bool :=
  match d.resident.job with
  | some j => if j.op = 1 then addr / 256 == j.unit_ else addr / 0x10000 == j.unit_
  | none => false

/-- Read `n` bytes of one 64-byte block through T0; none stands for TGTERR. -/
def Device.resReadBlock (d : Device) (addr n : Nat) : Option (List Byte) × Device :=
  if d.torn (addr / 0x10000) then (none, d.raise 426 [(addr / 0x10000, 9)])
  else if d.resChanging addr then (none, d.raise 426 [])
  else (some (d.bytes addr n), d)

/-- Read `n` bytes of the resident store as firmware or the loader does, in 64-byte blocks: a read of the busy bank
stalls until it has suspended the operation. None where some block read fails. -/
def Device.resRead (d : Device) (addr n : Nat) : Option (List Byte) × Device :=
  if n = 0 then (some [], d)
  else
    (List.range ((addr + n - 1) / 64 - addr / 64 + 1)).foldl (fun (r : Option (List Byte) × Device) i =>
      match r.1 with
      | none => r
      | some bs =>
        let lo := max addr (64 * (addr / 64 + i))
        let hi := min (addr + n) (64 * (addr / 64 + i) + 64)
        let d := if r.2.resStalls lo then r.2.resSuspend else r.2
        match d.resReadBlock lo (hi - lo) with
        | (some b, d) => (some (bs ++ b), d)
        | (none, d) => (none, d)) (some [], d)

/-! ### The program buffer (R691) -/

/-- A T0 write by a TCID: false stands for TGTERR. -/
def Device.resWrite (d : Device) (m5 : Bool) (tcid addr : Nat) (en : List Bool) (data : List Byte) : Bool × Device :=
  if m5 && d.lockBit 1 then (false, d.resResult 0 0x71 false 0)
  else if d.flag Fld.resStatusIscMode then (false, d)
  else
    let page := addr / 256
    if d.flag Fld.resBufValid && (d.fld Fld.resBufPage != page || d.fld Fld.resBufTcid != tcid % 64) then (false, d)
    else
      let buf := if d.flag Fld.resBufValid then d.resident.page else List.replicate 256 (0xFF : Byte)
      let buf := (data.zip en).zipIdx.foldl (fun b x =>
        if x.1.2 then listMod b (addr % 256 + x.2) (fun _ => x.1.1) else b) buf
      let d := d.wr Reg.resBuf (page * 256 + tcid % 64 * 2 + 1)
      (true, { d with resident := { d.resident with page := buf } })

/-- Empty the buffer (R694, R705). -/
def Device.resBufClear (d : Device) : Device :=
  let d := d.wr Reg.resBuf 0
  { d with resident := { d.resident with page := [] } }

/-! ### Program and erase (R692 to R696) -/

/-- Start an operation: BUSY, OP, BANK and SECTOR. -/
def Device.resStart (d : Device) (j : ResJob) : Device :=
  let d := d.wr Reg.resStatus (j.sector * 128 + d.fld Fld.resStatusIscMode * 64 + j.op * 8 + j.sector / 256 * 4 + 2 +
    d.fld Fld.resStatusReady)
  { d with resident := { d.resident with job := some j } }

/-- The code of a program of a page from 256 bytes, in table order after BUSY, ISC_ACTIVE and BAD_OP. -/
def Device.programCode (d : Device) (page : Nat) (data : List Byte) : Nat :=
  if d.resProtected (page / 256) then 0x7A
  else if d.torn (page / 256) then 0x75
  else if (data.zip (d.bytes (256 * page) 256)).any fun x => x.1 &&& x.2 != x.1 then 0x74
  else 0

/-- Program a page from 256 bytes: the code of the refusal, or 0 where it starts. -/
def Device.programPage (d : Device) (page : Nat) (data : List Byte) (isc : Bool) : Nat × Device :=
  let code := if d.resBusy then 0x70 else d.programCode page data
  if code ≠ 0 then (code, d.resResult 1 code isc 0)
  else (0, d.resStart ⟨1, isc, page, data, d.now⟩)

/-- RES_CMD PROGRAM (R692): the bound page from the buffer, which becomes empty. -/
def Device.resProgram (d : Device) : Nat × Device :=
  if d.resBusy then (0x70, d.resResult 1 0x70 false 0)
  else if d.flag Fld.resStatusIscMode then (0x79, d.resResult 1 0x79 false 0)
  else if !d.flag Fld.resBufValid then (0x73, d.resResult 1 0x73 false 0)
  else
    match d.programPage (d.fld Fld.resBufPage) d.resident.page false with
    | (0, e) => (0, e.resBufClear)
    | r => r

/-- Erase a sector (R693 step 1): the code of the refusal, or 0 where the erase runs. -/
def Device.eraseSector (d : Device) (s : Nat) (isc : Bool) : Nat × Device :=
  let code := if d.resBusy then 0x70
    else if !isc && d.flag Fld.resStatusIscMode then 0x79
    else if 511 < s then 0x72
    else if d.resProtected s then 0x7A
    else if !d.flag Fld.grnStatusDReady then 0x78
    else 0
  if code ≠ 0 then (code, d.resResult 2 code isc 0)
  else
    let (count, d) := d.eraseCount s
    (0, (d.setSector s 0xA5 count).resStart ⟨2, isc, s, [], d.now⟩)

/-- ISC mode is entered or left, now or when the operation in progress ends (R710). -/
def Device.iscMode (d : Device) (on : Bool) : Device :=
  if d.resBusy then { d with resident := { d.resident with iscWait := some on } }
  else
    let was := d.flag Fld.resStatusIscMode
    let d := { (d.setFlag Fld.resStatusIscMode on) with resident := { d.resident with iscWait := none } }
    if on && !was then d.raise 428 [] else d

/-- The end of any operation: idle status, and an ISC entry or exit that waited. -/
def Device.resIdle (d : Device) : Device :=
  let d := d.wr Reg.resStatus (d.fld Fld.resStatusIscMode * 64 + d.fld Fld.resStatusReady)
  let d := { d with resident := { d.resident with job := none } }
  match d.resident.iscWait with
  | some b => d.iscMode b
  | none => d

/-- `n` bytes the spec leaves undefined, as free values. -/
def Device.freeBytes : Nat → Device → List Byte × Device
  | 0, d => ([], d)
  | n + 1, d => (BitVec.ofNat 8 d.free.1 :: (Device.freeBytes n d.free.2).1, (Device.freeBytes n d.free.2).2)

/-- A program ends (R692); `ok` is the outcome of its verification. -/
def Device.programEnd (d : Device) (ok : Bool) : Device :=
  match d.resident.job with
  | some j =>
    if j.op ≠ 1 ∨ d.flag Fld.resStatusSuspended then d
    else
      let d := if ok then
          d.setBytes (256 * j.unit_) ((j.data.zip (d.bytes (256 * j.unit_) 256)).map fun x => x.1 &&& x.2)
        else
          let (bs, d) := Device.freeBytes 256 d
          d.setBytes (256 * j.unit_) bs
      (d.resIdle).resResult 1 (if ok then 0 else 0x76) j.isc (d.elapsedUs j.start)
  | none => d

/-- An erase ends (R693 steps 3 and 4); `ok` is the outcome of the erase-verify. -/
def Device.eraseEnd (d : Device) (ok : Bool) : Device :=
  match d.resident.job with
  | some j =>
    if j.op ≠ 2 ∨ d.flag Fld.resStatusSuspended then d
    else
      let us := d.elapsedUs j.start
      if ok then
        let (count, d) := (d.clearMem (0x10000 * j.unit_) 0x10000).eraseCount j.unit_
        let d := (d.setSector j.unit_ 0x5A (satInc 0xFFFFFF count)).setTorn j.unit_ false
        (d.resIdle).resResult 2 0 j.isc us
      else ((d.setTorn j.unit_ true).resIdle).resResult 2 0x77 j.isc us
  | none => d

/-- A suspended operation resumes (R698). -/
def Device.resResume (d : Device) : Device :=
  d.setFlag Fld.resStatusSuspended false

/-- Power is lost during an operation: a page being programmed holds undefined bits (R704); an erase leaves its entry
OPEN. -/
def Device.resPowerLoss (d : Device) : Device :=
  match d.resident.job with
  | some j =>
    if j.op = 1 then
      let (bs, d) := Device.freeBytes 256 d
      d.setBytes (256 * j.unit_) bs
    else d
  | none => d

/-- The start-up scan of the sector status table (R702). -/
def Device.tornScan (d : Device) : Device :=
  if d.flag Fld.grnStatusDReady && !d.flag Fld.resStatusReady then
    let open_ := (List.range 512).filter fun s => d.sectorOpen s
    let d := iter 16 (fun i d => d.wr (Reg.resTornMap i) (ofBits ((List.range 32).map fun k => decide (32 * i + k ∈ open_)))) d
    let d := if open_.isEmpty then d else d.raise 427 [(open_.length, 16)]
    (d.setFlag Fld.resStatusReady true).setFlag Fld.devReadyResident true
  else d

end Sys2Proof.Machine
end

