-- ==== Sys2Proof/Machine/Security.lean ====
section
/-! DEFINITION. The security plane (chapter 19): OTP, key store, signer IDs, key operations. -/

namespace Sys2Proof.Machine

/-! ### OTP (R768 to R770) -/

/-- Offset and CRC offset of a hash field: 0 VENDOR_HASH, 1 OP_HASH_0, 2 OP_HASH_1 ("OTP layout" table). -/
def otpField (k : Nat) : Nat × Nat := if k = 0 then (0x000, 0x094) else if k = 1 then (0x030, 0x098) else (0x060, 0x09C)

/-- The 48 bytes of a hash field. -/
def Device.otpHash (d : Device) (k : Nat) : List Byte := d.bytes (keyOtp + (otpField k).1) 48
/-- The CRC word of a hash field. -/
def Device.otpCrc (d : Device) (k : Nat) : Nat := d.le (keyOtp + (otpField k).2) 4

/-- The classes of a hash field (R768). -/
inductive OtpClass where
  | unprogrammed | spent | valid | corrupt
  deriving DecidableEq, Repr

/-- Class of a hash field. -/
def Device.otpClass (d : Device) (k : Nat) : OtpClass :=
  if d.otpCrc k = 0 then (if (d.otpHash k).all (· == 0) then .unprogrammed else .spent)
  else if d.otpCrc k = crc32c (d.otpHash k) then .valid else .corrupt

/-- Program bytes of the OTP: bits turn from 0 to 1 only. -/
def Device.otpWrite (d : Device) (off : Nat) (bs : List Byte) : Device :=
  d.setBytes (keyOtp + off) ((bs.zip (d.bytes (keyOtp + off) bs.length)).map fun x => x.1 ||| x.2)

/-- Lock byte bits by majority of the three copies (R769). -/
def Device.lockMajority (d : Device) : Nat :=
  let c := fun k => (d.byte (keyOtp + 0x90 + k)).toNat
  ofBits ((List.range 6).map fun i =>
    decide (2 ≤ natOf (bitOf (c 0) i) + natOf (bitOf (c 1) i) + natOf (bitOf (c 2) i)))

/-- Copies of some lock bit disagree. -/
def Device.lockWeak (d : Device) : Bool :=
  let c := fun k => (d.byte (keyOtp + 0x90 + k)).toNat % 64
  c 0 != c 1 || c 1 != c 2

/-- The integrity outcome of the OTP (R769). -/
def Device.otpGood (d : Device) : Bool :=
  d.otpClass 0 == .valid && d.otpClass 1 != .corrupt && d.otpClass 2 != .corrupt

/-- The operator hash field that the OTP now gives: OP_HASH_1 where valid, else OP_HASH_0 where valid (R770). -/
def Device.opFieldNow (d : Device) : Option Nat :=
  if d.otpClass 2 = .valid then some 2 else if d.otpClass 1 = .valid then some 1 else none

/-- DEVICE_SERIAL. -/
def Device.serial (d : Device) : List Byte := d.bytes (keyOtp + 0x0A0) 16

/-- Write octets into consecutive 32-bit value registers, octet 4i + j in bits [8j + 7 : 8j] of register i. -/
def Device.wrOctets (d : Device) (a : Nat) (bs : List Byte) : Device :=
  iter (bs.length / 4) (fun i d => d.wr (a + 4 * i) (leAt bs (4 * i) 4)) d

/-- Octets of consecutive value registers. -/
def Device.rdOctets (d : Device) (a n : Nat) : List Byte := (List.range n).flatMap fun i => leBytes 4 (d.rd (a + 4 * i))

/-! ### Key store -/

/-- AES-256-GCM decryption with its tag: the plain text, or none where the tag does not verify. -/
def gcmOpen (key iv aad text tag : List Byte) : Option (List Byte) :=
  if padTo 16 (Config.gcmTag key iv aad text) = tag then some (padTo text.length (Config.gcmCtr key iv text)) else none

/-- AES-256-GCM encryption: cipher text and tag. -/
def gcmSeal (key iv aad text : List Byte) : List Byte × List Byte :=
  let c := padTo text.length (Config.gcmCtr key iv text)
  (c, padTo 16 (Config.gcmTag key iv aad c))

/-- Place of the identity key: mark "held", then the private key at offset 8. -/
def keyIdk : Nat := keyStore
/-- Place of the key-agreement key. -/
def keyKak : Nat := keyStore + 0x40
/-- Place of state key slot `i`: mark, TENANT_ID at 8, key at 24. -/
def keyTsk (i : Nat) : Nat := keyStore + 0x100 + 0x40 * i
/-- Place of the signer ID of a slot's plane (R771). -/
def keySigner (slot plane : Nat) : Nat := keyChuck slot plane + 0x800

/-- The device holds an IDK. -/
def Device.hasIdk (d : Device) : Bool := d.byte keyIdk != 0
/-- The device holds a KAK. -/
def Device.hasKak (d : Device) : Bool := d.byte keyKak != 0
/-- Private key bytes of the IDK. -/
def Device.idk (d : Device) : List Byte := d.bytes (keyIdk + 8) 48
/-- Private key bytes of the KAK. -/
def Device.kak (d : Device) : List Byte := d.bytes (keyKak + 8) 48
/-- State key slot `i` is in use. -/
def Device.tskUsed (d : Device) (i : Nat) : Bool := d.byte (keyTsk i) != 0
/-- The state key slot of a TENANT_ID. -/
def Device.tskSlot (d : Device) (tid : List Byte) : Option Nat :=
  firstIdx 32 fun i => d.tskUsed i && d.bytes (keyTsk i + 8) 16 == tid
/-- The key in a state key slot. -/
def Device.tsk (d : Device) (i : Nat) : List Byte := d.bytes (keyTsk i + 24) 32

/-- KAK public key. -/
def Device.kakPub (d : Device) : List Byte := padTo 96 (Config.ecPublic d.kak)
/-- KEY_ID of the device. -/
def Device.keyId (d : Device) : List Byte := (padTo 48 (Config.sha384 d.kakPub)).take 16

/-- SEC_KEYS and SEC_KA_KEYID mirror the key store. -/
def Device.mirrorKeys (d : Device) : Device :=
  let n := ((List.range 32).filter fun i => d.tskUsed i).length
  let d := d.wr Reg.secKeys (n * 256 + natOf d.hasKak * 2 + natOf d.hasIdk)
  d.wrOctets (Reg.secKaKeyid 0) (if d.hasKak then d.keyId else List.replicate 16 0)

/-- A signature of the IDK over a digest, with event 472 (R781). -/
def Device.idkSignDigest (d : Device) (digest : List Byte) : List Byte × Device :=
  (padTo 96 (Config.ecdsaSignDigest d.idk digest d.freeCtr), ({ d with freeCtr := d.freeCtr + 1 }).raise 472 [])

/-- A signature of the IDK over a message: over its SHA-384. -/
def Device.idkSign (d : Device) (msg : List Byte) : List Byte × Device := d.idkSignDigest (Config.sha384 msg)

/-- DRBG bytes. -/
def Device.drbg (d : Device) (n : Nat) : List Byte × Device :=
  (padTo n (Config.drbg d.freeCtr n), { d with freeCtr := d.freeCtr + 1 })

/-- ASCII bytes of a label. -/
def ascii (s : String) : List Byte := s.toList.map fun c => BitVec.ofNat 8 c.toNat

/-- The KEK of R351 and R777. -/
def Device.kek (d : Device) (eph : List Byte) (label : String) (tail : List Byte) : List Byte :=
  (padTo 48 (Config.sha384 ([0, 0, 0, 1] ++ padTo 48 (Config.ecdh d.kak eph) ++ ascii label ++ tail))).take 32

/-- The record key of R773. -/
def recordKeyOf (tsk hash : List Byte) : List Byte :=
  (padTo 48 (Config.sha384 ([0, 0, 0, 1] ++ tsk ++ ascii "GDNI-SRK" ++ hash))).take 32

/-- The signer ID (or TENANT_ID) of a public key (R771, R777). -/
def signerId (pub : List Byte) : List Byte := (padTo 48 (Config.sha384 pub)).take 16

/-- The signer ID recorded for a slot's plane. -/
def Device.planeSigner (d : Device) (slot plane : Nat) : List Byte := d.bytes (keySigner slot plane) 16

/-! ### The OTP read at POR release (R769, R770) -/

/-- The security engine reads the OTP: integrity, locks and operator key in force, and the value registers. Event 466 is
raised at AON ready. -/
def Device.otpRead (d : Device) : Device :=
  let d := d.setFlag Fld.secStatusOtpOk d.otpGood
  let d := d.setFld Fld.secLocksInForce d.lockMajority
  let d := d.setFld Fld.secLocksProgrammed d.lockMajority
  let d := (d.setFlag Fld.secStatusOpKey d.opFieldNow.isSome).setFlag Fld.secStatusOpSlot (d.opFieldNow == some 2)
  let d := d.wrOctets (Reg.secSerial 0) d.serial
  let d := d.wrOctets (Reg.secVendorHash 0) (d.otpHash 0)
  let d := d.wrOctets (Reg.secOpHash 0) (match d.opFieldNow with | some k => d.otpHash k | none => List.replicate 48 0)
  let d := d.setFlag Fld.secStatusOtpPend false
  if d.lockWeak then (d.setFlag Fld.secStatusOtpWeak true).raise 468 [] else d

/-- A value programmed after POR release waits to take effect (R770). -/
def Device.otpPending (d : Device) : Device :=
  let d := d.setFld Fld.secLocksProgrammed d.lockMajority
  let hash := match d.opFieldNow with | some k => d.otpHash k | none => List.replicate 48 0
  d.setFlag Fld.secStatusOtpPend (d.lockMajority != d.fld Fld.secLocksInForce ||
    d.opFieldNow.isSome != d.flag Fld.secStatusOpKey || hash != d.rdOctets (Reg.secOpHash 0) 12)

/-! ### Security subfunctions (R775 to R778): the code, and the device -/

/-- The operator hash in force. -/
def Device.opHash (d : Device) : List Byte := d.rdOctets (Reg.secOpHash 0) 12
/-- An operator key is in force. -/
def Device.opKeyed (d : Device) : Bool := d.flag Fld.secStatusOpKey
/-- An operator signature verifies. -/
def Device.opSigOk (d : Device) (msg sig : List Byte) : Bool := Config.ecdsaVerifyHash d.opHash msg sig

/-- Program a hash field: its bytes, then its CRC word, each an OTP write; a failed verify leaves it spent or corrupt
(R768, R776). -/
def Device.otpProgramHash (d : Device) (k : Nat) (hash : List Byte) (ok : Bool) : Device :=
  let d := d.otpWrite (otpField k).1 hash
  if ok then (d.otpWrite (otpField k).2 (leBytes 4 (crc32c hash))).raise 467 []
  else
    let (b, d) := d.freeBit
    if b then d.otpWrite (otpField k).2 (leBytes 4 (Nat.xor (crc32c hash) 1)) else d

/-- OP_KEY_SET (R776); `verify` is the outcome of the OTP program verify. OPERATOR_KEY_LOCK refuses a second key alone (assumption log
84). -/
def Device.opKeySet (d : Device) (src : List Byte) (verify : Bool) : Nat × Device :=
  if src.length ≠ (if d.opKeyed then 288 else 192) then (0xA7, d)
  else
    let pub := src.take 96
    let msg := ascii "GDNI-OPK" ++ d.serial ++ pub
    let target := if d.otpClass 1 = .unprogrammed then some 1
      else if d.otpClass 2 = .unprogrammed ∧ !d.lockBit 4 then some 2 else none
    match target with
    | none => (0xA0, d)
    | some k =>
      if !Config.ecdsaVerify pub msg ((src.drop 96).take 96) then (0xA1, d)
      else if d.opKeyed && !d.opSigOk msg (src.drop 192) then (0xA1, d)
      else
        let d := (d.otpProgramHash k (padTo 48 (Config.sha384 pub)) verify).otpPending
        (if verify then 0 else 0xAA, d)

/-- LOCK_SET (R775): LOCK_A, then LOCK_B, then LOCK_C. -/
def Device.lockSet (d : Device) (src : List Byte) (verify : Bool) : Nat × Device :=
  if src.length ≠ (if d.opKeyed then 100 else 4) then (0xA7, d)
  else if d.opKeyed && !d.opSigOk (ascii "GDNI-LCK" ++ d.serial ++ src.take 4) (src.drop 4) then (0xA1, d)
  else
    let m := src.take 1
    if verify then
      let d := (d.otpWrite 0x90 m).raise 467 []
      let d := (d.otpWrite 0x91 m).raise 467 []
      (0, ((d.otpWrite 0x92 m).raise 467 []).otpPending)
    else (0xAA, (d.otpWrite 0x90 m).otpPending)

/-- TSK_IMPORT (R777): the code, the TENANT_ID, and the device. -/
def Device.tskImport (d : Device) (src : List Byte) (verify : Bool) : Nat × List Byte × Device :=
  if src.length ≠ 352 then (0xA7, [], d)
  else
    let pub := src.take 96
    let tid := signerId pub
    if !Config.ecdsaVerify pub (src.take 256) (src.drop 256) then (0xA1, [], d)
    else if !d.hasKak then (0xA3, [], d)
    else
      match gcmOpen (d.kek ((src.drop 96).take 96) "GDNI-TSK" tid) ((src.drop 192).take 12) (d.keyId ++ tid)
          ((src.drop 204).take 32) ((src.drop 236).take 16) with
      | none => (0xA4, [], d)
      | some key =>
        let at_ := match d.tskSlot tid with | some i => some i | none => firstIdx 32 fun i => !d.tskUsed i
        match at_ with
        | none => (0xA5, [], d)
        | some i =>
          if !verify then (0xAA, [], d)
          else
            let d := d.setBytes (keyTsk i) ([1, 0, 0, 0, 0, 0, 0, 0] ++ tid ++ padTo 32 key)
            (0, tid, d.mirrorKeys.raise 470 [])

/-- Erase a state key slot. -/
def Device.tskErase (d : Device) (i : Nat) : Device := d.setBytes (keyTsk i) (List.replicate 64 0)

/-- Erase every state key slot. -/
def Device.tskEraseAll (d : Device) : Device := iter 32 (fun i d => d.tskErase i) d

/-- Erase the IDK and the KAK. -/
def Device.keysErase (d : Device) : Device :=
  (d.setBytes keyIdk (List.replicate 64 0)).setBytes keyKak (List.replicate 64 0)

/-- TSK_DESTROY (R778). -/
def Device.tskDestroy (d : Device) (src : List Byte) (verify : Bool) : Nat × Device :=
  if src.length ≠ 16 then (0xA7, d)
  else
    match d.tskSlot src with
    | none => (0xA6, d)
    | some i => if verify then (0, (d.tskErase i).mirrorKeys.raise 471 []) else (0xAA, d)

/-- TSK_DESTROY_ALL (R778). -/
def Device.tskDestroyAll (d : Device) (src : List Byte) (verify : Bool) : Nat × Device :=
  if src.length ≠ 0 then (0xA7, d)
  else if verify then (0, d.tskEraseAll.mirrorKeys.raise 471 []) else (0xAA, d)

/-- DECOMMISSION (R778). -/
def Device.decommission (d : Device) (src : List Byte) (verify : Bool) : Nat × Device :=
  if src.length ≠ (if d.opKeyed then 96 else 0) then (0xA7, d)
  else if d.opKeyed && !d.opSigOk (ascii "GDNI-DEC" ++ d.serial) src then (0xA1, d)
  else if verify then (0, d.tskEraseAll.keysErase.mirrorKeys.raise 471 []) else (0xAA, d)

/-- The minimum endorsement serial (R772): the payload of the live record 0x0200, or 0. -/
def Device.minEndorse (d : Device) : Nat :=
  match d.recordRead 0x0200 with
  | some (_, p) => leAt p 0 4
  | none => 0

/-- ENDORSE_MIN (R772, R775). -/
def Device.endorseMin (d : Device) (src : List Byte) : Nat × Device :=
  if !d.opKeyed then (0xA2, d)
  else if src.length ≠ 100 then (0xA7, d)
  else if !d.opSigOk (ascii "GDNI-END" ++ d.serial ++ src.take 4) (src.drop 4) then (0xA1, d)
  else if leAt src 0 4 ≤ d.minEndorse then (0xA9, d)
  else
    match d.recordWrite 0x0200 (src.take 4) with
    | (0, d) => (0, d.wr Reg.secMinEndorse (leAt src 0 4))
    | r => r

/-- GET_KA (R775): the 208 bytes. -/
def Device.keyAgreement (d : Device) : List Byte × Device :=
  let (sig, d) := d.idkSign (ascii "GDNI-KAP" ++ d.serial ++ d.keyId ++ d.kakPub)
  (d.keyId ++ d.kakPub ++ sig, d)

/-! ### Tamper (R785 to R788) -/

/-- The key store erasure of a tamper response. -/
def Device.tamperErase (d : Device) : Device := d.tskEraseAll.keysErase.mirrorKeys

end Sys2Proof.Machine
end

