-- ==== Sys2Proof/Machine/PortBase.lean ====
section
/-! DEFINITION. Host ports, lower part: configuration space contents (R504 to R509), function enables, AER (R519 to
R522), port events (R544). Register places and defaults that the spec takes over by naming PCI Express 5.0 and SR-IOV
1.1 are PRESUMED from those standards (assumption log 11). -/

namespace Sys2Proof.Machine

/-- Raise port event `e` of port `p` (R544). -/
def Device.portEvent (d : Device) (p : Fin 2) (e : Nat) (syn : List (Nat × Nat)) : Device :=
  d.raise (384 + 16 * p.val + e) syn

/-- Change a port. -/
def Device.modPort (d : Device) (p : Fin 2) (f : Port → Port) : Device :=
  { d with ports := d.ports.set p (f (d.ports[p])) }

/-- Reset value of PF0's configuration dword `a` (byte offset) of port `p`; `maxW`, `maxS` and `l1` are the width, speed and
L1SS_DIS in force (R504, "Identification", "Capability layout", R507, R508). -/
def cfgResetPf (p : Fin 2) (maxW maxS l1 a : Nat) : Nat :=
  match a with
  | 0x000 => 0x32161D9F
  | 0x004 => 0x00100000
  | 0x008 => 0x120000A1
  | 0x010 => 0x00000004
  | 0x02C => 0x32161D9F
  | 0x034 => 0x40
  | 0x040 => 0x00035001
  | 0x044 => 0x8
  | 0x050 => 0x0002B010
  | 0x054 => 0x10008022
  | 0x058 => 0x2810
  | 0x05C => maxS + maxW * 2 ^ 4 + 3 * 2 ^ 10 + 3 * 2 ^ 12 + 4 * 2 ^ 15 + 2 ^ 18 + 2 ^ 22
  | 0x074 => 0x0003001F
  | 0x07C => 2 ^ (maxS + 1) - 2
  | 0x080 => maxS
  | 0x0B0 => 0x003F0011
  | 0x0B4 => if p = 0 then 0x0E8000 else 0x0F8000
  | 0x0B8 => if p = 0 then 0x0E9000 else 0x0F9000
  | 0x100 => 0x14820001
  | 0x108 => 0x00400000
  | 0x10C => 0x00462030
  | 0x114 => 0x0000E000
  | 0x148 => 0x1601000E
  | 0x160 => 0x1A010010
  | 0x16C => 0x00100010
  | 0x174 => 0x00010001
  | 0x178 => 0x32170000
  | 0x17C => 0x13
  | 0x180 => 0x1
  | 0x184 => 0x4
  | 0x18C => 0xC
  | 0x1A0 => 0x1C010019
  | 0x1C0 => 0x1D010025
  | 0x1C4 => 0x80000001
  | 0x1D0 => 0x20010026
  | 0x200 => 0x2301002A
  | 0x230 => if l1 = 0 then 0x28010027 else 0x29010027
  | 0x280 => if l1 = 0 then 0x2901001E else 0
  | 0x284 => if l1 = 0 then 0x1F else 0
  | 0x290 => 0x0001002E
  | _ => if 0x238 ≤ a ∧ a < 0x258 then 0x9C38 else 0

/-- Reset value of a VF's configuration dword. -/
def cfgResetVf (maxW maxS a : Nat) : Nat :=
  match a with
  | 0x000 => 0xFFFFFFFF
  | 0x004 => 0x00100000
  | 0x008 => 0x120000A1
  | 0x02C => 0x32171D9F
  | 0x034 => 0x40
  | 0x040 => 0x00035001
  | 0x044 => 0x8
  | 0x050 => 0x0002B010
  | 0x054 => 0x10008022
  | 0x05C => maxS + maxW * 2 ^ 4 + 3 * 2 ^ 10 + 3 * 2 ^ 12 + 4 * 2 ^ 15 + 2 ^ 18 + 2 ^ 22
  | 0x074 => 0x0003001F
  | 0x07C => 2 ^ (maxS + 1) - 2
  | 0x0B0 => 0x00070011
  | 0x0B4 => 0x8000
  | 0x0B8 => 0x8800
  | 0x100 => 0x14820001
  | 0x148 => 0x0001000E
  | _ => 0

/-- Bits of a configuration dword that a write sets to the written value. -/
def cfgMask (fn a : Nat) : Nat :=
  if fn = 0 then
    match a with
    | 0x004 => 0x0146
    | 0x00C => 0xFF
    | 0x010 => 0xFC000000
    | 0x014 => 0xFFFFFFFF
    | 0x03C => 0xFF
    | 0x044 => 0x3
    | 0x058 => 0x7DFF
    | 0x060 => 0x1FB
    | 0x078 => 0x101F
    | 0x080 => 0xFFFF
    | 0x0B0 => 0xC0000000
    | 0x108 => 0x007FF030
    | 0x10C => 0x007FF030
    | 0x114 => 0x0000F1C1
    | 0x168 => 0x19
    | 0x170 => 0xFFFF
    | 0x180 => 0x13
    | 0x184 => 0xFFFF0000
    | 0x188 => 0xFFFFFFFF
    | 0x18C => 0xFFF00000
    | 0x190 => 0xFFFFFFFF
    | 0x1A4 => 0xFE03
    | 0x1C4 => 0x80000000
    | 0x288 => 0xFFFFFFFF
    | 0x28C => 0xFF
    | _ => if 0x238 ≤ a ∧ a < 0x258 then 0xFF7F else 0
  else
    match a with
    | 0x004 => 0x0004
    | 0x044 => 0x3
    | 0x0B0 => 0xC0000000
    | _ => 0

/-- Bits of a configuration dword that a written 1 clears: AER status, Device Status, lane errors and data parity mismatches. -/
def cfgW1c (a : Nat) : Nat :=
  match a with
  | 0x104 => 0x007FF030
  | 0x110 => 0x0000F1C1
  | 0x058 => 0x000F0000
  | 0x1A8 | 0x1E0 | 0x1E4 | 0x1E8 => 0xFF
  | _ => 0

/-- The stored configuration dword at byte offset `a` of a function. -/
def Device.cfgDw (d : Device) (p : Fin 2) (fn a : Nat) : Nat :=
  match (d.ports[p]).cfg.find? fun c => c.1 = fn * 0x1000 + a with
  | some c => c.2.toNat
  | none =>
    if fn = 0 then cfgResetPf p (d.fld (Fld.ptLinkCfgMaxWidth p)) (d.fld (Fld.ptLinkCfgMaxSpeed p))
        (d.fld (Fld.ptLinkCfgL1ssDis p)) a
    else cfgResetVf (d.fld (Fld.ptLinkCfgMaxWidth p)) (d.fld (Fld.ptLinkCfgMaxSpeed p)) a

/-- Store a configuration dword. -/
def Device.setCfgDw (d : Device) (p : Fin 2) (fn a v : Nat) : Device :=
  d.modPort p fun q => { q with cfg := Sparse.put q.cfg (fn * 0x1000 + a) (BitVec.ofNat 32 v) }

/-- Bus Master Enable of a function. -/
def Device.busMaster (d : Device) (p : Fin 2) (fn : Nat) : Bool := bitOf (d.cfgDw p fn 0x004) 2
/-- Memory Space Enable: the PF's own bit, or VF MSE of the SR-IOV control for a VF. -/
def Device.memSpace (d : Device) (p : Fin 2) (fn : Nat) : Bool :=
  if fn = 0 then bitOf (d.cfgDw p 0 0x004) 1 else bitOf (d.cfgDw p 0 0x168) 3
/-- The function is in D3hot. -/
def Device.inD3 (d : Device) (p : Fin 2) (fn : Nat) : Bool := d.cfgDw p fn 0x044 % 4 == 3
/-- The function exists and answers requests: PF0, or an enabled VF; VFs above 7 need ARI (R509), outside its FLR time. -/
def Device.fnEnabled (d : Device) (p : Fin 2) (fn : Nat) : Bool :=
  fn == 0 || (d.vfEnabled p fn && (decide (fn ≤ 7) || bitOf (d.cfgDw p 0 0x168) 4))
/-- Max Payload Size in force, from PF0's Device Control. -/
def Device.mps (d : Device) (p : Fin 2) : Nat := min 512 (128 * 2 ^ bitsOf (d.cfgDw p 0 0x058) 5 3)
/-- Max Read Request Size in force, from PF0's Device Control. -/
def Device.mrrs (d : Device) (p : Fin 2) : Nat := min 4096 (128 * 2 ^ bitsOf (d.cfgDw p 0 0x058) 12 3)
/-- The link is in L0. -/
def Device.inL0 (d : Device) (p : Fin 2) : Bool := (d.ports[p]).link == .l0
/-- The link is up: L0, L0s or L1 and its substates. -/
def Device.linkUp (d : Device) (p : Fin 2) : Bool := (d.ports[p]).link != .down && (d.ports[p]).link != .training

/-- A bit of a function's Device Status is set: 16 correctable, 17 non-fatal, 18 fatal, 19 Unsupported Request. -/
def Device.devStatus (d : Device) (p : Fin 2) (fn bit : Nat) : Device :=
  d.setCfgDw p fn 0x058 (withBit (d.cfgDw p fn 0x058) bit true)

/-- An error message may go out: 0 ERR_COR, 1 ERR_NONFATAL, 2 ERR_FATAL. Device Control enables it, and for an Unsupported Request its
own reporting enable besides; SERR# Enable enables the latter two by itself. -/
def Device.errEnabled (d : Device) (p : Fin 2) (severity : Nat) (ur : Bool) : Bool :=
  let c := d.cfgDw p 0 0x058
  (bitOf c severity && (!ur || bitOf c 3)) || (severity != 0 && bitOf (d.cfgDw p 0 0x004) 8)

/-- Log a correctable error in a function, raise port event 6 and send ERR_COR where enabled. -/
def Device.aerCorrectable (d : Device) (p : Fin 2) (fn bit : Nat) (ur : Bool) : Device :=
  let d := (d.setCfgDw p fn 0x110 (withBit (d.cfgDw p fn 0x110) bit true)).devStatus p fn 16
  let d := d.portEvent p 6 [(fn, 5)]
  if !bitOf (d.cfgDw p 0 0x114) bit && d.errEnabled p 0 ur then d.emit (.errMessage p fn 0) else d

/-- The First Error Pointer and the one header log of a function (R502): an error takes them unless the error that they name is still in
Uncorrectable Error Status. An error without a TLP header leaves the log. -/
def Device.aerFirst (d : Device) (p : Fin 2) (fn bit : Nat) (header : Option Nat) : Device :=
  let c := d.cfgDw p fn 0x118
  if bitOf (d.cfgDw p fn 0x104) (c % 32) then d
  else
    let d := d.setCfgDw p fn 0x118 (withBits c 0 5 bit)
    match header with
    | some h => iter 4 (fun i d => d.setCfgDw p fn (0x11C + 4 * i) (bitsOf h (96 - 32 * i) 32)) d
    | none => d

/-- Log an uncorrectable error (bit of AER's Uncorrectable Error Status) in a function, with the header of its TLP where it has one, raise
port event 7 and send the message that mask, severity and the enables call for (R502, R519 to R522); a non-fatal error of an advisory
case is reported as the correctable Advisory Non-Fatal Error. -/
def Device.aerUncorrectable (d : Device) (p : Fin 2) (fn bit : Nat) (advisory : Bool) (header : Option Nat) : Device :=
  let fatal := bitOf (d.cfgDw p 0 0x10C) bit
  let masked := bitOf (d.cfgDw p 0 0x108) bit
  let adv := advisory && !fatal
  let d := if masked || (adv && bitOf (d.cfgDw p 0 0x114) 13) then d else d.aerFirst p fn bit header
  let d := d.setCfgDw p fn 0x104 (withBit (d.cfgDw p fn 0x104) bit true)
  let d := if bit = 20 then d.devStatus p fn 19 else d
  let d := d.portEvent p 7 [(fn, 5)]
  if adv then d.aerCorrectable p fn 13 (bit == 20)
  else
    let d := d.devStatus p fn (if fatal then 18 else 17)
    let sev := if fatal then 2 else 1
    if !masked && d.errEnabled p sev (bit == 20) then d.emit (.errMessage p fn sev) else d

/-- The device safe state is entered: PF0 of each port whose link is up logs Uncorrectable Internal Error (R521, R522). -/
def Device.portsDss (d : Device) : Device :=
  ([0, 1] : List (Fin 2)).foldl (fun d p => if d.linkUp p then d.aerUncorrectable p 0 22 false none else d) d

end Sys2Proof.Machine
end

