-- ==== Sys2Proof/Machine/SafetyBase.lean ====
section
/-! DEFINITION. The slot safe state and the device safe state (R963 to R968), the chuck state, and what a safety reaction
ends (R434, R827). -/

namespace Sys2Proof.Machine

/-- Bits of SLC_FAULT. -/
abbrev faultChuck : Nat := 0
abbrev faultConfig : Nat := 1
abbrev faultClock : Nat := 2
abbrev faultTick : Nat := 3
abbrev faultSupply : Nat := 4
abbrev faultTemp : Nat := 5
abbrev faultDevice : Nat := 6
abbrev faultSweep : Nat := 7

/-- Set a bit of a slot's SLC_FAULT. -/
def Device.setFault (d : Device) (n : Fin 16) (bit : Nat) : Device :=
  d.wr (Reg.slcFault n) (withBit (d.rd (Reg.slcFault n)) bit true)

/-- Captures that are reading and restores that are writing a member end with 0x98 when a safety reaction, a tamper or
the like meets them (R827, R830): events 507 and 508, and the command's completion. -/
def Device.scribeInterrupt (d : Device) (hit : List (Fin 16) → Bool) (pendingToo : Bool) : Device :=
  let caps := d.scribe.captures.filter fun c => hit c.members && (pendingToo || c.stage == 2)
  let ress := d.scribe.restores.filter fun r => hit r.members && (pendingToo || r.stage == 1)
  let d := { d with scribe := { d.scribe with
    captures := d.scribe.captures.filter fun c => !(hit c.members && (pendingToo || c.stage == 2)),
    restores := d.scribe.restores.filter fun r => !(hit r.members && (pendingToo || r.stage == 1)) } }
  let d := caps.foldl (fun d c =>
    (d.raise 507 [((c.members.headD 0).val, 4), (0x98, 8)]).complete c.cid 0x98 []) d
  ress.foldl (fun d r =>
    (d.raise 508 [((r.members.headD 0).val, 4), (0x98, 8)]).complete r.cid 0x98 []) d

/-- A capture's RESUME that concerns a slot is cancelled (R816). -/
def Device.cancelResume (d : Device) (n : Fin 16) : Device :=
  { d with scribe := { d.scribe with resumes := d.scribe.resumes.filter fun r => !decide (n ∈ r.members) } }

/-- A trial of a slot's group ends without commit or revert (R434). -/
def Device.endTrial (d : Device) (n : Fin 16) : Device :=
  d.forSlots (d.members n) fun m d => d.modSlot m fun s => { s with trial := none }

/-- The slot safe state (R963, R987): entered from LOADED, RUNNING or HELD; a FAULTED or SWEEPING slot records the cause; an
EMPTY or BOUND slot records nothing. -/
def Device.slotSafe (d : Device) (n : Fin 16) (bit : Nat) : Device :=
  match (d.slot n).st with
  | .loaded | .running | .held =>
    let d := d.modSlot n fun s => { s with st := .faulted, checked := false, strobe := 0 }
    let d := ((d.setFault n bit).endTrial n).cancelResume n
    d.scribeInterrupt (fun ms => decide (n ∈ ms)) false
  | .faulted | .sweeping => d.setFault n bit
  | .empty | .bound => d

/-- A slot-scope detection: cause, event and the slot safe state (R965, R966). -/
def Device.detectSlot (d : Device) (cause event : Nat) (syn : List (Nat × Nat)) (n : Fin 16) (bit : Nat) : Device :=
  (d.signal cause event syn).slotSafe n bit

/-- The SLC_FAULT bit of a device-scope cause, where it has one of its own (R964). -/
def causeFault (cause : Nat) : Option Nat :=
  if cause = 3 then some faultTick else if cause = 6 then some faultSupply else if cause = 10 then some faultTemp else none

/-- The device safe state (R964, R966): DSS, event 492 when DSS was 0, the cause in SAFE_DSS, every LOADED, RUNNING or
HELD slot in its safe state with DEVICE and the cause's bit, and the ports' report. -/
def Device.enterDss (d : Device) (cause : Nat) : Device :=
  let was := d.flag Fld.safeStatusDss
  let d := ((d.setFlag Fld.safeStatusDss true).setFldBit Fld.safeDssCauses cause true).safeLow
  let d := if was then d else (d.raise 492 [(cause, 16)]).portsDss
  d.forSlots allSlots fun n d =>
    match (d.slot n).st with
    | .loaded | .running | .held =>
      let d := d.slotSafe n faultDevice
      match causeFault cause with
      | some b => d.setFault n b
      | none => d
    | .sweeping =>
      match causeFault cause with
      | some b => d.setFault n b
      | none => d
    | _ => d

/-- A device-scope detection with its event (R965, R966). -/
def Device.detectDevice (d : Device) (cause event : Nat) (syn : List (Nat × Nat)) : Device :=
  (d.signal cause event syn).enterDss cause

/-- A cause is, or is no longer, present in SAFE_ACTIVE (R968). -/
def Device.setActive (d : Device) (cause : Nat) (b : Bool) : Device := (d.setFldBit Fld.safeActiveActive cause b).safeLow

/-- A clock fault of a slot is, or is no longer, present (R967): SAFE_CLK_FAULT, and with it the CLOCK cause (R968). -/
def Device.clkFault (d : Device) (n : Fin 16) (b : Bool) : Device :=
  let d := d.setFldBit Fld.safeClkFaultSlot n b
  d.setActive 2 (d.fld Fld.safeClkFaultSlot != 0)

/-- VCCIO_n is out of its window while slot n is not EMPTY, for some n (R92): the SUPPLY_IO condition. -/
def Device.ioOut (d : Device) : Bool :=
  allSlots.any fun n => (d.slot n).st != .empty && !d.fldBit Fld.safeSupplyVccioIn n

/-- The supply causes follow SAFE_SUPPLY (R968). -/
def Device.supplyActive (d : Device) : Device :=
  let outOf := fun (l : List Nat) => l.any fun i => !d.fldBit Fld.safeSupplyInWindow i
  (((d.setActive 6 (outOf [0, 1])).setActive 8 (outOf [2, 3, 4, 5])).setActive 9 (outOf [6])).setActive 7 d.ioOut

/-- The chuck states. -/
inductive Chuck where
  | closed | guarded | open_
  deriving DecidableEq, Repr

/-- The chuck state follows the slot state (R479). -/
def chuckOf : SlotState → Chuck
  | .running => .open_
  | .loaded | .held => .guarded
  | _ => .closed

end Sys2Proof.Machine
end

