-- ==== Sys2Proof/Machine/Slots.lean ====
section
/-! DEFINITION. Slots: binding, groups, requests, unbind and sweep, chucks, mailboxes (chapters 12 and 13). -/

namespace Sys2Proof.Machine

/-! ### Configuration fields read here -/

/-- INIT of every macrocell under a plane, bit 512c + 64k + m (R381, R135). -/
def Device.initBits (d : Device) (slot plane : Nat) : BitVec 2048 :=
  BitVec.ofNat 2048 (ofBits ((List.range 2048).map fun i =>
    d.cfg slot plane 0 (i / 64) (67584 + 32 * (i % 64) + 14) 1 == 1))

/-- CK_EN of the four outputs under a plane (R390). -/
def Device.clkEn (d : Device) (slot plane : Nat) : Nat :=
  ofBits ((List.range 4).map fun i => d.cfg slot plane 5 0 (16 * i + 15) 1 == 1)

/-- A per-pin field of a plane (R391). -/
def Device.pinCfg (d : Device) (slot plane i lo w : Nat) : Nat := d.cfg slot plane 6 0 (32 * i + lo) w

/-- PAIR_MODE of pair `k` of a plane (R392). -/
def Device.pairMode (d : Device) (slot plane k : Nat) : Nat := d.cfg slot plane 6 0 (1024 + 8 * k) 2

/-- GCK_MODE of a plane's bank. -/
def Device.gckMode (d : Device) (slot plane : Nat) : Nat := d.cfg slot plane 6 0 1154 2

/-- The pin can drive: OEMODE 1 or 2, or an LVDS output pair (R342 PIN_OUT). -/
def Device.pinOut (d : Device) (slot plane i : Nat) : Bool :=
  let oe := d.pinCfg slot plane i 6 2
  oe == 1 || oe == 2 || d.pairMode slot plane (i / 2) == 2

/-- The 5.0 ns after the tick are a swap cycle of the slot. -/
def SlotCycle.swaps (c : SlotCycle) : Bool := c == .swap || c == .swapReset
/-- The 5.0 ns after the tick are a slot reset of the slot. -/
def SlotCycle.resets (c : SlotCycle) : Bool := c == .reset || c == .swapReset

/-! ### Chuck comparison (R479, R480) -/

/-- The true rail's declaration of a cell, from the active plane's fields. -/
def Device.railT (d : Device) (n : Fin 16) (cell : Nat) : Bool :=
  let p := d.act n
  if cell < 64 then d.cfg n p 4 0 (16 * cell + 11) 1 == 1
  else if cell < 128 then d.cfg n p 4 1 (16 * (cell - 64) + 11) 1 == 1
  else if cell < 192 then true
  else if cell < 256 then d.pinOut n p ((cell - 192) % 32)
  else if cell < 288 then d.pinCfg n p (cell - 256) 0 1 == 1
  else if cell < 290 then d.gckMode n p != 2
  else true

/-- The complement rail's declaration of a cell, from the chuck declaration latch of the active plane. -/
def Device.railC (d : Device) (n : Fin 16) (cell : Nat) : Bool :=
  let k := keyChuck n (d.act n)
  if cell < 64 then bitOf (d.le (k + 24) 8) cell
  else if cell < 128 then bitOf (d.le (k + 32) 8) (cell - 64)
  else if cell < 192 then true
  else if cell < 256 then bitOf (d.le (k + 8) 4) ((cell - 192) % 32)
  else if cell < 288 then bitOf (d.le (k + 4) 4) (cell - 256)
  else if cell < 290 then (d.byte (k + 2)).toNat != 2
  else true

/-- The slot state lets a cell pass where its declaration does ("Chuck cells" table). -/
def Device.chuckLets (d : Device) (n : Fin 16) (cell : Nat) : Bool :=
  let ck := if (d.slot n).power = .on then chuckOf (d.slot n).st else .closed
  let inbound := (128 ≤ cell && cell < 192) || (256 ≤ cell && cell < 290) || 329 ≤ cell
  let edge := if cell < 64 then (d.slot n).gkind == 1 || (d.slot n).gkind == 3
    else if cell < 128 then (d.slot n).gkind == 2 || (d.slot n).gkind == 3
    else if 128 ≤ cell && cell < 192 then (d.slot n).gkind != 0 else true
  edge && (ck == .open_ || (inbound && ck == .guarded))

/-- A cell passes its signal: T reads 1 and C reads 0. -/
def Device.chuckPasses (d : Device) (n : Fin 16) (cell : Nat) : Bool :=
  d.chuckLets n cell && d.railT n cell && d.railC n cell

/-- The lowest cell whose rails compare equal: T and C disagree on whether it passes (R480). -/
def Device.chuckFault (d : Device) (n : Fin 16) : Option Nat :=
  (List.range 357).find? fun c => d.chuckLets n c && (d.railT n c != d.railC n c)

/-! ### Fault causes (R484) -/

/-- A word of the active plane outside BLOCKMEM_CFG frames 4 to 75 decodes as uncorrectable. -/
def Device.configUpset (d : Device) (n : Fin 16) : Bool :=
  presentFrames.any fun x =>
    !(x.1 == 3 && 4 ≤ x.2.2) &&
      (List.range 8).any fun w =>
        let fb := frameBase n (d.act n) x.1 x.2.1 x.2.2
        eccDecode (d.frameWord fb w) (d.frameCheck fb w) == .uncorrectable

/-- Some cause recorded in SLC_FAULT of a member is present now, or its active plane is not valid. -/
def Device.causePresent (d : Device) (n : Fin 16) : Bool :=
  let f := d.rd (Reg.slcFault n)
  !d.pValid n (d.act n) ||
  (bitOf f faultChuck && (d.chuckFault n).isSome) ||
  (bitOf f faultConfig && d.configUpset n) ||
  (bitOf f faultClock && d.fldBit Fld.safeClkFaultSlot n) ||
  (bitOf f faultTick && d.flag Fld.turnStatusLost) ||
  (bitOf f faultSupply && !(d.fldBit Fld.safeSupplyVccioIn n && d.fld Fld.safeSupplyInWindow % 4 == 3)) ||
  (bitOf f faultTemp && d.flag Fld.safeTempOver) ||
  (bitOf f faultDevice && d.flag Fld.safeStatusDss)

/-! ### Restores and captures of a slot -/

/-- A restore of the slot is pending or writing. -/
def Device.restoring (d : Device) (n : Fin 16) : Bool := d.scribe.restores.any fun r => decide (n ∈ r.members)
/-- A capture of the slot is pending or reading. -/
def Device.capturing (d : Device) (n : Fin 16) : Bool := d.scribe.captures.any fun c => decide (n ∈ c.members)
/-- A capture is reading the slot. -/
def Device.captureReading (d : Device) (n : Fin 16) : Bool :=
  d.scribe.captures.any fun c => c.stage == 2 && decide (n ∈ c.members)
/-- A capture reads or a restore writes the block memories of a slot, so that other accesses stall (R230, R547). -/
def Device.memBusy (d : Device) (n : Fin 16) : Bool :=
  d.captureReading n || d.scribe.restores.any fun r => r.stage == 1 && decide (n ∈ r.members)
/-- A loader job uses the slot. -/
def Device.jobUses (d : Device) (n : Fin 16) : Bool :=
  match d.loader.job with
  | some j => decide (n ∈ j.members)
  | none => false
/-- A swap of the slot is armed, or a revert waits. -/
def Device.swapPend (d : Device) (n : Fin 16) : Bool :=
  (d.slot n).swap.isSome || match (d.slot n).trial with | some t => t.revert | none => false

/-! ### Position 5 requests (R475 to R484) -/

/-- R475: every member's active plane is valid, holds one image, of the class of the group, at its member position. -/
def Device.imagesAgree (d : Device) (n : Fin 16) : Bool :=
  let ms := d.members n
  ms.all fun m =>
    let p := d.act m
    d.pValid m p && d.pHash m p == d.pHash (d.member0 n) (d.act (d.member0 n)) &&
      d.pClass m p == classOfKind (d.slot n).gkind && d.pMember m p == (d.slot m).gmember

/-- A member other than the named slot keeps a release from its group: it runs, it is FAULTED, or it cannot run now. A BOUND member has no
image, and is left to R475 (R496). -/
def Device.blocksRelease (d : Device) (m : Fin 16) : Bool :=
  match (d.slot m).st with
  | .bound => false
  | .loaded | .held => (d.slot m).power != .on || d.restoring m
  | _ => true

/-- The code of a hold, release, slot reset or fault clear of a slot, 0 where every condition holds (R482). -/
def Device.requestCode (d : Device) (n : Fin 16) (r : Req5) : Nat :=
  let ms := d.members n
  let st := fun m => (d.slot m).st
  if st n = .empty ∨ st n = .sweeping then 0x41
  else match r with
    | .hold => if ms.any (fun m => st m == .bound || st m == .faulted) then 0x44 else 0
    | .release =>
      if st n == .bound || d.flag Fld.safeStatusDss || ms.any d.blocksRelease then 0x44
      else if d.imagesAgree n then 0 else 0x47
    | .slotReset => if ms.any (fun m => st m == .bound || st m == .faulted) then 0x44 else 0
    | .faultClear =>
      if ms.any (fun m => st m == .faulted) then
        if ms.any (fun m => st m == .faulted && d.causePresent m) then 0x48 else 0
      else 0x44
    | .unbind => 0

/-- Record a code in SLC_REQ_STATUS.RESULT. -/
def Device.slotResult (d : Device) (n : Fin 16) (code : Nat) : Device :=
  d.setFld (Fld.slcReqStatusResult n) code

/-- A resume job holds position 5 of a slot (R817). -/
def Device.resumeHolds (d : Device) (n : Fin 16) : Bool :=
  (d.scribe.resumes.any fun r => decide (n ∈ r.members)) ||
    d.scribe.captures.any fun c => bitOf c.opt 1 && decide (n ∈ c.members)

/-- Cancel the RESUME of a capture that holds position 5 (R816, R817). -/
def Device.dropResume (d : Device) (n : Fin 16) : Device :=
  let d := d.cancelResume n
  { d with scribe := { d.scribe with captures := d.scribe.captures.map fun c =>
      if n ∈ c.members then { c with opt := withBit c.opt 1 false } else c } }

/-- Make a position 5 request (R482, R31): its code, where 0 means pending or done, and whether it is done at once. -/
def Device.request5 (d : Device) (n : Fin 16) (r : Req5) (cid : Option Nat) : Nat × Bool × Device :=
  let code := d.requestCode n r
  let ms := d.members n
  if code ≠ 0 then (code, true, d.slotResult n code)
  else if r = .hold ∧ !(ms.any fun m => (d.slot m).st == .running) ∧ !d.resumeHolds n then
    (0, true, d.slotResult n 0)
  else if ms.any (fun m => (d.slot m).pend5.isSome) then (0x83, true, d.slotResult n 0x83)
  else if r ≠ .hold ∧ ms.any (fun m => d.resumeHolds m) then (0x83, true, d.slotResult n 0x83)
  else
    let d := d.forSlots ms fun m d => d.modSlot m fun s => { s with pend5 := some ⟨r, cid, n⟩ }
    let d := if r = .hold then d.forSlots ms fun m d => d.dropResume m else d
    (0, false, d.slotResult n 0)

/-- A slot reset begins (R483, R141, R237): every storage element takes INIT, block memory read stages and FIFO controllers clear,
OVERFLOW and UNDERFLOW clear, and DDR registers are 0 (R260). It lasts to the end of the slot's cycle. -/
def Device.slotReset (d : Device) (n : Fin 16) : Device :=
  let init := d.initBits n (d.act n)
  let d := d.modSlot n fun s => { s with
    mc := init, ddr := 0, ddrFall := 0, cyc := if s.cyc.swaps then .swapReset else .reset
    bm := s.bm.map fun _ => ⟨0, 0, 0, 0, 0, 0, 0⟩ }
  iter 16 (fun b d => (d.setFlag (Fld.slcBmStatusOverflow n b) false).setFlag (Fld.slcBmStatusUnderflow n b) false) d

/-! ### Loader job ends (R414, R456, R457) -/

/-- End the job in progress with a code: LDR_LAST_ERR, LDR_LAST_TAG, idle status, and the SLOT_LOAD it belongs to. The content key of a
load is discarded (R352). -/
def Device.endJob (d : Device) (code : Nat) : Device :=
  match d.loader.job with
  | none => d
  | some j =>
    let d := (d.wr Reg.ldrLastErr ((j.members.headD 0).val * 256 + code)).wr Reg.ldrLastTag (leAt j.entry 0x20 4)
    let d := (d.wr Reg.ldrStatus 0)
    let d := { d with loader := { d.loader with job := none }, sec := { d.sec with loaderKey := [] } }
    let d := d.forSlots j.members fun n d => d.modSlot n fun s =>
      match s.copying with
      | some (false, _) => { s with copying := none }
      | _ => s
    d.completeOpt j.cid code []

/-- A job that uses a slot ends with 0x27 and its load error event (R414, R456). -/
def Device.abortJobOf (d : Device) (n : Fin 16) : Device :=
  match d.loader.job with
  | some j =>
    if n ∈ j.members then
      let d := if j.op = 1 then d.forSlots j.members fun m d => d.raiseSlot m 6 [(0x27, 8)] else d
      d.endJob 0x27
    else d
  | none => d

/-! ### Unbind and sweep (R470 to R473) -/

/-- Revoke the T4 grant of a slot's VF: entry n + 4 loses VALID (R465). -/
def Device.revokeGrant (d : Device) (n : Fin 16) : Device :=
  d.setFlag (Fld.actEntKeyValid 4 (n.val + 4)) false

/-- Grant a slot's window to a VF: region n and entry n + 4 of the T4 ACT (R465). -/
def Device.grantSlot (d : Device) (n : Fin 16) (p : Fin 2) (v : Nat) : Device :=
  let d := d.wr (Reg.actRgnBase 4 n) (n.val * 0x1000 * 0x1000 + 1)
  let d := d.wr (Reg.actRgnLimit 4 n) ((n.val * 0x1000 + 0xFFF) * 0x1000)
  let mask := if p = 0 then 0x101 else 0x102
  let d := d.wr (Reg.actEntKey 4 (n.val + 4)) (2 ^ 31 + mask * 2 ^ 16 + (0x20 * p.val + v))
  d.wr (Reg.actEntPerm 4 (n.val + 4)) (2 ^ n.val + 2 ^ (16 + n.val))

/-- Empty both mailbox queues with their staging entries and registers (R471, R524); `outStage` tells whether the fabric's
staging entry is cleared too, `water` whether the low-water level is. -/
def Device.flushMailbox (d : Device) (n : Fin 16) (outStage water : Bool) : Device :=
  let d := d.modSlot n fun s => { s with mb := { s.mb with
    inq := [], inVis := 0, outq := [], outVis := 0, outStage := if outStage then 0 else s.mb.outStage } }
  let d := (d.resetRegs (Reg.mbInStage n 0) 64).wr (Reg.mbFlags n) 0
  if water then d.wr (Reg.mbInLowwater n) 0 else d

/-- Zero what a sweep zeroes: planes, block memory, macrocells, mailboxes, latches, DMA channel, and every register of the
slot control window but SLC_STATE and SLC_FAULT (R471). -/
def Device.sweepZero (d : Device) (n : Fin 16) : Device :=
  let d := (d.zeroPlane n 0).zeroPlane n 1
  let d := d.clearMem (keyBm n 0) 0x20000
  let d := d.modSlot n fun s => { s with
    mc := 0, ptPrev := 0, clkHigh := 0, fresh := 0, ddr := 0, ddrFall := 0, ddrLow := 0, due := DueOps.reset,
    ctrlReg := 0, turnLev := 0, holdPins := 0, holdH := 0, holdV := 0
    bm := s.bm.map fun _ => ⟨0, 0, 0, 0, 0, 0, 0⟩
    trial := none, swap := none, copying := none, resumed := false, restored := false, overran := false
    skipped := false, checked := false, done := false, healthy := false
    chan := DmaChan.reset
    mb := { s.mb with inWidx := 0, userPrev := 0, userOld := 0 }
    clk := { s.clk with lockA := 0, lockB := 0, rangeErr := 0, monitored := 0, syncWait := false } }
  let d := d.flushMailbox n true true
  let f := d.rd (Reg.slcFault n)
  let d := ((d.resetRegs (Reg.slcState n) 0x1000).wr (Reg.slcFault n) f).wr (Reg.slcCtl n) 0
  ((d.resetRegs (Reg.dmaCtl n) 0x800).wr (Reg.dmaRingSize n) 0).clkFault n false

/-- Discard every pending request of a slot at positions 2 to 5 and 7 with 0x84 (R470), and what a sweep ends besides. -/
def Device.discardRequests (d : Device) (n : Fin 16) : Device :=
  let s := d.slot n
  let caps := d.scribe.captures.filter fun c => c.stage != 2 && decide (n ∈ c.members)
  let ress := d.scribe.restores.filter fun r => decide (n ∈ r.members)
  let d := { d with scribe := { d.scribe with
    captures := d.scribe.captures.filter fun c => !(c.stage != 2 && decide (n ∈ c.members)),
    restores := d.scribe.restores.filter fun r => !decide (n ∈ r.members),
    resumes := d.scribe.resumes.filter fun r => !decide (n ∈ r.members) } }
  let d := caps.foldl (fun d c => d.complete c.cid 0x84 []) d
  let d := ress.foldl (fun d r => d.complete r.cid 0x84 []) d
  let d := d.modSlot n fun s => { s with
    swap := none, trial := none, pend5 := none, pend7 := none, flrHold := false, copying := none }
  let d := match s.swap with | some w => d.completeOpt w.cid 0x84 [] | none => d
  let d := match s.copying with | some (true, c) => d.completeOpt c 0x84 [] | _ => d
  let d := match s.pend5 with
    | some p => if p.req = .unbind then d else d.completeOpt p.cid 0x84 []
    | none => d
  match s.pend7 with | some p => d.completeOpt p.cid 0x84 [] | none => d

/-- The balance of the channel at slot `n` goes to the pool of port `p` (R538). -/
def Device.giveBack (d : Device) (p : Fin 2) (n : Fin 16) : Device :=
  (d.wr (Reg.ptDmaPool p) (d.rd (Reg.ptDmaPool p) + d.rd (Reg.dmaBalance n))).wr (Reg.dmaBalance n) 0

/-- An unbind takes effect on one slot: binding ends, grant revoked, chuck closed, requests discarded, job ended; the
sweep begins at once when the slot is ON and no capture reads it (R470, R471, R456, R491). The channel that member 0 serves stops, and
returns its balance (R538, R549). -/
def Device.startSweep (d : Device) (n : Fin 16) (cid : Option Nat) : Device :=
  let d := match (d.slot n).binding with
    | some (p, _) => if (d.slot n).gmember = 0 then d.giveBack p n else d
    | none => d
  let d := ((d.revokeGrant n).abortJobOf n).discardRequests n
  let d := d.modSlot n fun s => { s with
    st := .sweeping, binding := none, checked := false, strobe := 0, sweepCmd := cid, sweepTry := 0 }
  if (d.slot n).power = .on ∧ !d.captureReading n then d.sweepZero n else d

/-- A slot's sweep ends its verification read (R472): `bad` says that a bit read 1. The first failure repeats the sweep; the second ends
it with SLC_FAULT.SWEEP and 0x49, which SLC_REQ_STATUS.RESULT shows too (R469). The window of an EMPTY slot's VCCIO_n ends (R92). -/
def Device.sweepDone (d : Device) (n : Fin 16) (bad : Bool) : Device :=
  let s := d.slot n
  if s.st ≠ .sweeping ∨ s.power ≠ .on ∨ d.captureReading n then d
  else
    let d := d.sweepZero n
    if bad ∧ s.sweepTry = 0 then d.modSlot n fun s => { s with sweepTry := 1 }
    else
      let emptyOff := d.flag Fld.pwrCtlEmptyOff
      let d := d.modSlot n fun s => { s with st := .empty, sweepCmd := none, sweepTry := 0, emptyOff := emptyOff }
      let d := d.wr (Reg.slcFault n) (if bad then withBit (d.rd (Reg.slcFault n)) faultSweep true else 0)
      let d := (if bad then d.slotResult n 0x49 else d).setActive 7 d.ioOut
      match s.sweepCmd with
      | none => d
      | some c =>
        if allSlots.any fun m => (d.slot m).sweepCmd == some c then
          if bad then d.modCmd c fun x => { x with aux := 0x49 } else d
        else d.complete c (if bad || (match d.cmd c with | some x => x.aux == 0x49 | none => false) then 0x49 else 0) []

/-- Ticks occur: the generator runs and no tick loss is declared. -/
def Device.ticking (d : Device) : Bool := d.flag Fld.turnCtlRun && !d.flag Fld.turnStatusLost

/-! ### Binding and groups (R464, R474 to R478) -/

/-- Slots that were EMPTY are bound now: the window of each one's VCCIO_n applies from here on (R92), and a supply that is out is
detected (R91). -/
def Device.ioWatch (d : Device) (ms : List (Fin 16)) : Device :=
  let d := d.setActive 7 d.ioOut
  d.forSlots (ms.filter fun m => !d.fldBit Fld.safeSupplyVccioIn m) fun m d =>
    d.detectSlot 7 486 [(16 + m.val, 16)] m faultSupply

/-- Bind a slot, or every member of its unbound group, to a VF: the code, 0 where done (R464, R465, R472, R481). `anyVf` leaves out the
condition that the VF is enabled, as autoload does (R947). -/
def Device.bindGroup (d : Device) (n : Fin 16) (p : Fin 2) (v : Nat) (anyVf : Bool) : Nat × Device :=
  let ms := d.members n
  let d := match (d.slot n).binding with
    | some b => if b = (p, v) then d else d.raiseSlot n 10 []
    | none => d
  if ms.any fun m => (d.slot m).st != .empty || (match (d.slot m).pend5 with | some q => q.req == .unbind | none => false)
  then (0x40, d)
  else if ms.any fun m => bitOf (d.rd (Reg.slcFault m)) faultSweep then (0x44, d)
  else if !anyVf && !d.vfEnabled p v then (0x42, d)
  else if allSlots.any fun m => (d.slot m).binding == some (p, v) then (0x43, d)
  else (0, (d.forSlots ms fun m d =>
    (d.modSlot m fun s => { s with
      st := .bound, binding := some (p, v)
      bindOn := d.flag Fld.pwrCtlEmptyOff && s.power != .on }).grantSlot m p v).ioWatch ms)

/-- A code of the "Slot codes" table is the outcome of a request that names slot `n`: SLC_REQ_STATUS.RESULT shows it too (R469). -/
def Device.withResult (n : Fin 16) (r : Nat × Device) : Nat × Device := (r.1, r.2.slotResult n r.1)

/-- Bind a slot, with its RESULT. -/
def Device.bindSlot (d : Device) (n : Fin 16) (p : Fin 2) (v : Nat) (anyVf : Bool) : Nat × Device :=
  Device.withResult n (d.bindGroup n p v anyVf)

/-- Whether the slots of a kind and member 0 form a group of R23. -/
def groupShape (kind base : Nat) : Bool :=
  if kind = 1 then decide (base % 4 < 3)
  else if kind = 2 then decide (base < 12)
  else if kind = 3 then decide (base = 0) || decide (base = 2) || decide (base = 8) || decide (base = 10)
  else false

/-- A slot has a request pending at some tick position. -/
def Device.anyPending (d : Device) (n : Fin 16) : Bool :=
  let s := d.slot n
  s.pend5.isSome || s.swap.isSome || s.pend7.isSome || s.flrHold || d.capturing n || d.restoring n || d.resumeHolds n ||
    d.swapPend n

/-- Join slots into a group (R474). A member whose sweep failed is not bound by it (R472). -/
def Device.formGroup (d : Device) (kind : Nat) (base : Fin 16) : Nat × Device :=
  if !groupShape kind base then (0x45, d)
  else
    let ms := groupSlots kind base
    let bs := ms.filterMap fun m => (d.slot m).binding
    let d := match bs with
      | b :: _ => d.forSlots ms fun m d =>
          match (d.slot m).binding with
          | some x => if x = b then d else d.raiseSlot m 10 []
          | none => d
      | [] => d
    if ms.any fun m => (d.slot m).gkind != 0 then (0x46, d)
    else if ms.any fun m => (d.slot m).st == .running || (d.slot m).st == .faulted || (d.slot m).st == .sweeping then (0x46, d)
    else if bs.any fun b => some b != bs.head? then (0x46, d)
    else if ms.any fun m => d.anyPending m then (0x46, d)
    else if !bs.isEmpty && ms.any fun m => (d.slot m).st == .empty && bitOf (d.rd (Reg.slcFault m)) faultSweep then (0x44, d)
    else
      let fresh := ms.filter fun m => (d.slot m).st == .empty
      let d := (ms.zipIdx).foldl (fun d x => d.modSlot x.1 fun s => { s with gkind := kind, gmember := x.2 }) d
      match bs.head? with
      | none => (0, d)
      | some (p, v) => (0, (d.forSlots fresh fun m d =>
          (d.modSlot m fun s => { s with st := .bound, binding := some (p, v) }).grantSlot m p v).ioWatch fresh)

/-- Join slots into a group, with the RESULT of member 0's slot, which the command names. -/
def Device.joinGroup (d : Device) (kind : Nat) (base : Fin 16) : Nat × Device := Device.withResult base (d.formGroup kind base)

/-- Split the group of a slot (R477, R478). -/
def Device.breakGroup (d : Device) (n : Fin 16) : Nat × Device :=
  if (d.slot n).gkind = 0 then (0x45, d)
  else
    let ms := d.members n
    if ms.any fun m => (d.slot m).st == .running || (d.slot m).st == .sweeping || d.anyPending m then (0x46, d)
    else (0, d.forSlots ms fun m d =>
      let s := d.slot m
      if s.gmember = 0 ∨ s.st = .empty then
        d.modSlot m fun s => { s with gkind := 0, gmember := 0 }
      else d.modSlot m fun s => { s with gkind := 0, gmember := 0, pend5 := some ⟨.unbind, none, m⟩ })

/-- Split the group of a slot, with its RESULT. -/
def Device.splitGroup (d : Device) (n : Fin 16) : Nat × Device := Device.withResult n (d.breakGroup n)

/-- Request an unbind of a slot, or of every member of its group (R470, R473): the code, 0 where accepted. -/
def Device.askUnbind (d : Device) (n : Fin 16) (cid : Option Nat) : Nat × Device :=
  let st := (d.slot n).st
  if st = .sweeping ∨ (st = .empty ∧ !bitOf (d.rd (Reg.slcFault n)) faultSweep) then (0x41, d)
  else
    let ms := if st = .empty then [n] else (d.members n).filter fun m => (d.slot m).st != .empty && (d.slot m).st != .sweeping
    if ms.any fun m => (d.slot m).pend5.isSome then (0x83, d)
    else if !d.ticking && ms.all fun m => (d.slot m).st != .running then
      (0, d.forSlots ms fun m d => (d.modSlot m fun s => { s with power := .on }).startSweep m cid)
    else (0, d.forSlots ms fun m d => d.modSlot m fun s => { s with pend5 := some ⟨.unbind, cid, n⟩ })

/-- Request an unbind of a slot, with its RESULT. -/
def Device.requestUnbind (d : Device) (n : Fin 16) (cid : Option Nat) : Nat × Device := Device.withResult n (d.askUnbind n cid)

/-! ### Mailbox (R302 to R307, R488, R526 to R530) -/

/-- An access of the host window or a DMA chunk keeps the turn from being idle for the group (R903). -/
def Device.noteUse (d : Device) (n : Fin 16) : Device := d.modSlot (d.member0 n) fun s => { s with idleBreak := true }

/-- What ends an idle time calls for the wake of a group that is in RETAIN under AUTO_RETAIN (R905); a FAULTED slot stays there (R918). -/
def Device.autoWake (d : Device) (n : Fin 16) : Device :=
  if d.flag (Fld.pwrSlotAutoRetain n) ∧ ((d.members n).any fun m => (d.slot m).power == .retain && (d.slot m).st != .faulted) then
    (d.setFlag (Fld.pwrSlotWakePend n) true).modSlot n fun s => { s with wakeAuto := true }
  else d

/-- The slot's host push: MB_IN_STAGE as it stands is pushed where the inbound total is below 64 (R304, R526); a push to a
slot in RETAIN with AUTO_RETAIN wakes it (R905). -/
def Device.mbPush (d : Device) (n : Fin 16) : Device :=
  let s := d.slot n
  if s.mb.inq.length ≥ 64 then d.setFlag (Fld.mbFlagsInOvf n) true
  else
    let e := (List.range 16).foldl (fun a k => a + d.rd (Reg.mbInStage n k) * 2 ^ (32 * k)) 0
    (d.modSlot n fun s => { s with mb := { s.mb with inq := s.mb.inq ++ [BitVec.ofNat 512 e] }, idleBreak := true }).autoWake n

/-- The host pops the oldest visible outbound entry (R304, R527). -/
def Device.mbPop (d : Device) (n : Fin 16) : Device :=
  let s := d.slot n
  if s.mb.outVis = 0 then d.setFlag (Fld.mbFlagsOutUnf n) true
  else d.modSlot n fun s => { s with mb := { s.mb with outq := s.mb.outq.drop 1, outVis := s.mb.outVis - 1 } }

/-- The fabric pops the inbound head (R304, R528, R529); `hostPush` says that a host push is served at the same
instant, so that the total does not fall. -/
def Device.fabricPop (d : Device) (n : Fin 16) (hostPush : Bool) : Device :=
  let s := d.slot n
  if s.mb.inVis = 0 then
    let d := d.setFlag (Fld.mbFlagsInUnf n) true
    if hostPush then d.mbPush n else d
  else
    let was := s.mb.inq.length
    let d := d.modSlot n fun s => { s with mb := { s.mb with inq := s.mb.inq.drop 1, inVis := s.mb.inVis - 1 } }
    let d := if hostPush then d.mbPush n else d
    let level := d.fld (Fld.mbInLowwaterLevel n)
    if level < was ∧ (d.slot n).mb.inq.length ≤ level then d.raiseSlot n 0 [] else d

/-- The fabric pushes a copy of the outbound staging entry (R304, R528). -/
def Device.fabricPush (d : Device) (n : Fin 16) : Device :=
  let s := d.slot n
  if s.mb.outq.length ≥ 64 then d.setFlag (Fld.mbFlagsOutOvf n) true
  else d.modSlot n fun s => { s with mb := { s.mb with outq := s.mb.outq ++ [s.mb.outStage] }, idleBreak := true }

/-- OUT_WE: word `w` of the outbound staging entry takes OUT_DATA (R488 step 1). -/
def Device.outWrite (d : Device) (n : Fin 16) (w data : Nat) : Device :=
  d.modSlot n fun s => { s with mb := { s.mb with
    outStage := BitVec.ofNat 512 (withBits s.mb.outStage.toNat (16 * (w % 32)) 16 data) } }

/-- IN_DATA: word `inWidx` of the inbound head, 0 while nothing is visible (R488 step 4). -/
def Mailbox.inData (m : Mailbox) : Nat :=
  if m.inVis = 0 then 0 else bitsOf ((m.inq.headD 0).toNat) (16 * m.inWidx.toNat) 16

end Sys2Proof.Machine
end

