-- ==== Sys2Proof/Machine/Image.lean ====
section
/-! DEFINITION. Syrum images (chapter 09): the container checks of R355 and R1026 and the frame content checks of R357. -/

namespace Sys2Proof.Machine

/-! ### Header and section table -/

/-- A section: type, flags, offset and length. -/
structure Sect where
  ty    : Nat
  flags : Nat
  off   : Nat
  len   : Nat
  deriving DecidableEq, Repr

/-- All of the listed bytes are 0. -/
def zeros (b : List Byte) (o n : Nat) : Bool := ((b.drop o).take n).all (· == 0)

/-- Members of an image class. -/
def classMembers (c : Nat) : Nat := if c = 1 then 1 else if c = 4 then 4 else 2

/-- Header fields. -/
def imgClass (h : List Byte) : Nat := leAt h 0x08 1
def imgRoute (h : List Byte) : Nat := leAt h 0x09 1
def imgClockMask (h : List Byte) : Nat := leAt h 0x0A 2
def imgSec (h : List Byte) : Nat := leAt h 0x0C 4
def imgTotal (h : List Byte) : Nat := leAt h 0x18 4
def imgSectOff (h : List Byte) : Nat := leAt h 0x1C 4
def imgSectCount (h : List Byte) : Nat := leAt h 0x20 2
def imgHash (h : List Byte) : List Byte := (h.drop 0x30).take 48
def imgSigner (h : List Byte) : Nat := leAt h 0x60 1
/-- ENCRYPTED of SEC_BITS. -/
def imgEncrypted (h : List Byte) : Bool := bitOf (imgSec h) 4

/-- Checks 0x01 to 0x04 over the header and the length the command gives. -/
def headerCode (h : List Byte) (len : Nat) : Nat :=
  if leAt h 0 4 ≠ 0x494E4447 then 0x01
  else if leAt h 4 1 ≠ 1 ∨ leAt h 6 2 ≠ 256 then 0x02
  else if leAt h 0xFC 4 ≠ crc32c (h.take 0xFC) then 0x03
  else if len < imgTotal h ∨ imgTotal h < 256 then 0x04
  else 0

/-- The targets form one group of the class (R23, R32). -/
def placementOk (cls : Nat) (ts : List (Fin 16)) : Bool :=
  match ts with
  | [] => false
  | b :: _ =>
    if cls = 1 then ts.length == 1
    else groupShape (cls - 1) b.val && ts == groupSlots (cls - 1) b.val

/-- Checks 0x05 to 0x07. -/
def headerFieldCode (h : List Byte) (ts : List (Fin 16)) : Nat :=
  let c := imgClass h
  if c = 0 ∨ 4 < c ∨ 1 < imgRoute h ∨ imgSigner h = 0 ∨ 2 < imgSigner h ∨ imgSectCount h < 5 ∨ 16 < imgSectCount h ∨
      !(zeros h 0x11 7 && zeros h 0x22 2 && zeros h 0x61 7 && zeros h 0x88 116) ∨ imgSec h / 32 ≠ 0 ∨
      imgClockMask h / 2 ^ (4 * classMembers c) ≠ 0 then 0x05
  else if leAt h 0x10 1 ≠ 0 ∧ 0xA1 < leAt h 0x10 1 then 0x06
  else if !placementOk c ts then 0x07
  else 0

/-- Entry `i` of a section table. -/
def sectAt (tab : List Byte) (i : Nat) : Sect := ⟨leAt tab (16 * i) 2, leAt tab (16 * i + 2) 2, leAt tab (16 * i + 4) 4, leAt tab (16 * i + 8) 4⟩

/-- The section of a type. -/
def findSect (ss : List Sect) (ty : Nat) : Option Sect := ss.find? fun s => s.ty = ty

/-- Two byte ranges overlap. -/
def overlaps (a n b m : Nat) : Bool := decide (0 < n) && decide (0 < m) && decide (a < b + m) && decide (b < a + n)

/-- The rules of R333 and R334 that concern the table alone. -/
def tableOk (h tab : List Byte) : Bool :=
  let n := imgSectCount h
  let ss := (List.range n).map (sectAt tab)
  let enc := imgEncrypted h
  let j := classMembers (imgClass h)
  decide (imgSectOff h % 8 = 0) && decide (256 ≤ imgSectOff h) && decide (imgSectOff h + 16 * n ≤ imgTotal h) &&
  (List.range n).all (fun i => zeros tab (16 * i + 12) 4) &&
  ss.all (fun s => decide (s.flags ≤ 1) && ((decide (1 ≤ s.ty) && decide (s.ty ≤ 7)) || decide (0x8000 ≤ s.ty)) &&
    decide (s.off % 8 = 0) && decide (s.off + s.len ≤ imgTotal h) &&
    !overlaps 0 256 s.off s.len && !overlaps (imgSectOff h) (16 * n) s.off s.len &&
    (s.flags == 1) == (enc && (s.ty == 1 || s.ty == 2))) &&
  (ss.map (·.ty)).eraseDups.length == n &&
  (ss.zipIdx).all (fun a => (ss.zipIdx).all fun b => a.2 == b.2 || !overlaps a.1.off a.1.len b.1.off b.1.len) &&
  ([1, 3, 4, 5, 7] : List Nat).all (fun t => (findSect ss t).isSome) && ((findSect ss 6).isSome == enc) &&
  (match findSect ss 7 with
   | some g => decide (g.off + g.len = imgTotal h) && ss.all fun s => s.ty == 7 || decide (s.off < g.off)
   | none => false) &&
  ss.all fun s =>
    if s.ty = 3 then s.len == 80 * j
    else if s.ty = 4 then s.len == 16 * j
    else if s.ty = 5 then s.len == 8 + 32 * j
    else if s.ty = 7 then s.len == (if imgSigner h = 1 then 200 else 408)
    else if s.ty = 6 then decide (1 ≤ s.len) else true

/-- An image read whole, with its section table. -/
structure Img where
  bytes : List Byte
  sects : List Sect
  deriving DecidableEq, Repr

/-- Body of a section type, empty where absent. -/
def Img.body (m : Img) (ty : Nat) : List Byte :=
  match findSect m.sects ty with
  | some s => (m.bytes.drop s.off).take s.len
  | none => []

/-- The rules of check 0x08 that concern the ENVELOPE and SIGNATURE bodies (R350, R353). -/
def Img.bodiesOk (m : Img) : Bool :=
  let e := m.body 6
  let n := leAt e 0 1
  let envOk := !imgEncrypted m.bytes ||
    (decide (1 ≤ n) && decide (n ≤ 16) && e.length == 32 + 176 * n && zeros e 1 3 &&
      (List.range n).all fun r => zeros e (204 + 176 * r) 4)
  let g := m.body 7
  envOk && zeros g 1 7 && (imgSigner m.bytes == 1 || zeros g 305 7)

/-- Checks 0x09 to 0x0D (R354, R355, R772, R784). -/
def Device.signerCode (d : Device) (m : Img) : Nat :=
  let g := m.body 7
  let kind := imgSigner m.bytes
  let pub := (g.drop 8).take 96
  let op := if kind = 1 then pub else (g.drop 200).take 96
  let sec := imgSec m.bytes
  let off := match findSect m.sects 7 with | some s => s.off | none => 0
  if !imgEncrypted m.bytes && d.lockBit 3 then 0x09
  else if !d.opKeyed then 0x0A
  else if leAt g 0 1 ≠ kind ∨ padTo 48 (Config.sha384 op) ≠ d.opHash then 0x0B
  else if kind = 2 ∧ !(Config.ecdsaVerify op (pub ++ (g.drop 296).take 16) ((g.drop 312).take 96) &&
      decide (d.minEndorse ≤ leAt g 296 4) && Nat.land sec (leAt g 300 4) == leAt g 300 4 &&
      bitOf (leAt g 304 1) (imgClass m.bytes - 1)) then 0x0C
  else if !Config.ecdsaVerify pub (m.bytes.take off) ((g.drop 104).take 96) then 0x0D
  else 0

/-- The recipient entry the device uses: the first with its KEY_ID (R352). -/
def Device.recipient (d : Device) (m : Img) : Option Nat :=
  let e := m.body 6
  if d.hasKak then firstIdx (leAt e 0 1) fun r => (e.drop (32 + 176 * r)).take 16 == d.keyId else none

/-- Checks 0x0E and 0x0F: the content key of an encrypted image, empty for a plain one (R351, R352, R367). -/
def Device.contentKey (d : Device) (m : Img) : Nat × List Byte :=
  if !imgEncrypted m.bytes then (0, [])
  else
    match d.recipient m with
    | none => (0x0E, [])
    | some r =>
      let e := (m.body 6).drop (32 + 176 * r)
      match gcmOpen (d.kek ((e.drop 16).take 96) "GDNI-KEK" (imgHash m.bytes)) ((e.drop 112).take 12) d.keyId
          ((e.drop 124).take 32) ((e.drop 156).take 16) with
      | some k => (0, padTo 32 k)
      | none => (0x0F, [])

/-! ### Bodies of the second pass -/

/-- The plaintext FABRIC and BLOCK_INIT bodies (R349); BLOCK_INIT is none where the image has none. -/
def Img.plain (m : Img) (key : List Byte) : List Byte × Option (List Byte) :=
  let f := m.body 1
  let b := m.body 2
  let has := (findSect m.sects 2).isSome
  if imgEncrypted m.bytes then
    let t := padTo (f.length + b.length) (Config.gcmCtr key (((m.body 6).drop 4).take 12) (f ++ b))
    (t.take f.length, if has then some (t.drop f.length) else none)
  else (f, if has then some b else none)

/-- The tag of the encrypted payload verifies (check 0x12). -/
def Img.tagOk (m : Img) (key : List Byte) : Bool :=
  !imgEncrypted m.bytes ||
    padTo 16 (Config.gcmTag key (((m.body 6).drop 4).take 12) (m.bytes.take 0x60) (m.body 1 ++ m.body 2)) ==
      ((m.body 6).drop 16).take 16

/-- The string that IMAGE_HASH covers (R347). -/
def Img.hashed (m : Img) (fabric : List Byte) (block : Option (List Byte)) : List Byte :=
  let part := fun (ty : Nat) (b : List Byte) => leBytes 4 ty ++ leBytes 4 b.length ++ b
  (m.bytes.drop 8).take 8 ++ part 1 fabric ++ (match block with | some b => part 2 b | none => []) ++
    part 3 (m.body 3) ++ part 4 (m.body 4)

/-- FABRIC head and LENGTH are right (R335). -/
def fabricHeadOk (f : List Byte) : Bool :=
  decide (8 ≤ f.length) && decide (1 ≤ leAt f 0 4) && zeros f 4 4 && f.length == 8 + 68 * leAt f 0 4

/-- A frame record: image frame address and 64 data bytes. -/
structure FrameRec where
  addr : Nat
  data : List Byte
  deriving DecidableEq, Repr

def FrameRec.member (r : FrameRec) : Nat := bitsOf r.addr 23 4
def FrameRec.region (r : FrameRec) : Nat := bitsOf r.addr 18 4
def FrameRec.block (r : FrameRec) : Nat := bitsOf r.addr 10 8
def FrameRec.frame (r : FrameRec) : Nat := r.addr % 1024

/-- A frame record may stand in an image of `n` members (R336, R338). -/
def FrameRec.ok (n : Nat) (r : FrameRec) : Bool :=
  r.addr / 2 ^ 27 == 0 && decide (r.member < n) && !bitOf r.addr 22 && frameImage r.region r.block r.frame

/-- The records of a FABRIC body. -/
def fabricRecs (f : List Byte) : List FrameRec :=
  (List.range (leAt f 0 4)).map fun k => ⟨leAt f (8 + 68 * k) 4, (f.drop (12 + 68 * k)).take 64⟩

/-- The records in order up to the first that breaks R336 or R338, and the bound below which frames have been written
when the loader meets it: none where every record is right (R1026). -/
def goodRecs (n : Nat) : List FrameRec → Nat → List FrameRec × Option Nat
  | [], _ => ([], none)
  | r :: t, floor =>
    if r.ok n && decide (floor ≤ r.addr) then
      let (g, b) := goodRecs n t (r.addr + 1)
      (r :: g, b)
    else ([], some (max floor r.addr))

/-- A BLOCK_INIT entry. -/
structure BlockEnt where
  member : Nat
  mem    : Nat
  off    : Nat
  data   : List Byte
  deriving DecidableEq, Repr

/-- The entries of a BLOCK_INIT body from offset `o`, `floor` being the lowest raw place the next may cover; none where a
rule of R340 is broken. -/
def blockEnts (n : Nat) (b : List Byte) : Nat → Nat → Nat → Option (List BlockEnt)
  | 0, o, _ => if o = b.length then some [] else none
  | k + 1, o, floor =>
    let m := leAt b o 1
    let mem := leAt b (o + 1) 1
    let off := leAt b (o + 4) 2
    let len := leAt b (o + 6) 2
    let pad := (len + 7) / 8 * 8
    let key := (m * 16 + mem) * 8192 + off
    if o + 8 + pad ≤ b.length ∧ m < n ∧ mem < 16 ∧ zeros b (o + 2) 2 ∧ 1 ≤ len ∧ off + len ≤ 4608 ∧ floor ≤ key ∧
        zeros b (o + 8 + len) (pad - len) then
      (blockEnts n b k (o + 8 + pad) (key + len)).map (⟨m, mem, off, (b.drop (o + 8)).take len⟩ :: ·)
    else none

/-- The entries of a whole BLOCK_INIT body (check 0x11). -/
def blockInit (n : Nat) (b : List Byte) : Option (List BlockEnt) :=
  if 8 ≤ b.length ∧ zeros b 4 4 then blockEnts n b (leAt b 0 4) 8 0 else none

/-! ### Frame content checks (R357, R415) over a plane as written -/

/-- CK_N, CK_M + 1 of an output of a plane. -/
def Device.ckN (d : Device) (n p i : Nat) : Nat := d.cfg n p 5 0 (16 * i) 8
def Device.ckM (d : Device) (n p i : Nat) : Nat := d.cfg n p 5 0 (16 * i + 8) 6 + 1
/-- An output is enabled above `mhz`. -/
def Device.clkAbove (d : Device) (n p i mhz : Nat) : Bool :=
  bitOf (d.clkEn n p) i && decide (mhz * d.ckM n p i < 100 * d.ckN n p i)
/-- The ratio of an output lies in its range (R177, R178). -/
def Device.ckOk (d : Device) (n p i : Nat) : Bool :=
  decide (1 ≤ d.ckN n p i) && decide (d.ckN n p i ≤ 250) && decide (d.ckM n p i ≤ 4 * d.ckN n p i) &&
    decide (d.ckN n p i ≤ 10 * d.ckM n p i)

/-- A block memory configuration field of a plane. -/
def Device.bmCfg (d : Device) (n p b lo w : Nat) : Nat := d.cfg n p 3 b lo w

/-- The output register of a port (0 A, 1 B) of a block memory acts under a plane (R205, R215). -/
def Device.bmOreg (d : Device) (n p b port : Nat) : Bool := d.bmCfg n p b (13 + port) 1 == 1 && d.bmCfg n p b 1 2 != 2

/-- Capacity of a FIFO by ASPECT_A, 0 where refused (R215). -/
def fifoCap (aspect : Nat) : Nat := if aspect = 3 then 4096 else if aspect = 4 then 2048 else if aspect = 5 then 1024 else 0

/-- The configuration of a block memory in use keeps every rule the loader judges (R199, R208, R215, R219, R224). -/
def Device.bmGood (d : Device) (n p b : Nat) : Bool :=
  let mode := d.bmCfg n p b 1 2
  let hv := d.bmCfg n p b 20 1 == 1
  let a := d.bmCfg n p b 3 3
  let pa := d.bmCfg n p b 15 2
  let pb := d.bmCfg n p b 17 2
  let ae := d.bmCfg n p b 21 13
  let af := d.bmCfg n p b 34 13
  mode != 3 && (d.bmCfg n p b 19 1 == 0 || mode == 1) && (!hv || mode == 0) &&
  (mode != 0 || (decide (a ≤ 5) && (hv || decide (d.bmCfg n p b 6 3 ≤ 5)))) &&
  (mode != 2 || (fifoCap a != 0 && pa == pb && decide (1 ≤ ae) && decide (ae < fifoCap a) && decide (1 ≤ af) &&
    decide (af < fifoCap a))) &&
  !d.clkAbove n p pa 800 && (hv || !d.clkAbove n p pb 800)

/-- TURN_CLKSEL of a plane. -/
def Device.turnClksel (d : Device) (n p : Nat) : Nat := d.cfg n p 7 0 1 2
/-- A per-pair field of a plane. -/
def Device.pairCfg (d : Device) (n p k lo w : Nat) : Nat := d.cfg n p 6 0 (1024 + 8 * k + lo) w
/-- BANK_VCLASS of a plane. -/
def Device.bankClass (d : Device) (n p : Nat) : Nat := d.cfg n p 6 0 1152 2

/-- The I/O configuration of a plane keeps R244, R245 and R254. -/
def Device.ioGood (d : Device) (n p : Nat) : Bool :=
  let vc := d.bankClass n p
  let gm := d.gckMode n p
  let pins := List.range 32
  let pairs := List.range 16
  let lvds := pairs.any fun k => d.pairMode n p k == 1 || d.pairMode n p k == 2
  gm != 3 && pins.all (fun i => d.pinCfg n p i 1 2 != 3) && pairs.all (fun k => d.pairMode n p k != 3) &&
  !(vc == 0 && (lvds || pins.any fun i => d.pinCfg n p i 0 1 == 1)) && !(vc != 3 && (lvds || gm == 1)) &&
  pairs.all fun k =>
    let ck := d.pairCfg n p k 4 3
    d.pairCfg n p k 3 1 == 0 ||
      (d.pairMode n p k != 0 && decide (ck ≤ 5) &&
        (if ck < 4 then bitOf (d.clkEn n p) ck && !d.clkAbove n p ck 625 &&
            (d.pairMode n p k != 1 || !d.clkAbove n p ck 400)
          else d.pairMode n p k != 2 && gm != 2 && !(ck == 5 && gm == 1) && !(vc == 0)))

/-- The code of the frame content checks over the members' planes, 0 where all pass. -/
def Device.contentCode (d : Device) (ms : List (Fin 16)) : Nat :=
  if ms.any fun n => (List.range 16).any fun b =>
      d.bmCfg n (d.inact n) b 0 1 == 1 && !d.bmGood n (d.inact n) b then 0x21
  else if ms.any fun n => ((List.range 4).any fun i => bitOf (d.clkEn n (d.inact n)) i && !d.ckOk n (d.inact n) i) ||
      !bitOf (d.clkEn n (d.inact n)) (d.turnClksel n (d.inact n)) then 0x22
  else if ms.any fun n => !d.ioGood n (d.inact n) then 0x23
  else if ms.any fun n => d.bankClass n (d.inact n) != 0 &&
      d.bankClass n (d.inact n) != d.fld (Fld.safeVccioClassClass n) then 0x24
  else 0

/-! ### Declarations against the frames as written -/

/-- Bits of a per-wire field of an edge, `w` bits per wire (R388). -/
def Device.wireBits (d : Device) (n p block lo w : Nat) : Nat :=
  (List.range 64).foldl (fun a j => a + d.cfg n p 4 block (16 * j + lo) w * 2 ^ (w * j)) 0

/-- The CHUCK record of member `m` agrees with the frames of slot `n` (R342, R343; check 0x14). -/
def Device.chuckDeclOk (d : Device) (cls m : Nat) (n : Fin 16) (r : List Byte) : Bool :=
  let p := d.inact n
  let pins := List.range 32
  let used := ofBits (pins.map fun i => d.pinCfg n p i 0 1 == 1)
  let out := ofBits (pins.map fun i => d.pinOut n p i)
  let safe := pins.foldl (fun a i => a + d.pinCfg n p i 30 2 * 2 ^ (2 * i)) 0
  let hasH := cls == 2 || cls == 4
  let hasV := cls == 3 || cls == 4
  leAt r 0 1 == m && leAt r 1 1 == d.bankClass n p && leAt r 2 1 == d.gckMode n p && zeros r 3 1 && zeros r 12 4 &&
  zeros r 72 8 && leAt r 4 4 == used && leAt r 8 4 == out && leAt r 16 8 == safe &&
  leAt r 24 8 == d.wireBits n p 0 11 1 && leAt r 32 8 == d.wireBits n p 1 11 1 &&
  leAt r 40 16 == d.wireBits n p 0 12 2 && leAt r 56 16 == d.wireBits n p 1 12 2 &&
  pins.all (fun i => bitOf used i || (!bitOf out i && bitsOf safe (2 * i) 2 == 0)) &&
  (hasH || (leAt r 24 8 == 0 && leAt r 40 16 == 0)) && (hasV || (leAt r 32 8 == 0 && leAt r 56 16 == 0))

/-- The CLOCKS entries of member `m` agree with the frames and CLOCK_MASK (R330, R344; check 0x15). -/
def Device.clocksDeclOk (d : Device) (mask m : Nat) (n : Fin 16) (c : List Byte) : Bool :=
  let p := d.inact n
  (List.range 4).all fun i =>
    let e := (c.drop (16 * m + 4 * i)).take 4
    let en := natOf (bitOf (d.clkEn n p) i)
    leAt e 0 1 == en && leAt e 1 1 == d.ckN n p i && leAt e 2 1 == d.ckM n p i - 1 && leAt e 3 1 == 0 &&
      (en == 1 || leAt e 0 4 == 0) && natOf (bitOf mask (4 * m + i)) == en

/-- The TIMING entries keep R345 and R346 (check 0x16), with N and M of the CLOCKS section. -/
def timingOk (members : Nat) (t c : List Byte) : Bool :=
  zeros t 4 4 && (List.range (4 * members)).all fun k =>
    let e := (t.drop (8 + 8 * k)).take 8
    let ck := (c.drop (4 * k)).take 4
    let req := leAt e 0 4
    let wc := leAt e 4 1
    zeros e 5 3 && (decide (wc ≤ 4) || wc == 0xFF) && ((wc == 0xFF) == (req == 0)) &&
      (if leAt ck 0 1 = 0 then req == 0 && wc == 0xFF else decide (req * leAt ck 1 1 ≤ 10000 * (leAt ck 2 1 + 1)))

end Sys2Proof.Machine
end

