-- ==== Sys2Proof/Machine/Loader.lean ====
section
/-! DEFINITION. The loader (chapter 11): job queue, LOAD, RESEED, READBACK, scrub. -/

namespace Sys2Proof.Machine

/-! ### Job queue (R410, R1028) -/

/-- A write of LDR_JQ_PUSH pushes the job at the ring's tail. -/
def Device.jqPush (d : Device) : Device :=
  let n := d.fld Fld.ldrJqStatusDepth
  if n ≥ 16 then d.setFlag Fld.ldrJqStatusOverflow true
  else (d.setFld Fld.ldrJqStatusDepth (n + 1)).setFlag Fld.ldrJqStatusFull (decide (n + 1 = 16))

/-- Ring index of the next entry to be pushed. -/
def Device.jqTail (d : Device) : Nat := (d.loader.jqHead + d.fld Fld.ldrJqStatusDepth) % 16

/-- Internal address of job ring entry `i`. -/
def Device.jqAddr (d : Device) (i : Nat) : Nat := benchBase + d.fld Fld.ldrJqBaseBase * 64 + 64 * i

/-- Pop the job at the ring's head. -/
def Device.jqPop (d : Device) : Device :=
  let n := d.fld Fld.ldrJqStatusDepth
  if n = 0 then d.setFlag Fld.ldrJqStatusUnderflow true
  else
    let d := (d.setFld Fld.ldrJqStatusDepth (n - 1)).setFlag Fld.ldrJqStatusFull false
    { d with loader := { d.loader with jqHead := (d.loader.jqHead + 1) % 16 } }

/-- Read entry `i` of the job ring; none where the read completes with a response other than GOOD: the ring leaves Bench memory, Bench
memory is not ready, or a word is uncorrectable (R1028, R627, R630). -/
def Device.jqRead (d : Device) (i : Nat) : Option (List Byte) × Device :=
  if d.flag Fld.devReadyBench && inBench (d.jqAddr i) 64 then d.benchRead (d.jqAddr i - benchBase) 64 else (none, d)

/-- Another job that waits in the queue names slot `n` (R417). -/
def Device.jobWaits (d : Device) (n : Fin 16) : Bool :=
  (List.range (d.fld Fld.ldrJqStatusDepth)).any fun k =>
    let i := (d.loader.jqHead + k) % 16
    !(d.loader.aborts.contains i) &&
      match (d.jqRead i).1 with
      | some e => bitOf (leAt e 2 2) n.val
      | none => false

/-- The loader takes each line that holds bytes `[off, off + n)` of Bench memory in state S (R411, R617). -/
def Device.loaderLines (d : Device) (off n : Nat) : Option (List Byte) × Device :=
  (List.range ((off + n - 1) / 64 + 1 - off / 64)).foldl (fun (r : Option (List Byte) × Device) i =>
    let l := off / 64 + i
    match r.1 with
    | none => r
    | some bs =>
      match r.2.benchServe l 1 .getS with
      | (some v, d) =>
        (some (bs ++ (List.range 64).filterMap fun k =>
          if off ≤ 64 * l + k ∧ 64 * l + k < off + n then some (BitVec.ofNat 8 (bitsOf v.toNat (8 * k) 8)) else none), d)
      | (none, d) => (none, d)) (some [], d)

/-- Read `n` source bytes at an internal address: SRC_KIND 0 Bench memory, 1 resident store (R413, R359). None where a response is not
GOOD. -/
def Device.srcRead (d : Device) (kind addr n : Nat) : Option (List Byte) × Device :=
  if kind = 0 then
    if d.flag Fld.devReadyBench && inBench addr n then d.loaderLines (addr - benchBase) n else (none, d)
  else if d.flag Fld.devReadyResident && decide (addr + n ≤ 0x2000000) then d.resRead addr n
  else (none, d)

/-! ### LOAD (R412 to R416, R1026) -/

/-- The target conditions of R412 for one slot; `n`'s own job is not yet in progress. -/
def Device.loadTarget (d : Device) (n : Fin 16) : Bool :=
  let s := d.slot n
  (s.st == .bound || s.st == .loaded || s.st == .running || s.st == .held || s.st == .faulted) && s.power == .on &&
    !d.swapPend n && s.trial.isNone

/-- The first pass (R355, R356, R1025): the code, the image and its content key. -/
def Device.firstPass (d : Device) (kind addr len : Nat) (ts : List (Fin 16)) : Nat × Img × List Byte × Device :=
  let none_ : Img := ⟨[], []⟩
  if len < 256 then (0x04, none_, [], d)
  else
    match d.srcRead kind addr 256 with
    | (none, d) => (0x20, none_, [], d)
    | (some h, d) =>
      if headerCode h len ≠ 0 then (headerCode h len, none_, [], d)
      else if headerFieldCode h ts ≠ 0 then (headerFieldCode h ts, none_, [], d)
      else if imgTotal h < imgSectOff h + 16 * imgSectCount h then (0x08, none_, [], d)
      else
        match d.srcRead kind (addr + imgSectOff h) (16 * imgSectCount h) with
        | (none, d) => (0x20, none_, [], d)
        | (some tab, d) =>
          if !tableOk h tab then (0x08, none_, [], d)
          else
            match d.srcRead kind addr (imgTotal h) with
            | (none, d) => (0x20, none_, [], d)
            | (some b, d) =>
              let m : Img := ⟨b, (List.range (imgSectCount h)).map (sectAt tab)⟩
              if !m.bodiesOk then (0x08, m, [], d)
              else if d.signerCode m ≠ 0 then (d.signerCode m, m, [], d)
              else
                let (c, key) := d.contentKey m
                (c, m, key, if c = 0x0F then d.raise 469 [] else d)

/-- Step 3: the descriptor of a member's inactive plane with VALID 0, and its signer ID (R413, R771). A scrub pass over that plane ends
(R447). -/
def Device.writeDescriptor (d : Device) (m : Img) (k : Nat) (n : Fin 16) : Device :=
  let h := m.bytes
  let data := imgHash h ++ leBytes 4 (imgSec h) ++ leBytes 1 (imgClass h) ++ leBytes 1 k ++ List.replicate 10 (0 : Byte)
  let p := d.inact n
  let d := (d.setFrame (descBase n p) data).setBytes (keySigner n p) (signerId (((m.body 7).drop 8).take 96))
  if (d.loader.scrub[n]).inactive then d.setScrub n ⟨false, 0, 0⟩ else d

/-- Offset in a plane below which every present frame has an image frame address below `bound` of member `k`. -/
def boundOffset (k : Nat) (bound : Option Nat) : Nat :=
  let last := frameOffset 7 1 0
  match bound with
  | none => last
  | some b =>
    if (k + 1) * 2 ^ 23 ≤ b then last
    else if b ≤ k * 2 ^ 23 then 0
    else
      match presentFrames.find? fun x => decide (b ≤ frameAddr k 0 x.1 x.2.1 x.2.2) with
      | some x => min last (frameOffset x.1 x.2.1 x.2.2)
      | none => last

/-- Rewrite the check bytes of the content words of block memory `b` that hold raw bytes `[off, off + len)`. -/
def Device.recheckContent (d : Device) (n p b off len : Nat) : Device :=
  iter ((off + len - 1) / 8 - off / 8 + 1) (fun i d =>
    let w := off / 8 + i
    let fb := frameBase n p 3 b (4 + w / 8)
    d.setFrameWord fb (w % 8) (d.frameWord fb (w % 8))) d

/-- Step 4 for one member: zeros, FABRIC records, BLOCK_INIT content and ROUTE_MODE of every frame below the bound, each word with its
check byte (R399), and the chuck declaration latch (R331, R337 to R341, R413, R480). -/
def Device.writeMember (d : Device) (m : Img) (k : Nat) (n : Fin 16) (recs : List FrameRec) (ents : List BlockEnt)
    (bound : Option Nat) : Device :=
  let p := d.inact n
  let lim := boundOffset k bound
  let d := d.clearMem (planeBase n p) lim
  let d := (recs.filter fun r => r.member == k).foldl (fun d r =>
    d.setFrame (frameBase n p r.region r.block r.frame) r.data) d
  let d := (ents.filter fun e => e.member == k).foldl (fun d e =>
    let kept := (e.data.zipIdx).filter fun x => decide (frameOffset 3 e.mem (4 + (e.off + x.2) / 64) < lim)
    let d := kept.foldl (fun d x =>
      d.setByte (frameBase n p 3 e.mem (4 + (e.off + x.2) / 64) + (e.off + x.2) % 64) x.1) d
    if kept.isEmpty then d else d.recheckContent n p e.mem e.off kept.length) d
  let d := d.setBytes (keyChuck n p) (((m.body 3).drop (80 * k)).take 80)
  if frameOffset 7 0 0 < lim then
    d.setFrameWord (frameBase n p 7 0 0) 0 (withBits (d.frameWord (frameBase n p 7 0 0) 0) 0 1 (imgRoute m.bytes))
  else d

/-- The second pass (R413 step 4, R1026): its code. -/
def Device.secondPass (d : Device) (m : Img) (key : List Byte) (ts : List (Fin 16)) : Nat × Device :=
  let j := classMembers (imgClass m.bytes)
  let (fab, blk) := m.plain key
  if !fabricHeadOk fab then (0x10, d)
  else
    match (match blk with | some b => blockInit j b | none => some []) with
    | none => (0x11, d)
    | some ents =>
      let (recs, bound) := goodRecs j (fabricRecs fab) 0
      let d := ts.zipIdx.foldl (fun d x => d.writeMember m x.2 x.1 recs ents bound) d
      if bound.isSome then (0x10, d)
      else if !m.tagOk key then (0x12, d)
      else if padTo 48 (Config.sha384 (m.hashed fab blk)) ≠ imgHash m.bytes then (0x13, d)
      else if !(ts.zipIdx).all fun x => d.chuckDeclOk (imgClass m.bytes) x.2 x.1 ((m.body 3).drop (80 * x.2)) then (0x14, d)
      else if !(ts.zipIdx).all fun x => d.clocksDeclOk (imgClockMask m.bytes) x.2 x.1 (m.body 4) then (0x15, d)
      else if !timingOk j (m.body 5) (m.body 4) then (0x16, d)
      else (0, d)

/-- End a failed LOAD: the load error event of every target and the code (R355, R414). -/
def Device.loadFail (d : Device) (ts : List (Fin 16)) (code : Nat) : Device :=
  (d.forSlots ts fun n d => d.raiseSlot n 6 [(code, 8)]).endJob code

/-- Steps 1 to 3 of a LOAD job: the first pass keeps the header, the section table and the content key for the second (R356, R352). -/
def Device.runLoad (d : Device) (e : List Byte) (ts : List (Fin 16)) : Device :=
  if !ts.all d.loadTarget then d.endJob 0x26
  else
    let (c, m, key, d) := d.firstPass (leAt e 1 1) (leAt e 8 8) (leAt e 0x10 4) ts
    if c ≠ 0 then
      (d.forSlots ts fun n d => if d.pValid n (d.inact n) then d.setValid n (d.inact n) false else d).loadFail ts c
    else
      let d := ts.zipIdx.foldl (fun d x => d.writeDescriptor m x.2 x.1) d
      let kept := m.bytes.take 256 ++ (m.bytes.drop (imgSectOff m.bytes)).take (16 * imgSectCount m.bytes)
      { d with
        sec := { d.sec with loaderKey := key }
        loader := { d.loader with job := d.loader.job.map fun j => { j with stage := 1, image := kept } } }

/-- Steps 4 and 5 (R413, R358, R1026): the source is read again, under the header and the section table of the first pass. The code of
the first check that fails, with 0x20 for a read that does. -/
def Device.loadAgain (d : Device) (j : LoaderJob) : Nat × Device :=
  let h := j.image.take 256
  match d.srcRead (leAt j.entry 1 1) (leAt j.entry 8 8) (imgTotal h) with
  | (none, d) => (0x20, d)
  | (some b, d) =>
    let m : Img := ⟨h ++ b.drop 256, (List.range (imgSectCount h)).map (sectAt (j.image.drop 256))⟩
    let (c, d) := d.secondPass m d.sec.loaderKey j.members
    (if c = 0 then d.contentCode j.members else c, d)

/-- Steps 4 to 7 (R413): `locked` tells whether every enabled synthesiser locked within 40 µs. -/
def Device.loadDone (d : Device) (locked : Bool) : Device :=
  match d.loader.job with
  | some j =>
    if j.op = 1 ∧ j.stage = 1 then
      let (c, d) := d.loadAgain j
      if c ≠ 0 then d.loadFail j.members c
      else if locked then
        let d := d.forSlots j.members fun n d => d.setValid n (d.inact n) true
        let d := d.forSlots j.members fun n d =>
          let en := BitVec.ofNat 4 (d.clkEn n (d.inact n))
          d.modSlot n fun s => { s with clk :=
            if s.active then { s.clk with lockA := en } else { s.clk with lockB := en } }
        (d.forSlots j.members fun n d => d.raiseSlot n 5 []).endJob 0
      else d.loadFail j.members 0x25
    else d
  | none => d

/-! ### RESEED (R417, R418) -/

/-- The content frames of a plane copied into the slot's block memory arrays (R231, R232, R387): whether some word was
uncorrectable, with its report as an uncorrected upset. -/
def Device.copyContent (d : Device) (n : Fin 16) : Bool × Device :=
  let p := d.act n
  let d := d.clearMem (keyBm n 0) 0x20000
  (List.range 16).foldl (fun r b =>
    (List.range 576).foldl (fun (r : Bool × Device) w =>
      let d := r.2
      let fb := frameBase n p 3 b (4 + w / 8)
      let v := d.frameWord fb (w % 8)
      let c := d.frameCheck fb (w % 8)
      match eccDecode v c with
      | .uncorrectable =>
        (true, (d.raiseSlot n 8 [(frameAddr n p 3 b (4 + w / 8), 27), (w % 8, 3), (eccS v c, 7), (3, 4)]).setLe
          (keyBm n b + 8 * w) 8 v)
      | _ => if eccData v c = 0 then r else (r.1, d.setLe (keyBm n b + 8 * w) 8 (eccData v c))) r) (false, d)

/-- A RESEED job begins (R417). -/
def Device.runReseed (d : Device) (ts : List (Fin 16)) : Device :=
  if ts ≠ [] ∧ ts.all (fun n => ((d.slot n).st == .loaded || (d.slot n).st == .held) && d.pValid n (d.act n) &&
      !d.swapPend n && (d.slot n).copying.isNone && !d.jobWaits n) then
    let d := d.forSlots ts fun n d => d.modSlot n fun s => { s with copying := some (false, none) }
    { d with loader := { d.loader with job := d.loader.job.map fun j => { j with stage := 2 } } }
  else d.endJob 0x26

/-! ### READBACK (R435 to R437) -/

/-- The 80-byte record of a frame as stored. -/
def Device.readbackRecord (d : Device) (n p : Nat) (x : Nat × Nat × Nat) : List Byte :=
  let fb := frameBase n p x.1 x.2.1 x.2.2
  let ds := (List.range 8).map fun w => eccDecode (d.frameWord fb w) (d.frameCheck fb w)
  let flags := natOf (ds.any fun e => match e with | .corrected _ => true | _ => false) +
    2 * natOf (ds.any (· == .uncorrectable))
  leBytes 4 (frameAddr n p x.1 x.2.1 x.2.2) ++ leBytes 1 flags ++ [0, 0, 0] ++ d.bytes fb 72

/-- A READBACK job begins: its refusals, and the plane it names now, which it copies whatever swap follows (R435, R436, R415). -/
def Device.runReadback (d : Device) (e : List Byte) (ts : List (Fin 16)) : Device :=
  let n := ts.headD 0
  let p := if leAt e 4 1 = 0 then d.act n else d.inact n
  if bitOf (d.pSec n p) 0 then d.endJob 0x38
  else if !inBench (leAt e 0x18 8) 468960 then d.endJob 0x39
  else { d with loader := { d.loader with job := d.loader.job.map fun j => { j with stage := 2, plane := p } } }

/-- A readback reads the next `k` frames as they are stored now (R437). -/
def Device.readFrames (d : Device) (k : Nat) : Device :=
  match d.loader.job with
  | some j =>
    if j.op = 3 ∧ j.stage = 2 then
      let new := ((presentFrames.drop (j.records.length / 80)).take k).flatMap (d.readbackRecord (j.members.headD 0) j.plane)
      { d with loader := { d.loader with job := some { j with records := j.records ++ new } } }
    else d
  | none => d

/-- Before a stored frame changes, a readback in progress has read some of its frames: how many, the spec leaves open (R437). -/
def Device.readAhead (d : Device) : Device :=
  match d.loader.job with
  | some j => if j.op = 3 ∧ j.stage = 2 then d.free.2.readFrames (d.free.1 % (presentFrames.length + 1)) else d
  | none => d

/-- Write bytes at Bench offset `off` by one WrLine of the loader for each line they touch (R411, R614). -/
def Device.loaderWrite (d : Device) (off : Nat) (data : List Byte) : Device :=
  let lines := if data.isEmpty then 0 else (off + data.length - 1) / 64 + 1 - off / 64
  iter lines (fun i d =>
    let l := off / 64 + i
    let at_ := fun k => if 64 * l + k < off then none else data[64 * l + k - off]?
    let en := ofBits ((List.range 64).map fun k => (at_ k).isSome)
    let v := leOf ((List.range 64).map fun k => (at_ k).getD 0)
    (d.benchServe l 1 (.wrLine (BitVec.ofNat 64 en) (BitVec.ofNat 512 v))).2) d

/-- A readback reads what remains, and its records stand at DEST_ADDR. -/
def Device.copyReadback (d : Device) (e : List Byte) : Device :=
  let d := d.readFrames presentFrames.length
  d.loaderWrite (leAt e 0x18 8 - benchBase) ((d.loader.job.map fun j => j.records).getD [])

/-- What a first activation leaves in every block memory of a slot beside its contents (R232): read outputs 0, FIFO controllers empty, and
sticky status clear. -/
def Device.freshMemories (d : Device) (n : Fin 16) : Device :=
  let d := d.modSlot n fun s => { s with bm := s.bm.map fun _ => ⟨0, 0, 0, 0, 0, 0, 0⟩ }
  iter 16 (fun b d => (d.wr (Reg.slcBmStatus n b) 0).wr (Reg.slcBmErraddr n b) 0) d

/-- A RESEED or READBACK job ends its copy (R417, R435). -/
def Device.jobCopyEnd (d : Device) : Device :=
  match d.loader.job with
  | some j =>
    if j.stage ≠ 2 then d
    else if j.op = 2 then
      let (bad, d) := j.members.foldl (fun (r : Bool × Device) n =>
        let (b, d) := (r.2.freshMemories n).copyContent n
        (r.1 || b, d)) (false, d)
      (d.forSlots j.members fun n d => d.raiseSlot n 5 []).endJob (if bad then 0x28 else 0)
    else (d.copyReadback j.entry).endJob 0
  | none => d

/-! ### The job at the queue's head -/

/-- Every code that the loader uses (R355, R415). -/
def loaderCodes : List Nat := List.range 0x17 ++ (List.range 9).map (0x20 + ·) ++ (List.range 5).map (0x30 + ·) ++ [0x38, 0x39]

/-- The loader takes the next job (R410, R457, R1028). A job whose OP is not listed ends with one of the loader's codes; which one, the
spec does not state. -/
def Device.takeJob (d : Device) : Device :=
  if d.loader.job.isSome || d.fld Fld.ldrJqStatusDepth == 0 then d
  else
    let i := d.loader.jqHead
    let cid := (d.loader.owners.find? fun o => o.1 = i).map (·.2)
    let aborted := decide (i ∈ d.loader.aborts)
    let (e, d) := d.jqRead i
    let d := d.jqPop
    let d := { d with loader := { d.loader with
      owners := d.loader.owners.filter fun o => o.1 != i, aborts := d.loader.aborts.filter fun a => a != i } }
    match e with
    | none => (((d.wr Reg.ldrLastErr 0x20).wr Reg.ldrLastTag 0xFFFFFFFF)).completeOpt cid 0x20 []
    | some e =>
      let ts := allSlots.filter fun n => bitOf (leAt e 2 2) n.val
      let op := leAt e 0 1
      let d := { d with loader := { d.loader with job := some ⟨op, ts, e, 0, cid, 0, [], []⟩ } }
      let d := d.wr Reg.ldrStatus (op % 4 * 256 + (ts.headD 0).val * 16 + 1)
      if aborted then d.endJob 0x27
      else if op = 1 then d.runLoad e ts
      else if op = 2 then d.runReseed ts
      else if op = 3 then d.runReadback e ts
      else d.free.2.endJob (loaderCodes.getD (d.free.1 % loaderCodes.length) 0)

/-- An ABORT ends the job in progress (R457): a LOAD under R414. -/
def Device.abortJob (d : Device) : Device :=
  match d.loader.job with
  | some j => if j.op = 1 then d.loadFail j.members 0x27 else d.endJob 0x27
  | none => d

/-! ### Scrub (R438 to R446) -/

/-- A load writes the slot's inactive plane. -/
def Device.loading (d : Device) (n : Fin 16) : Bool :=
  match d.loader.job with
  | some j => j.op == 1 && decide (n ∈ j.members)
  | none => false

/-- Record a scrub finding: LAST_ADDR, LAST_SYN, the count, and the slot event. -/
def Device.scrubReport (d : Device) (n : Fin 16) (p : Nat) (x : Nat × Nat × Nat) (w v c outcome : Nat) : Device :=
  let fa := frameAddr n p x.1 x.2.1 x.2.2
  let d := (d.wr Reg.ldrScrubLastAddr fa).wr Reg.ldrScrubLastSyn
    (outcome * 2048 + natOf (eccP v c) * 1024 + eccS v c * 8 + w)
  if outcome = 0 then
    (d.incFld (Fld.ldrScrubCorrCount n)).raiseSlot n 7 [(fa, 27), (w, 3), (eccS v c, 7)]
  else (d.incFld (Fld.ldrScrubUncCount n)).raiseSlot n 8 [(fa, 27), (w, 3), (eccS v c, 7), (outcome, 4)]

/-- The twin frame can repair an active frame (R443). -/
def Device.twinOk (d : Device) (n : Fin 16) (x : Nat × Nat × Nat) : Bool :=
  let a := d.act n
  let i := d.inact n
  let fb := frameBase n i x.1 x.2.1 x.2.2
  d.pValid n i && d.pHash n i == d.pHash n a && d.pMember n i == d.pMember n a && !d.loading n &&
    (List.range 8).all fun w => eccDecode (d.frameWord fb w) (d.frameCheck fb w) != .uncorrectable

/-- Write the twin's frame, corrected where needed, over the active frame. -/
def Device.twinRepair (d : Device) (n : Fin 16) (x : Nat × Nat × Nat) : Device :=
  let from_ := frameBase n (d.inact n) x.1 x.2.1 x.2.2
  let dst := frameBase n (d.act n) x.1 x.2.1 x.2.2
  iter 8 (fun w d => d.setFrameWord dst w (eccData (d.frameWord from_ w) (d.frameCheck from_ w))) d

/-- Decode one word of a plane as the scrub does ("Outcomes"); true ends an inactive pass. -/
def Device.scrubWord (d : Device) (n : Fin 16) (inactive : Bool) (x : Nat × Nat × Nat) (w : Nat) : Bool × Device :=
  let p := if inactive then d.inact n else d.act n
  let fb := frameBase n p x.1 x.2.1 x.2.2
  let v := d.frameWord fb w
  let c := d.frameCheck fb w
  match eccDecode v c with
  | .clean => (false, d)
  | .corrected u => (false, (d.setFrameWord fb w u).scrubReport n p x w v c 0)
  | .uncorrectable =>
    if inactive then (true, (d.setValid n p false).scrubReport n p x w v c 4)
    else if d.twinOk n x then (false, (d.twinRepair n x).scrubReport n p x w v c 1)
    else if x.1 = 3 ∧ 4 ≤ x.2.2 then (false, d.scrubReport n p x w v c 3)
    else (false, ((d.scrubReport n p x w v c 2).signal 1 481 [(n, 4), (frameAddr n p x.1 x.2.1 x.2.2, 27)]).slotSafe n faultConfig)

/-- The slot's scrub position. -/
def Device.scrubPos (d : Device) (n : Fin 16) : ScrubPos := d.loader.scrub[n]

/-- The scrub of an ON slot decodes the next word of its pass (R439). -/
def Device.scrubNext (d : Device) (n : Fin 16) : Device :=
  if (d.slot n).power ≠ .on then d
  else
    let q := d.scrubPos n
    let inactiveOk := d.pValid n (d.inact n) && !d.loading n
    let q := if q.inactive && !inactiveOk then ⟨false, 0, 0⟩ else q
    match presentFrames[q.frame]? with
    | none => d.setScrub n ⟨false, 0, 0⟩
    | some x =>
      let (stop, d) := d.scrubWord n q.inactive x q.word
      if stop then d.setScrub n ⟨false, 0, 0⟩
      else if q.word < 7 then d.setScrub n ⟨q.inactive, q.frame, q.word + 1⟩
      else if q.frame + 1 < presentFrames.length then d.setScrub n ⟨q.inactive, q.frame + 1, 0⟩
      else d.setScrub n ⟨!q.inactive && d.pValid n (d.inact n) && !d.loading n, 0, 0⟩

end Sys2Proof.Machine
end

