-- ==== Sys2Proof/Machine/Swap.lean ====
section
/-! DEFINITION. Plane swaps, first activation and trials (R419 to R434, R449, R457). -/

namespace Sys2Proof.Machine

/-- HEALTHY select of a plane is enabled (R394). -/
def Device.healthyEn (d : Device) (n p : Nat) : Bool := d.cfg n p 7 0 (512 + 12 + 11) 1 == 1

/-- The code of the swap conditions for the group of a slot, MODE first (R419 to R421, "Loader codes"). -/
def Device.swapCode (d : Device) (n : Fin 16) (mode turns : Nat) : Nat :=
  let ms := d.members n
  let p := fun (m : Fin 16) => d.inact m
  if 2 ≤ mode then 0x33
  else if ms.any fun m => !d.pValid m (p m) then 0x30
  else if ms.any fun m => d.pHash m (p m) != d.pHash (d.member0 n) (p (d.member0 n)) ||
      d.pClass m (p m) != classOfKind (d.slot n).gkind || d.pMember m (p m) != (d.slot m).gmember then 0x31
  else if ms.any fun m => (d.slot m).st == .empty || (d.slot m).st == .sweeping || (d.slot m).st == .faulted ||
      (d.slot m).power != .on || d.jobUses m then 0x32
  else if mode = 1 ∧ (turns = 0 ∨ ms.any fun m => !d.pValid m (d.act m) || !d.healthyEn m (p m)) then 0x33
  else if ms.any fun m => (d.slot m).trial.isSome then 0x34
  else 0

/-- Record LDR_SWAP_RESULT. -/
def Device.swapResult (d : Device) (n : Fin 16) (code : Nat) : Device :=
  d.wr Reg.ldrSwapResult (n.val * 256 + code)

/-- Arm the swap of one slot (R419, R420); a slot holds at most one pending request for position 3 (R31), and its busy code is none that
LDR_SWAP_RESULT shows (R415). -/
def Device.swapArm (d : Device) (n : Fin 16) (mode : Nat) (reinit : Bool) (turns : Nat) (cid : Option Nat) : Nat × Device :=
  let c := d.swapCode n mode turns
  if c ≠ 0 then (c, d.swapResult n c)
  else if d.swapPend n then (0x83, d)
  else (0, (d.modSlot n fun s => { s with swap := some ⟨mode == 1, reinit, turns, cid⟩ }).swapResult n 0)

/-- Cancel the armed swap of a slot (R457): the command that armed it, if any. -/
def Device.swapCancel (d : Device) (n : Fin 16) : Option Nat × Device :=
  let c := match (d.slot n).swap with | some w => w.cid | none => none
  (c, (d.modSlot n fun s => { s with swap := none }).swapResult n 0)

/-- Read stages of a port whose output register comes or goes at a swap: the final read output stays what it was (R232). -/
def carryStages (was now : Bool) (s1 s2 : BitVec 64) : BitVec 64 × BitVec 64 :=
  if was && !now then (s2, s2) else if now && !was then (s1, s1) else (s1, s2)

/-- The swap cycle of one slot begins (R422 to R426, R267 to R270): the other plane becomes active; with `init` every storage
element takes the new plane's INIT. Clocks that are high complete their high phase (R183), and the first edge of each output is judged
under R423. -/
def Device.swapCycle (d : Device) (n : Fin 16) (init : Bool) : Device :=
  let old := d.act n
  let d := d.modSlot n fun s => { s with active := !s.active, holdPins := 0, holdH := 0, holdV := 0 }
  let mc := d.initBits n (d.act n)
  let en := BitVec.ofNat 4 (d.clkEn n (d.act n))
  let d := d.modSlot n fun s => { s with
    mc := if init then mc else s.mc, fresh := 0xF, cyc := if s.cyc.resets then .swapReset else .swap
    clk := { s.clk with monitored := en, rangeErr := 0 } }
  let d := iter 16 (fun b d =>
    let c := (d.slot n).bm[slotOf b]
    let a := carryStages (d.bmOreg n old b 0) (d.bmOreg n (d.act n) b 0) c.a1 c.a2
    let p := carryStages (d.bmOreg n old b 1) (d.bmOreg n (d.act n) b 1) c.b1 c.b2
    d.modSlot n fun s => { s with bm := s.bm.set (slotOf b) { c with a1 := a.1, a2 := a.2, b1 := p.1, b2 := p.2 } }) d
  let d := iter 16 (fun b d =>
    if d.bmCfg n 0 b 1 2 == d.bmCfg n 1 b 1 2 && d.bmCfg n 0 b 3 3 == d.bmCfg n 1 b 3 3 then d
    else
      let d := (d.setFlag (Fld.slcBmStatusOverflow n b) false).setFlag (Fld.slcBmStatusUnderflow n b) false
      d.modSlot n fun s =>
        let c := s.bm[slotOf b]
        let c : BmCtl := { c with depth := 0, head := 0, tail := 0 }
        { s with bm := s.bm.set (slotOf b) c }) d
  (d.setScrub n ⟨false, 0, 0⟩).clkFault n false

/-- Apply the armed swap of one slot (R425 to R430). -/
def Device.applySwap (d : Device) (n : Fin 16) (w : Swap) : Device :=
  if d.pValid n (d.act n) then
    let d := d.swapCycle n w.reinit
    let d := d.modSlot n fun s => { s with
      swap := none, trial := if w.trial then some ⟨w.reinit, w.turns, false⟩ else s.trial }
    if w.trial then d else d.raiseSlot n 3 []
  else
    let d := d.swapCycle n true
    let d := d.modSlot n fun s => { s with
      swap := none, st := .loaded, copying := some (true, w.cid) }
    let d := d.freshMemories n
    if d.flag Fld.safeStatusDss then d.slotSafe n faultDevice else d

/-- The first-activation copy of a slot ends (R429): swap done, and its command when every member's copy has ended. -/
def Device.firstCopyEnd (d : Device) (n : Fin 16) : Device :=
  match (d.slot n).copying with
  | some (true, cid) =>
    let (bad, d) := d.copyContent n
    let d := (d.modSlot n fun s => { s with copying := none }).raiseSlot n 3 []
    match cid with
    | none => d
    | some c =>
      let d := if !bad then d else if c < 16 then d.complete c 0x28 [] else d.modCmd c fun x => { x with aux := 0x28 }
      if allSlots.any fun m => (d.slot m).copying == some (true, some c) then d
      else
        let code := match d.cmd c with | some x => x.aux | none => 0
        let tick := match d.cmd c with | some x => x.prog | none => 0
        d.complete c code (leBytes 4 tick)
  | _ => d

/-- Position 3 for the group whose member 0 is `n`: the armed swap applies to every member or to none, unless a capture is
reading a member (R420, R421, R43). -/
def Device.swapGroup (d : Device) (n : Fin 16) : Device :=
  let ms := d.members n
  match (d.slot n).swap with
  | none => d
  | some w =>
    if ms.any (fun m => (d.slot m).swap.isNone) || ms.any d.captureReading then d
    else
      let c := d.swapCode n (natOf w.trial) w.turns
      let finish := fun (d : Device) (code : Nat) =>
        match w.cid with
        | some k =>
          if allSlots.any fun m => (d.slot m).copying == some (true, some k) then
            d.modCmd k fun x => { x with prog := d.nextTurn }
          else d.complete k code (if code = 0 then leBytes 4 d.nextTurn else [])
        | none => d
      if c ≠ 0 then
        finish ((d.forSlots ms fun m d => d.modSlot m fun s => { s with swap := none }).swapResult n c) c
      else
        let d := d.forSlots ms fun m d =>
          match (d.slot m).swap with
          | some v => d.applySwap m v
          | none => d
        finish (d.swapResult n 0) 0

/-- A trial whose TRIAL_LEFT is 0 has its revert pending for position 3 (R432). -/
def Device.trialRevert (d : Device) (n : Fin 16) : Device :=
  d.modSlot n fun s =>
    match s.trial with
    | some t => if t.left = 0 then { s with trial := some ⟨t.reinit, 0, true⟩ } else s
    | none => s

/-- Position 1 for the trial of the group whose member 0 is `n` (R431): commit, decrement, or nothing; at 0 a revert waits
for position 3. -/
def Device.trialJudge (d : Device) (n : Fin 16) : Device :=
  let ms := d.members n
  match (d.slot n).trial with
  | none => d
  | some t =>
    if t.revert || !ms.all fun m => (d.slot m).checked then d
    else if ms.all fun m => (d.slot m).healthy then
      d.forSlots ms fun m d => (d.modSlot m fun s => { s with trial := none }).raiseSlot m 3 []
    else
      d.forSlots ms fun m d =>
        (d.modSlot m fun s => { s with trial := some ⟨t.reinit, t.left - 1, false⟩ }).trialRevert m

/-- Position 3 for the revert of the group whose member 0 is `n` (R432, R433, R449): swap back, or, where a revert target has
lost VALID, hold every member at position 5 with event 24n + 4 and NO_TARGET. The flag asks for that hold. -/
def Device.revertGroup (d : Device) (n : Fin 16) : Bool × Device :=
  let ms := d.members n
  match (d.slot n).trial with
  | some t =>
    if !t.revert || ms.any d.captureReading then (false, d)
    else if ms.any fun m => !d.pValid m (d.inact m) then
      (true, d.forSlots ms fun m d => (d.modSlot m fun s => { s with trial := none }).raiseSlot m 4 [(1, 1)])
    else
      (false, d.forSlots ms fun m d =>
        ((d.swapCycle m t.reinit).modSlot m fun s => { s with trial := none }).raiseSlot m 4 [(0, 1)])
  | none => (false, d)

end Sys2Proof.Machine
end

