-- ==== Sys2Proof/Machine/Views.lean ====
section
/-! DEFINITION. Registers as they read: the read-only fields that show state held elsewhere, and the snapshot latch. -/

namespace Sys2Proof.Machine

/-- STATE codes of the "Slot states" table. -/
def stateCode : SlotState → Nat
  | .empty => 0 | .bound => 1 | .loaded => 2 | .running => 3 | .held => 4 | .faulted => 5 | .sweeping => 6

/-- POWER codes. -/
def powerCode : SlotPower → Nat
  | .on => 0 | .retain => 1 | .off => 2

/-- CHUCK codes. -/
def chuckCode : Chuck → Nat
  | .closed => 0 | .guarded => 1 | .open_ => 2

/-- Pending request bit of SLC_REQ_STATUS. -/
def reqBit : Req5 → Nat
  | .hold => 1 | .release => 2 | .slotReset => 4 | .faultClear => 8 | .unbind => 0

/-- SLC_STATE as it reads (R499). -/
def Device.viewSlcState (d : Device) (n : Fin 16) : Nat :=
  let s := d.slot n
  let b := match d.bindingOf n with | some (p, v) => p.val * 2 ^ 15 + v * 2 ^ 10 | none => 0
  s.gkind * 2 ^ 18 + s.gmember * 2 ^ 16 + (if s.st = .empty then 0 else b) + chuckCode (chuckOf s.st) * 2 ^ 8 +
    powerCode s.power * 2 ^ 6 + stateCode s.st

/-- SLC_CLK as it reads. -/
def Device.viewSlcClk (d : Device) (n : Fin 16) : Nat :=
  let s := d.slot n
  s.clk.rangeErr.toNat * 256 + (if s.active then s.clk.lockB else s.clk.lockA).toNat * 16 + d.clkEn n (d.act n)

/-- LDR_SLOT_n as it reads. -/
def Device.viewLdrSlot (d : Device) (n : Fin 16) : Nat :=
  let s := d.slot n
  (match s.trial with | some t => t.left * 256 + 32 | none => 0) + natOf s.copying.isSome * 64 +
    natOf (d.swapPend n) * 16 + natOf (d.jobUses n) * 8 + natOf (d.pValid n 1) * 4 + natOf (d.pValid n 0) * 2 + natOf s.active

/-- MB_COUNT as it reads. -/
def Device.viewMbCount (d : Device) (n : Fin 16) : Nat :=
  let m := (d.slot n).mb
  m.outVis * 2 ^ 24 + m.outq.length * 2 ^ 16 + m.inVis * 2 ^ 8 + m.inq.length

/-- PWR_SLOT_n as it reads. -/
def Device.viewPwrSlot (d : Device) (n : Fin 16) : Nat :=
  withBits (withBits (d.rd (Reg.pwrSlot n)) 24 2 (powerCode (d.slot n).power)) 27 1 (natOf (d.slot n).clk.syncWait)

/-- EVT_STATUS_SUM: bit i says that some bit of EVT_STATUS_i is 1. -/
def Device.viewEvtSum (d : Device) : Nat := ofBits ((List.range 16).map fun i => d.rd (Reg.evtStatus i) != 0)

/-- SCRIBE_CAP_STATUS as it reads. -/
def Device.viewCap (d : Device) : Nat :=
  ofBits (allSlots.map fun n => d.capturing n) + 2 ^ 16 * ofBits (allSlots.map fun n => d.restoring n)

/-- PWR_DOM_STATUS as it reads: bit n is 0 while slot n is OFF (R897, R901). -/
def Device.viewDom (d : Device) : Nat :=
  withBits (d.rd Reg.pwrDomStatus) 0 16 (ofBits (allSlots.map fun n => (d.slot n).power != .off))

/-- DEV_READY as it reads: bit 16 + n mirrors VALID of slot n's active plane, bits 7 to 10 mirror ACT_RESTORED, the link of
each port and the RING domain (R940, R943). -/
def Device.viewReady (d : Device) : Nat :=
  let v := ofBits (allSlots.map fun n => (d.slot n).power != .off && d.pValid n (d.act n))
  let v := withBits (d.rd Reg.devReady) 16 16 v
  withBits v 7 4 (ofBits [d.flag Fld.bmxCtlActRestored, d.linkUp 0, d.linkUp 1, d.flag Fld.devReadyAon && d.fldBit Fld.pwrDomStatusOn 21])

/-- Plane mirror registers (LDR_PLANE_n_p block). -/
def Device.viewPlane (d : Device) (n p o : Nat) : Nat :=
  if o < 0x30 then leAt (d.pHash n p) o 4
  else if o = 0x30 then d.pSec n p
  else if o = 0x34 then natOf (d.pValid n p) * 2 ^ 16 + d.pMember n p * 2 ^ 8 + d.pClass n p
  else 0

/-- A register of a slot's three windows as it reads, at offset `o` of the slot's 16 MiB. -/
def Device.viewSlotWin (d : Device) (n : Fin 16) (a o : Nat) : Nat :=
  if o = 0x000 then d.viewSlcState n
  else if o = 0x00C then
    d.rd a + 256 * (match (d.slot n).pend5 with | some p => reqBit p.req | none => 0)
  else if o = 0x014 then d.viewSlcClk n
  else if 0x100 ≤ o ∧ o < 0x140 then withBits (d.rd a) 0 13 (((d.slot n).bm.toList[(o - 0x100) / 4]?.map (·.depth)).getD 0)
  else if o = 0x1048 then d.viewMbCount n
  else if 0x1080 ≤ o ∧ o < 0x10C0 then
    if (d.slot n).mb.outVis = 0 then 0
    else bitsOf ((d.slot n).mb.outq.headD 0).toNat (32 * ((o - 0x1080) / 4)) 32
  else d.rd a

/-- The register at internal address `a` as it reads, where its value does not depend on who reads it (R8). -/
def Device.view (d : Device) (a : Nat) : Nat :=
  if 0x40000000 ≤ a ∧ a < 0x50000000 then
    d.viewSlotWin (slotOf ((a - 0x40000000) / 0x1000000)) a ((a - 0x40000000) % 0x1000000)
  else if Reg.ldrSlot 0 ≤ a ∧ a < Reg.ldrSlot 16 then d.viewLdrSlot (slotOf ((a - Reg.ldrSlot 0) / 4))
  else if Reg.ldrPlaneHash 0 0 ≤ a ∧ a < Reg.ldrPlaneHash 32 0 then
    let k := (a - Reg.ldrPlaneHash 0 0) / 0x40
    d.viewPlane (k / 2) (k % 2) ((a - Reg.ldrPlaneHash 0 0) % 0x40)
  else if Reg.pwrSlot 0 ≤ a ∧ a < Reg.pwrSlot 16 then d.viewPwrSlot (slotOf ((a - Reg.pwrSlot 0) / 4))
  else if a = Reg.evtStatusSum then d.viewEvtSum
  else if a = Reg.scribeCapStatus then d.viewCap
  else if Reg.actRgnBase 0 0 ≤ a ∧ a < Reg.actRgnBase 8 0 ∧ 0x100 ≤ a % 0x1000 ∧ a % 0x1000 < 0x110 then
    (if a % 8 = 4 then 0xFFFFFFFF else if a % 0x1000 = 0x100 then 0x80CC003E else 0x8020003F)
  else if a = Reg.pwrDomStatus then d.viewDom
  else if a = Reg.devReady then d.viewReady
  else if a = Reg.turnStatus then d.rd a + d.fld Fld.turnCtlRun
  else if a = Reg.ringFault ∧ d.ringOn then withBit (d.rd a) d.ringAddr d.ringFaultBit
  else d.rd a

/-- Every snapshot register with the register it mirrors; the one SNAP_GEN of each block mirrors SCRIBE_GEN. -/
def snapPairs : List (Nat × Nat) :=
  [(Reg.snapTurnCountLo, Reg.turnCountLo), (Reg.snapTurnCountHi, Reg.turnCountHi), (Reg.snapTurnStatus, Reg.turnStatus),
   (Reg.turnSnapGen, Reg.scribeGen), (Reg.snapLdrStatus, Reg.ldrStatus), (Reg.snapScrubLastAddr, Reg.ldrScrubLastAddr),
   (Reg.snapScrubLastSyn, Reg.ldrScrubLastSyn), (Reg.ldrSnapGen, Reg.scribeGen), (Reg.snapBmxStatus, Reg.bmxStatus),
   (Reg.snapActDenyStatus, Reg.actDenyStatus), (Reg.bmxSnapGen, Reg.scribeGen), (Reg.snapBenchStatus, Reg.benchStatus),
   (Reg.snapBenchEccUnc, Reg.benchEccUnc), (Reg.benchSnapGen, Reg.scribeGen), (Reg.snapGrnStatus, Reg.grnStatus),
   (Reg.snapGrnEccUnc, Reg.grnEccUnc), (Reg.grnSnapGen, Reg.scribeGen), (Reg.snapResStatus, Reg.resStatus),
   (Reg.resSnapGen, Reg.scribeGen), (Reg.snapHwdStatus, Reg.hwdStatus), (Reg.hwdSnapGen, Reg.scribeGen),
   (Reg.snapSecStatus, Reg.secStatus), (Reg.secSnapGen, Reg.scribeGen), (Reg.snapScribeStatus, Reg.scribeStatus),
   (Reg.scribeSnapGen, Reg.scribeGen), (Reg.snapEvtStatusSum, Reg.evtStatusSum), (Reg.evtSnapGen, Reg.scribeGen),
   (Reg.snapPwrStatus, Reg.pwrStatus), (Reg.snapPwrDomStatus, Reg.pwrDomStatus), (Reg.pwrSnapGen, Reg.scribeGen),
   (Reg.snapDevReady, Reg.devReady), (Reg.devSnapGen, Reg.scribeGen), (Reg.snapSafeStatus, Reg.safeStatus),
   (Reg.snapSafeCause, Reg.safeCause), (Reg.safeSnapGen, Reg.scribeGen), (Reg.snapRingStatus, Reg.ringStatus),
   (Reg.snapRingFault, Reg.ringFault), (Reg.ringSnapGen, Reg.scribeGen)] ++
  ([0, 1].flatMap fun p => [(Reg.snapPtStatus p, Reg.ptStatus p), (Reg.ptSnapGen p, Reg.scribeGen)]) ++
  ((List.range 16).flatMap fun w => [(Reg.snapSlcState w, Reg.slcState w), (Reg.slcSnapGen w, Reg.scribeGen),
    (Reg.snapMbCount w, Reg.mbCount w), (Reg.snapMbFlags w, Reg.mbFlags w), (Reg.mbSnapGen w, Reg.scribeGen),
    (Reg.snapDmaStatus w, Reg.dmaStatus w), (Reg.dmaSnapGen w, Reg.scribeGen)])

/-- A snapshot latch (R803, R807, R808): every snapshot register copies the register it mirrors as it stands on the latch
edge; UNREAD is set, or SNAP_OVERRUN with event 509 where it was set already. -/
def Device.latchAll (d : Device) : Device :=
  let e := snapPairs.foldl (fun e x => e.wr x.1 (d.view x.2)) d
  if d.flag Fld.scribeStatusUnread then (e.setFlag Fld.scribeStatusSnapOverrun true).raise 509 [(0, 4)]
  else e.setFlag Fld.scribeStatusUnread true

end Sys2Proof.Machine
end

