-- ==== Sys2Proof/Machine/Scribe.lean ====
section
/-! DEFINITION. The Scribe engine: captures, state records, restores (chapter 20). -/

namespace Sys2Proof.Machine

/-! ### Shape and conditions (R809, R810) -/

/-- The slots a SLOT_MASK names. -/
def maskSlots (mask : Nat) : List (Fin 16) := allSlots.filter fun n => bitOf mask n.val

/-- SLOT_MASK names exactly one group, or one slot that belongs to no group. -/
def Device.maskShape (d : Device) (mask : Nat) : Bool :=
  match maskSlots mask with
  | [] => false
  | n :: _ => maskSlots mask == d.members n

/-- Length of a record of `j` members ("Record layout"). -/
def recordLen (j : Nat) : Nat := 8528 + 75360 * j

/-- The active plane's image is sealed (R773). -/
def Device.sealed (d : Device) (n : Fin 16) : Bool := bitOf (d.pSec n (d.act n)) 2

/-- The record key of a slot's active plane: none where the device holds no state key for its signer (R773, R774). -/
def Device.slotRecordKey (d : Device) (n : Fin 16) : Option (List Byte) :=
  (d.tskSlot (d.planeSigner n (d.act n))).map fun i => recordKeyOf (d.tsk i) (d.pHash n (d.act n))

/-- R810 for a capture of the listed members: the code, 0 where it may go on. `own` is the serial number of the capture
itself, which is judged again at its tick. Another capture that holds position 2 makes the slot busy (R31, R760, R831). -/
def Device.captureCode (d : Device) (ms : List (Fin 16)) (own : Nat) : Nat :=
  let other := fun n => (d.scribe.captures.any fun c => c.cid != own && decide (n ∈ c.members)) || d.restoring n
  if d.lockBit 5 || ms.any fun n => bitOf (d.pSec n (d.act n)) 1 then 0x90
  else if ms.any fun n => d.scribe.captures.any fun c => c.cid != own && c.stage != 2 && decide (n ∈ c.members) then 0x83
  else if ms.any fun n => !((d.slot n).st == .running || (d.slot n).st == .loaded || (d.slot n).st == .held) ||
      (d.slot n).power != .on || other n then 0x91
  else if d.sealed (ms.headD 0) && (d.slotRecordKey (ms.headD 0)).isNone then 0xA6
  else 0

/-- Accept a CAPTURE (R809 to R811, R817, R831): the code, 0 where it is pending. -/
def Device.captureAccept (d : Device) (cid mask opt dest len : Nat) : Nat × Device :=
  let ms := maskSlots mask
  if !d.maskShape mask then (0x92, d)
  else if dest % 64 ≠ 0 ∨ !inBench dest len ∨ len < recordLen ms.length then (0x93, d)
  else if d.captureCode ms cid ≠ 0 then (d.captureCode ms cid, d)
  else if bitOf opt 1 ∧ ms.any fun n => (d.slot n).pend5.isSome || d.resumeHolds n then (0x83, d)
  else
    let job : CaptureJob := ⟨cid, ms, opt, dest, len, if bitOf opt 0 then 0 else 1, 0, 0, [], [], [], []⟩
    (0, { d with scribe := { d.scribe with captures := d.scribe.captures ++ [job] } })

/-! ### The capture tick (R812, R813) -/

/-- Bytes of one queue of a mailbox: 64 entries, the oldest first, unused ones 0. -/
def queueBytes (q : List (BitVec 512)) : List Byte := padTo 4096 (q.flatMap fun e => leBytes 64 e.toNat)

/-- The MAILBOX section body of a slot ("Mailbox state" table). -/
def Device.mailboxBody (d : Device) (n : Fin 16) : List Byte :=
  let m := (d.slot n).mb
  leBytes 1 m.inq.length ++ leBytes 1 m.inVis ++ leBytes 1 m.outq.length ++ leBytes 1 m.outVis ++
    leBytes 1 (d.rd (Reg.mbFlags n)) ++ leBytes 1 (d.fld (Fld.mbInLowwaterLevel n)) ++ List.replicate 58 0 ++
    ((List.range 16).flatMap fun k => leBytes 4 (d.rd (Reg.mbInStage n k))) ++ leBytes 64 m.outStage.toNat ++
    queueBytes m.inq ++ queueBytes m.outq

/-- Position 2 for one capture (R810, R812, R813): discarded with its code, or every member held and reading begun.
`skipping` tells whether SKIP withholds a member's boundary at this tick. -/
def Device.captureStart (d : Device) (c : CaptureJob) (skipping : Fin 16 → Bool) : Device :=
  let code := d.captureCode c.members c.cid
  let n0 := c.members.headD 0
  if code ≠ 0 then
    let d := { d with scribe := { d.scribe with captures := d.scribe.captures.filter fun (x : CaptureJob) => x.cid != c.cid } }
    (d.raise 507 [(n0.val, 4), (code, 8)]).complete c.cid code []
  else
    let prior := c.members.map fun n => stateCode (d.slot n).st
    let flags := c.members.map fun n => natOf (d.slot n).overran + 2 * natOf (skipping n)
    let job := { c with
      stage := 2, turn := d.turnCount, gen := d.rd Reg.scribeGen, prior := prior, mailbox := d.mailboxBody n0
      flags := flags, key := if d.sealed n0 then (d.slotRecordKey n0).getD [] else [] }
    let d := { d with scribe := { d.scribe with
      captures := d.scribe.captures.map fun (x : CaptureJob) => if x.cid = c.cid then job else x } }
    d.forSlots c.members fun n d => d.modSlot n fun s => { s with
      st := if s.st = SlotState.running then SlotState.held else s.st, checked := false, strobe := 0 }

/-! ### The record (R818 to R820) -/

/-- A section: head and body. -/
def section_ (ty member index : Nat) (body : List Byte) : List Byte :=
  leBytes 1 ty ++ leBytes 1 member ++ leBytes 1 index ++ [0] ++ leBytes 4 body.length ++ List.replicate 8 0 ++ body

/-- First read stage and final read output of a port in a record: without an output register the one stage is the final output. -/
def stageBytes (oreg : Bool) (s1 s2 : BitVec 64) : List Byte :=
  if oreg then leBytes 8 s1.toNat ++ leBytes 8 s2.toNat else leBytes 8 0 ++ leBytes 8 s1.toNat

/-- The 64 bytes of block memory state. -/
def Device.bmStateBytes (d : Device) (n : Fin 16) (b : Fin 16) : List Byte :=
  let c := (d.slot n).bm[b]
  let r := d.rd (Reg.slcBmStatus n b)
  stageBytes (d.bmOreg n (d.act n) b 0) c.a1 c.a2 ++ stageBytes (d.bmOreg n (d.act n) b 1) c.b1 c.b2 ++ leBytes 2 c.depth ++
    leBytes 2 c.head ++ leBytes 2 c.tail ++
    leBytes 1 (natOf (bitOf r 29) + 2 * natOf (bitOf r 28) + 4 * natOf (bitOf r 31) + 8 * natOf (bitOf r 30)) ++
    leBytes 1 (bitsOf r 13 8) ++ leBytes 2 (d.rd (Reg.slcBmErraddr n b)) ++ List.replicate 22 0

/-- The 64 bytes of control state. -/
def Device.controlBytes (d : Device) (n : Fin 16) (prior flags : Nat) : List Byte :=
  let s := d.slot n
  leBytes 1 prior ++ leBytes 1 flags ++ leBytes 1 s.mb.userPrev.toNat ++ List.replicate 5 0 ++ leBytes 8 s.ddr.toNat ++
    leBytes 8 s.holdPins.toNat ++ leBytes 8 s.holdH.toNat ++ leBytes 8 s.holdV.toNat ++ List.replicate 24 0

/-- The sections of a record, unencrypted. -/
def Device.recordBody (d : Device) (c : CaptureJob) : List Byte :=
  section_ 4 0 0 c.mailbox ++ (c.members.zipIdx).flatMap fun x =>
    section_ 1 x.2 0 (leBytes 256 (d.slot x.1).mc.toNat) ++
    ((List.range 16).flatMap fun b =>
      section_ 2 x.2 b (d.bytes (keyBm x.1 b) 4608 ++ d.bmStateBytes x.1 (slotOf b))) ++
    section_ 3 x.2 0 (d.controlBytes x.1 (c.prior[x.2]?.getD 0) (c.flags[x.2]?.getD 0))

/-- The record header with given BODY_CRC, IV, TAG; HDR_CRC is added where `crc` is set (R818). -/
def Device.recordHeader (d : Device) (c : CaptureJob) (bodyCrc : Nat) (iv tag : List Byte) (crc : Bool) : List Byte :=
  let n0 := c.members.headD 0
  let p := d.act n0
  let h := leBytes 4 0x524E4447 ++ [1] ++ leBytes 1 (d.pClass n0 p) ++
    leBytes 1 (natOf (d.sealed n0) + 2 * natOf (bitOf c.opt 0) + 4 * natOf (bitOf c.opt 1)) ++
    leBytes 1 (1 + 18 * c.members.length) ++ leBytes 2 (c.members.foldl (fun a m => a + 2 ^ m.val) 0) ++ [0, 0] ++
    leBytes 4 c.gen ++ leBytes 8 c.turn ++ leBytes 4 (recordLen c.members.length) ++ leBytes 4 bodyCrc ++
    d.pHash n0 p ++ leBytes 4 (d.pSec n0 p) ++ padTo 12 iv ++ padTo 16 tag ++ d.serial.take 8 ++ leBytes 4 0
  h ++ leBytes 4 (if crc then crc32c h else 0)

/-- A capture finishes reading (R814, R816): the record, its header last, event 507 and the completion. The clocks of a member that was
released meanwhile run from here on (R812, assumption log 65). -/
def Device.captureEnd (d : Device) (cid : Nat) : Device :=
  match d.scribe.captures.find? fun c => c.cid = cid && c.stage = 2 with
  | none => d
  | some c =>
    let n0 := c.members.headD 0
    let body := d.recordBody c
    let (hdr, body, d) :=
      if d.sealed n0 then
        let (iv, d) := d.drbg 12
        let (ct, tag) := gcmSeal c.key iv (d.recordHeader c 0 iv [] false) body
        (d.recordHeader c (crc32c ct) iv tag true, ct, d)
      else (d.recordHeader c (crc32c body) [] [] true, body, d)
    let d := (d.benchStore (c.dest - benchBase + 128) body).benchStore (c.dest - benchBase) hdr
    let run := (c.members.zip c.prior).filterMap fun x => if x.2 = 3 then some x.1 else none
    let resumes := if bitOf c.opt 1 && !run.isEmpty then d.scribe.resumes ++ [⟨c.members, run⟩] else d.scribe.resumes
    let d := { d with scribe := { d.scribe with
      captures := d.scribe.captures.filter fun x => x.cid != cid, resumes := resumes } }
    let d := d.forSlots c.members fun m d => d.modSlot m fun s => { s with cyc := if s.st = .running then .start else s.cyc }
    let d := d.raise 507 [(n0.val, 4), (0, 8)]
    d.complete cid 0 (leBytes 4 (recordLen c.members.length) ++ leBytes 4 c.gen)

/-! ### Restore (R821 to R824) -/

/-- The section heads of R820 are right for `j` members, over the body bytes. -/
def headsOk (j : Nat) (body : List Byte) : Bool :=
  let head := fun o ty m i len => leAt body o 1 == ty && leAt body (o + 1) 1 == m && leAt body (o + 2) 1 == i &&
    leAt body (o + 3) 1 == 0 && leAt body (o + 4) 4 == len && zeros body (o + 8) 8
  head 0 4 0 0 8384 && (List.range j).all fun m =>
    let o := 8400 + 75360 * m
    head o 1 m 0 256 && (List.range 16).all (fun b => head (o + 272 + 4688 * b) 2 m b 4672) && head (o + 75280) 3 m 0 64

/-- The MAILBOX counts of a record body are right (R821 step 4). -/
def mailboxOk (body : List Byte) : Bool :=
  let b := fun i => leAt body (16 + i) 1
  decide (b 0 ≤ 64) && decide (b 1 ≤ b 0) && decide (b 2 ≤ 64) && decide (b 3 ≤ b 2) && decide (b 4 < 16) && decide (b 5 ≤ 63)

/-- The checks of R821 from step 4: the code and the plain body. -/
def Device.recordCheck (d : Device) (ms : List (Fin 16)) (rec : List Byte) (len : Nat) : Nat × List Byte :=
  let j := ms.length
  let sealed := bitOf (leAt rec 6 1) 0
  let rl := leAt rec 0x18 4
  let cls := leAt rec 5 1
  let body := (rec.take rl).drop 128
  if leAt rec 0 4 ≠ 0x524E4447 ∨ leAt rec 4 1 ≠ 1 ∨ leAt rec 0x7C 4 ≠ crc32c (rec.take 0x7C) ∨ len < rl ∨
      cls = 0 ∨ 4 < cls ∨ rl ≠ recordLen (classMembers cls) ∨
      (!sealed && !(headsOk (classMembers cls) body && mailboxOk body)) then (0x94, [])
  else if crc32c body ≠ leAt rec 0x1C 4 then (0x95, [])
  else if !(ms.zipIdx).all (fun x => d.pValid x.1 (d.act x.1) && d.pHash x.1 (d.act x.1) == (rec.drop 0x20).take 48 &&
      d.pSec x.1 (d.act x.1) == leAt rec 0x50 4 && d.pClass x.1 (d.act x.1) == cls && d.pMember x.1 (d.act x.1) == x.2) ||
      classMembers cls != j then (0x96, [])
  else if bitOf (leAt rec 0x50 4) 1 then (0x90, [])
  else if sealed then
    match d.slotRecordKey (ms.headD 0) with
    | none => (0xA6, [])
    | some rk =>
      let aad := rec.take 0x1C ++ [0, 0, 0, 0] ++ (rec.drop 0x20).take 0x40 ++ List.replicate 16 0 ++
        (rec.drop 0x70).take 12 ++ [0, 0, 0, 0]
      match gcmOpen rk ((rec.drop 0x54).take 12) aad body ((rec.drop 0x60).take 16) with
      | none => (0xA4, [])
      | some p => if headsOk j p && mailboxOk p then (0, p) else (0x94, [])
  else (0, body)

/-- Accept a RESTORE (R821): the code, 0 where writing has begun. Another restore that holds position 4 makes the slot busy (R31, R760,
R1013). -/
def Device.restoreAccept (d : Device) (cid mask src len relTurn : Nat) : Nat × Device :=
  let ms := maskSlots mask
  if !d.maskShape mask then (0x92, d)
  else if ms.any fun n => !((d.slot n).st == .loaded || (d.slot n).st == .held) || (d.slot n).power != .on ||
      d.capturing n then (0x91, d)
  else if ms.any d.restoring then (0x83, d)
  else if relTurn ≠ 0 ∧ relTurn ≤ d.turnCount then (0x97, d)
  else if len < 128 then (0x94, d)
  else
    match d.benchRead (src - benchBase) (min len (recordLen 4)) with
    | (none, d) => (0x86, d)
    | (some r, d) =>
      let (code, body) := d.recordCheck ms r len
      if code ≠ 0 then (code, d)
      else (0, { d with scribe := { d.scribe with restores := d.scribe.restores ++ [⟨cid, ms, body, relTurn, 1⟩] } })

/-- Write one member's state from a record body (R822). -/
def Device.restoreMember (d : Device) (body : List Byte) (m : Nat) (n : Fin 16) : Device :=
  let o := 8400 + 75360 * m
  let at_ := fun k len => leAt body (o + k) len
  let d := d.modSlot n fun s => { s with mc := BitVec.ofNat 2048 (at_ 16 256) }
  let d := iter 16 (fun b d =>
    let q := 272 + 4688 * b + 16
    let d := d.setBytes (keyBm n b) ((body.drop (o + q)).take 4608)
    let t := q + 4608
    let f := at_ (t + 38) 1
    let d := d.wr (Reg.slcBmStatus n b) (natOf (bitOf f 2) * 2 ^ 31 + natOf (bitOf f 3) * 2 ^ 30 +
      natOf (bitOf f 0) * 2 ^ 29 + natOf (bitOf f 1) * 2 ^ 28 + at_ (t + 39) 1 * 2 ^ 13)
    let d := d.wr (Reg.slcBmErraddr n b) (at_ (t + 40) 2 % 512)
    let first := fun (port o : Nat) => BitVec.ofNat 64 (at_ (if d.bmOreg n (d.act n) b port then o else o + 8) 8)
    let c : BmCtl := ⟨first 0 t, BitVec.ofNat 64 (at_ (t + 8) 8), first 1 (t + 16), BitVec.ofNat 64 (at_ (t + 24) 8),
      at_ (t + 32) 2, at_ (t + 34) 2, at_ (t + 36) 2⟩
    d.modSlot n fun s => { s with bm := s.bm.set (slotOf b) c }) d
  let c := 75280 + 16
  d.modSlot n fun s => { s with
    ddr := BitVec.ofNat 64 (at_ (c + 8) 8)
    ddrFall := BitVec.ofNat 16 (ofBits ((List.range 16).map fun k => bitOf (at_ (c + 8) 8) (4 * k + 1)))
    holdPins := BitVec.ofNat 64 (at_ (c + 16) 8)
    holdH := BitVec.ofNat 64 (at_ (c + 24) 8), holdV := BitVec.ofNat 64 (at_ (c + 32) 8)
    overran := bitOf (at_ (c + 1) 1) 0, skipped := bitOf (at_ (c + 1) 1) 1
    mb := { s.mb with userPrev := BitVec.ofNat 8 (at_ (c + 2) 1) } }

/-- Entries of a queue area of the MAILBOX body. -/
def queueOf (body : List Byte) (o n : Nat) : List (BitVec 512) :=
  (List.range n).map fun k => BitVec.ofNat 512 (leAt body (o + 64 * k) 64)

/-- Write the mailbox of member 0, in one instant (R822). -/
def Device.restoreMailbox (d : Device) (body : List Byte) (n : Fin 16) : Device :=
  let b := fun i => leAt body (16 + i) 1
  let d := iter 16 (fun k d => d.wr (Reg.mbInStage n k) (leAt body (16 + 64 + 4 * k) 4)) d
  let d := (d.wr (Reg.mbFlags n) (b 4)).setFld (Fld.mbInLowwaterLevel n) (b 5)
  d.modSlot n fun s => { s with mb := { s.mb with
    inq := queueOf body (16 + 192) (b 0), inVis := b 1, outq := queueOf body (16 + 4288) (b 2), outVis := b 3
    outStage := BitVec.ofNat 512 (leAt body (16 + 128) 64), inWidx := 0 } }

/-- End a restore with a code: event 508 and the completion (R824, R825); a slot code shows in the RESULT of its slots too (R469). -/
def Device.restoreEnd (d : Device) (r : RestoreJob) (code : Nat) : Device :=
  let d := { d with scribe := { d.scribe with restores := d.scribe.restores.filter fun x => x.cid != r.cid } }
  let d := if code = 0 ∨ code = 0x44 ∨ code = 0x47 then d.forSlots r.members fun n d => d.slotResult n code else d
  (d.raise 508 [((r.members.headD 0).val, 4), (code, 8)]).complete r.cid code (if code = 0 then d.tickNumber else [])

/-- A restore finishes writing (R822, R823): its release is then a request for position 4, unless tick RELEASE_TURN has passed, which
ends it with 0x97 and the state written. A member that is held and ON no more takes nothing (assumption log 41). -/
def Device.restoreWritten (d : Device) (cid : Nat) : Device :=
  match d.scribe.restores.find? fun r => r.cid = cid && r.stage = 1 with
  | none => d
  | some r =>
    let held := fun (n : Fin 16) => ((d.slot n).st == .loaded || (d.slot n).st == .held) && (d.slot n).power == .on
    let n0 := r.members.headD 0
    let mail := held n0
    let d := ((r.members.zipIdx).filter fun x => held x.1).foldl (fun d x => d.restoreMember r.record x.2 x.1) d
    let d := if mail then d.restoreMailbox r.record n0 else d
    if r.relTurn ≠ 0 ∧ r.relTurn ≤ d.turnCount then d.restoreEnd r 0x97
    else
      { d with scribe := { d.scribe with
        restores := d.scribe.restores.map fun x => if x.cid = cid then { x with stage := 2 } else x } }

/-- A slot becomes RUNNING at a release (R475, R824): it is checked from the next tick on, sees the strobes of this tick and
reads RESUMED throughout the turn. Its product-term clocks show no edge (R150), unless a swap or reset of this tick lasts on. -/
def Device.startRunning (d : Device) (n : Fin 16) : Device :=
  d.modSlot n fun s => { s with
    st := .running, resumed := true, cyc := if s.cyc.swaps || s.cyc.resets then s.cyc else .start }

/-- Position 4 for one restore at the tick that opens turn `tick` (R823, R824, R429, R450). -/
def Device.restoreRelease (d : Device) (r : RestoreJob) (tick : Nat) : Device :=
  let due := r.relTurn = 0 ∨ r.relTurn ≤ tick
  if r.stage = 1 || !due then d
  else if r.members.any fun n => match (d.slot n).copying with | some (f, _) => f | none => false then d
  else if r.members.any fun n => !((d.slot n).st == .loaded || (d.slot n).st == .held) || (d.slot n).power != .on ||
      d.flag Fld.safeStatusDss then d.restoreEnd r 0x44
  else if !d.imagesAgree (r.members.headD 0) then d.restoreEnd r 0x47
  else
    let d := d.forSlots r.members fun n d => (d.startRunning n).modSlot n fun s => { s with restored := true }
    d.restoreEnd r 0

end Sys2Proof.Machine
end

