-- ==== Sys2Proof/Machine/BlockMem.lean ====
section
/-! DEFINITION. Block memories: stored bits, port operations, hard FIFOs, SECDED reads, and the host window (chapter 06). -/

namespace Sys2Proof.Machine

/-! ### Stored bits (R198, R202, raw content layout of R340) -/

/-- `w` data bits from data bit `i` of a block memory. -/
def Device.bmData (d : Device) (n b i w : Nat) : Nat :=
  bitsOf (d.le (keyBm n b + i / 8) ((i % 8 + w + 7) / 8)) (i % 8) w

/-- `w` ninth bits from ninth bit `i`. -/
def Device.bmNinth (d : Device) (n b i w : Nat) : Nat :=
  bitsOf (d.le (keyBm n b + 4096 + i / 8) ((i % 8 + w + 7) / 8)) (i % 8) w

/-- Store `w` data bits from data bit `i`. -/
def Device.setBmData (d : Device) (n b i w v : Nat) : Device :=
  let len := (i % 8 + w + 7) / 8
  d.setLe (keyBm n b + i / 8) len (withBits (d.le (keyBm n b + i / 8) len) (i % 8) w v)

/-- Store `w` ninth bits from ninth bit `i`. -/
def Device.setBmNinth (d : Device) (n b i w v : Nat) : Device :=
  let len := (i % 8 + w + 7) / 8
  d.setLe (keyBm n b + 4096 + i / 8) len (withBits (d.le (keyBm n b + 4096 + i / 8) len) (i % 8) w v)

/-- Data bits per word, ninth bits per word and depth of an aspect ("Aspects" table; 6 stands for ×72). -/
def aspect (a : Nat) : Nat × Nat × Nat :=
  match a with
  | 0 => (1, 0, 32768)
  | 1 => (2, 0, 16384)
  | 2 => (4, 0, 8192)
  | 3 => (8, 1, 4096)
  | 4 => (16, 2, 2048)
  | 5 => (32, 4, 1024)
  | _ => (64, 8, 512)

/-- Width of a word of an aspect. -/
def aspectWidth (a : Nat) : Nat := (aspect a).1 + (aspect a).2.1

/-- The word at an address of an aspect (R202); address bits above those the aspect uses are ignored. -/
def Device.bmWord (d : Device) (n b asp addr : Nat) : Nat :=
  let (wd, l, dep) := aspect asp
  let a := addr % dep
  d.bmData n b (a * wd) wd + d.bmNinth n b (a * l) l * 2 ^ wd

/-- The bits of a word that a write with lane enables `lanes` stores: every bit where the aspect has no lanes (R203). -/
def laneMask (asp lanes : Nat) : Nat :=
  let (wd, l, _) := aspect asp
  if l = 0 then 2 ^ wd - 1
  else (List.range l).foldl (fun a j => if bitOf lanes j then a + 0xFF * 2 ^ (8 * j) + 2 ^ (wd + j) else a) 0

/-- `new` where `mask` has a bit, `old` elsewhere. -/
def maskMerge (old new mask : Nat) : Nat := Nat.xor old (Nat.land (Nat.xor old new) mask)

/-- Write the lanes of a word. -/
def Device.setBmWord (d : Device) (n b asp addr lanes v : Nat) : Device :=
  let (wd, l, dep) := aspect asp
  let a := addr % dep
  let w := maskMerge (d.bmWord n b asp addr) v (laneMask asp lanes)
  (d.setBmData n b (a * wd) wd w).setBmNinth n b (a * l) l (w / 2 ^ wd)

/-! ### In use (R200, R1024) -/

/-- The active plane's configuration of a block memory is in use and keeps every rule that the loader judges. -/
def Device.bmActive (d : Device) (n : Fin 16) (b : Nat) : Bool :=
  d.bmCfg n (d.act n) b 0 1 == 1 && d.bmGood n (d.act n) b

/-- A field of the active plane's configuration of a block memory. -/
def Device.bmNow (d : Device) (n : Fin 16) (b lo w : Nat) : Nat := d.bmCfg n (d.act n) b lo w

/-- Controller of a block memory. -/
def Device.bmCtl (d : Device) (n : Fin 16) (b : Nat) : BmCtl := (d.slot n).bm[slotOf b]

/-- Change a controller. -/
def Device.setBmCtl (d : Device) (n : Fin 16) (b : Nat) (c : BmCtl) : Device :=
  d.modSlot n fun s => { s with bm := s.bm.set (slotOf b) c }

/-- Final read output of port A, and of port B: the output register where OREG is 1 (R205). -/
def Device.bmOutA (d : Device) (n : Fin 16) (b : Nat) : Nat :=
  if d.bmOreg n (d.act n) b 0 then (d.bmCtl n b).a2.toNat else (d.bmCtl n b).a1.toNat
def Device.bmOutB (d : Device) (n : Fin 16) (b : Nat) : Nat :=
  if d.bmOreg n (d.act n) b 1 then (d.bmCtl n b).b2.toNat else (d.bmCtl n b).b1.toNat

/-- The 64 read lines of a block memory ("Read line assignment" table, "FIFO flags" table). -/
def Device.bmLines (d : Device) (n : Fin 16) (b : Nat) : Nat :=
  if !d.bmActive n b then 0
  else
    let mode := d.bmNow n b 1 2
    let a := d.bmNow n b 3 3
    if mode = 1 then d.bmOutA n b
    else if mode = 2 then
      let c := d.bmCtl n b
      let cap := fifoCap a
      d.bmOutA n b % 2 ^ aspectWidth a +
        2 ^ 56 * (natOf (c.depth == 0) + 2 * natOf (decide (c.depth ≤ d.bmNow n b 21 13)) +
          4 * natOf (decide (d.bmNow n b 34 13 ≤ c.depth)) + 8 * natOf (c.depth == cap) +
          16 * d.fld (Fld.slcBmStatusOverflow n b) + 32 * d.fld (Fld.slcBmStatusUnderflow n b))
    else if d.bmNow n b 20 1 = 1 then d.bmOutA n b % 2 ^ aspectWidth a
    else d.bmOutA n b % 2 ^ min 32 (aspectWidth a) +
      2 ^ 32 * (d.bmOutB n b % 2 ^ min 32 (aspectWidth (d.bmNow n b 6 3)))

/-! ### Port pins -/

/-- What a port's 58 input pins carry. -/
structure PortPins where
  en   : Bool
  we   : Bool
  bwe  : Nat
  addr : Nat
  din  : Nat
  orst : Bool
  deriving DecidableEq, Repr

/-- Pins from their values in BM_ISEL order, pin 0 lowest. -/
def portPins (v : Nat) : PortPins :=
  ⟨bitOf v 0, bitOf v 1, bitsOf v 2 4, bitsOf v 6 15, bitsOf v 21 36, bitOf v 57⟩

/-- A block memory's sticky COLLIDE flag. -/
def Device.bmCollide (d : Device) (n : Fin 16) (b : Nat) : Device := d.setFlag (Fld.slcBmStatusCollide n b) true

/-- Shift a port's read stages at one of its edges: the first stage takes `r` where the port produced a read, the output
register takes the first stage's former value, and ORST makes the final output 0 (R205, R206). -/
def shiftStages (oreg orst : Bool) (s1 s2 : BitVec 64) (r : Option Nat) : BitVec 64 × BitVec 64 :=
  let n1 : BitVec 64 := match r with
    | some v => BitVec.ofNat 64 v
    | none => s1
  if oreg then (n1, if orst then 0 else s1) else (if orst then 0 else n1, s2)

/-- The read output of a true dual-port access: none where the output keeps its value (R203, R204). -/
def portRead (p : PortPins) (wmode old new : Nat) : Option Nat :=
  if !p.en then none
  else if !p.we then some old
  else if wmode = 1 then some old else if wmode = 2 then none else some new

/-- Bit positions, data bits first and ninth bits above 32,768, that a write of a word covers. -/
def writtenBits (asp addr lanes : Nat) : List Nat :=
  let (wd, l, dep) := aspect asp
  let a := addr % dep
  (List.range (wd + l)).filterMap fun i =>
    if bitOf (laneMask asp lanes) i then some (if i < wd then a * wd + i else 32768 + a * l + (i - wd)) else none

/-- True dual-port operation at an instant at which port A, port B or both have an edge (R203 to R206, R211 to R213). -/
def Device.bmTdp (d : Device) (n : Fin 16) (b : Nat) (pa pb : Option PortPins) : Device :=
  let aa := d.bmNow n b 3 3
  let ab := d.bmNow n b 6 3
  let wr := fun (p : Option PortPins) => match p with | some q => q.en && q.we | none => false
  let own := fun (p : PortPins) (asp : Nat) =>
    maskMerge (d.bmWord n b asp p.addr) p.din (laneMask asp p.bwe)
  let ra := pa.map fun p => portRead p (d.bmNow n b 9 2) (d.bmWord n b aa p.addr) (own p aa)
  let rb := pb.map fun p => portRead p (d.bmNow n b 11 2) (d.bmWord n b ab p.addr) (own p ab)
  let c := d.bmCtl n b
  let (a1, a2) := match pa, ra with
    | some p, some r => shiftStages (d.bmNow n b 13 1 == 1) p.orst c.a1 c.a2 r
    | _, _ => (c.a1, c.a2)
  let (b1, b2) := match pb, rb with
    | some p, some r => shiftStages (d.bmNow n b 14 1 == 1) p.orst c.b1 c.b2 r
    | _, _ => (c.b1, c.b2)
  let d := match pb with
    | some p => if wr pb then d.setBmWord n b ab p.addr p.bwe p.din else d
    | none => d
  let d := match pa with
    | some p => if wr pa then d.setBmWord n b aa p.addr p.bwe p.din else d
    | none => d
  let d := d.setBmCtl n b { c with a1 := a1, a2 := a2, b1 := b1, b2 := b2 }
  match pa, pb with
  | some p, some q =>
    if wr pa && wr pb &&
        (writtenBits aa p.addr p.bwe).any (fun x => decide (x ∈ writtenBits ab q.addr q.bwe)) then d.bmCollide n b
    else d
  | _, _ => d

/-- A read under ECC_EN (R210, R241, R242): the delivered data. -/
def Device.bmEccRead (d : Device) (n : Fin 16) (b w : Nat) : Nat × Device :=
  let v := d.bmData n b (64 * w) 64
  match eccDecode v (d.bmNinth n b (8 * w) 8) with
  | .clean => (v, d)
  | .corrected x => (x, (d.incFld (Fld.slcBmStatusCorrCount n b)).raiseSlot n 11 [])
  | .uncorrectable =>
    let d := if d.flag (Fld.slcBmStatusUncorr n b) then d else (d.wr (Reg.slcBmErraddr n b) w)
    (v, (d.setFlag (Fld.slcBmStatusUncorr n b) true).raiseSlot n 12 [])

/-- Simple dual-port operation (R208 to R212, R234): port B writes the 72-bit word, port A reads the old one. `pb` gives
port A's pins beside port B's own, since the write word takes DIN and BWE of both. -/
def Device.bmSdp (d : Device) (n : Fin 16) (b : Nat) (pa : Option PortPins) (pb : Option (PortPins × PortPins)) : Device :=
  let ecc := d.bmNow n b 19 1 == 1
  let c := d.bmCtl n b
  let (c, d) := match pa with
    | none => (c, d)
    | some p =>
      let (r, d) := if p.en then
          if ecc then
            let (v, d) := d.bmEccRead n b (p.addr % 512)
            (some v, d)
          else (some (d.bmData n b (64 * (p.addr % 512)) 64), d)
        else (none, d)
      let (a1, a2) := shiftStages (d.bmNow n b 13 1 == 1) p.orst c.a1 c.a2 r
      ({ c with a1 := a1, a2 := a2 }, d)
  let d := d.setBmCtl n b c
  match pb with
  | none => d
  | some (q, p) =>
    if !(q.en && q.we) then d
    else
      let data := q.din % 2 ^ 32 + (p.din % 2 ^ 32) * 2 ^ 32
      if ecc then d.setBmWord n b 6 q.addr 0xFF (data + checkByte data * 2 ^ 64)
      else
        let ninth := bitsOf q.din 32 4 + bitsOf p.din 32 4 * 16
        d.setBmWord n b 6 q.addr (q.bwe + p.bwe * 16) (data + ninth * 2 ^ 64)

/-! ### Hard FIFO (R215 to R221, R236) -/

/-- OVERFLOW or UNDERFLOW is set; a change from 0 to 1 raises slot event 13 (R220). -/
def Device.bmFifoFlag (d : Device) (n : Fin 16) (f : Fld) : Device :=
  if d.flag f then d else (d.setFlag f true).raiseSlot n 13 []

/-- The clear input's edge (R221). -/
def Device.fifoClear (d : Device) (n : Fin 16) (b : Nat) : Device :=
  let c := d.bmCtl n b
  let d := d.setBmCtl n b { c with a1 := 0, depth := 0, head := 0, tail := 0 }
  (d.setFlag (Fld.slcBmStatusOverflow n b) false).setFlag (Fld.slcBmStatusUnderflow n b) false

/-- Serve a push, a pop or both under the "FIFO queue rule" table; afterwards the lines carry the head entry while the
depth is 1 or more, and keep their value otherwise (R216). -/
def Device.fifoServe (d : Device) (n : Fin 16) (b : Nat) (push pop : Bool) (din : Nat) : Device :=
  let asp := d.bmNow n b 3 3
  let cap := fifoCap asp
  let c := d.bmCtl n b
  let popOk := pop && decide (0 < c.depth)
  let pushOk := push && (decide (c.depth < cap) || popOk)
  let d := if pop && !popOk then d.bmFifoFlag n (Fld.slcBmStatusUnderflow n b) else d
  let d := if push && !pushOk then d.bmFifoFlag n (Fld.slcBmStatusOverflow n b) else d
  let d := if pushOk then d.setBmWord n b asp c.tail 0xFF din else d
  let c := if pushOk then { c with tail := (c.tail + 1) % cap, depth := c.depth + 1 } else c
  let c := if popOk then { c with head := (c.head + 1) % cap, depth := c.depth - 1 } else c
  let c := if 0 < c.depth then { c with a1 := BitVec.ofNat 64 (d.bmWord n b asp c.head) } else c
  d.setBmCtl n b c

/-! ### Host window and DMA (R225 to R230) -/

/-- The aperture of a block memory is served: host-visible under a valid active plane, and in use (R227, R1024). -/
def Device.bmVisible (d : Device) (n : Fin 16) (b : Nat) : Bool :=
  d.pValid n (d.act n) && d.bmActive n b && d.bmNow n b 20 1 == 1

/-- The image of the active plane carries HOSTWIN_RO (R229). -/
def Device.hostwinRo (d : Device) (n : Fin 16) : Bool := bitOf (d.pSec n (d.act n)) 3

/-- A block memory is out of reach: RETAIN, OFF or SWEEPING (R230). -/
def Device.bmUnready (d : Device) (n : Fin 16) : Bool := (d.slot n).power != .on || (d.slot n).st == .sweeping

/-- The planes that would tell which memories are host-visible are gone: OFF or SWEEPING, which answer as R230 states. -/
def Device.planesGone (d : Device) (n : Fin 16) : Bool := (d.slot n).power == .off || (d.slot n).st == .sweeping

/-- The 8 bytes of host word `w` (R226). -/
def Device.hostWord (d : Device) (n b w : Nat) : List Byte :=
  leBytes 4 (d.bmData n b (32 * w) 32) ++ leBytes 1 (d.bmNinth n b (4 * w) 4) ++ [0, 0, 0]

/-- Bytes of a host window at aperture offset `off`. -/
def Device.hostBytes (d : Device) (n b off len : Nat) : List Byte :=
  (List.range len).map fun i => ((d.hostWord n b ((off + i) / 8))[(off + i) % 8]?).getD 0

/-- Stored bit positions, data bits first and ninth bits above 32,768, that a host write of the enabled bytes covers (R226). -/
def hostBits (off : Nat) (en : List Bool) : List Nat :=
  en.zipIdx.flatMap fun x =>
    let o := off + x.2
    if !x.1 then []
    else if o % 8 < 4 then (List.range 8).map (32 * (o / 8) + 8 * (o % 8) + ·)
    else if o % 8 = 4 then (List.range 4).map (32768 + 4 * (o / 8) + ·)
    else []

/-- Write the enabled bytes at aperture offset `off` (R226). -/
def Device.hostStore (d : Device) (n b off : Nat) (en : List Bool) (data : List Byte) : Device :=
  (data.zip en).zipIdx.foldl (fun d x =>
    let o := off + x.2
    let v := x.1.1.toNat
    if !x.1.2 then d
    else if o % 8 < 4 then d.setBmData n b (32 * (o / 8) + 8 * (o % 8)) 8 v
    else if o % 8 = 4 then d.setBmNinth n b (4 * (o / 8)) 4 v
    else d) d

end Sys2Proof.Machine
end

