-- ==== Sys2Proof/Machine/Access.lean ====
section
/-! DEFINITION. How the bus matrix judges one access: address decoding, paths, access control tables, readiness, and the denial
and decode error records (R34 to R42, R563, R579 to R584, R940). -/

namespace Sys2Proof.Machine

/-! ### Address decoding (R34 to R37) -/

/-- The target whose decoded range holds an internal address. -/
def targetOf (addr : Nat) : Option Nat :=
  if addr < 0x2000000 then some 0
  else if 0x10000000 ≤ addr ∧ addr < 0x10800000 then some 1
  else if (0x20000000 ≤ addr ∧ addr < 0x20040000) ∨ (0x20100000 ≤ addr ∧ addr < 0x20120000) then some 2
  else if 0x30000000 ≤ addr ∧ addr < 0x30010000 then some 3
  else if 0x40000000 ≤ addr ∧ addr < 0x50000000 then some 4
  else if 0x60000000 ≤ addr ∧ addr < 0x68000000 then some 5
  else if 0x80000000 ≤ addr ∧ addr < 0x81000000 then some 6
  else if 0x90000000 ≤ addr ∧ addr < 0x90040000 then some 7
  else none

/-- The slot and block memory of an address of the block memory apertures of T4. -/
def apertureOf (addr : Nat) : Option (Fin 16 × Nat) :=
  let o := (addr - 0x40000000) % 0x1000000
  if 0x40000000 ≤ addr ∧ addr < 0x50000000 ∧ 0x100000 ≤ o ∧ o < 0x200000 then
    some (slotOf ((addr - 0x40000000) / 0x1000000), (o - 0x100000) / 0x10000)
  else none

/-- The slot, plane, frame and byte of an address of T5 that falls in the first 128 bytes of a present frame (R375, R376). -/
def planeByteOf (addr : Nat) : Option (Fin 16 × Nat × Nat) :=
  if 0x60000000 ≤ addr ∧ addr < 0x68000000 then
    let o := addr - 0x60000000
    match frameOfOffset (o % 0x400000) with
    | some (_, _, _, k) => some (slotOf (o / 0x800000), o / 0x400000 % 2, k)
    | none => none
  else none

/-- The target of an address, where the address lies in no hole (R36, R37, R227, R376, R1024). -/
def Device.decode (d : Device) (addr : Nat) : Option Nat :=
  match targetOf addr with
  | some 3 | some 6 => if (regSpecAt (addr / 4 * 4)).isSome then targetOf addr else none
  | some 4 =>
    match apertureOf addr with
    | some (n, b) => if addr % 0x10000 < 0x2000 && (d.planesGone n || d.bmVisible n b) then some 4 else none
    | none => if (regSpecAt (addr / 4 * 4)).isSome then some 4 else none
  | some 5 => if (planeByteOf addr).isSome then some 5 else none
  | t => t

/-! ### Paths (R39, R42) -/

/-- The "Matrix paths" table: master `m` has a path to target `t`, for writes where `write` holds. -/
def pathTable (m t : Nat) (write : Bool) : Bool :=
  if m = 0 ∨ m = 1 then t == 1 || t == 2 || t == 4 || t == 6
  else if m = 2 then !write && (t == 0 || t == 1)
  else if m = 3 then t != 5
  else if m = 4 then t == 1 || t == 6
  else if m = 5 then true
  else if m = 6 then t == 4 || t == 5 || (!write && (t == 0 || t == 1))
  else if m = 7 then t == 1 || t == 4 || t == 5
  else m == 8 && t == 4

/-- A path exists now: the lock bits JTAG_DISABLE and DEBUG_LOCK remove those of M5 (R42). -/
def Device.hasPath (d : Device) (m t : Nat) (write : Bool) : Bool :=
  pathTable m t write && !(m == 5 && (d.lockBit 0 || d.lockBit 2))

/-! ### Access control tables (R579 to R582) -/

/-- Internal address from which the regions of a target count. -/
def targetBase (t : Nat) : Nat :=
  if t = 0 then 0 else if t = 1 then 0x10000000 else if t = 2 then 0x20000000 else if t = 3 then 0x30000000
  else if t = 4 then 0x40000000 else if t = 5 then 0x60000000 else if t = 6 then 0x80000000 else 0x90000000

/-- Enabled region `r` of target `t` covers an address (R579). -/
def Device.regionCovers (d : Device) (t r addr : Nat) : Bool :=
  let b := d.rd (Reg.actRgnBase t r)
  let l := d.rd (Reg.actRgnLimit t r)
  let o := addr - targetBase t
  bitOf b 0 && decide (targetBase t ≤ addr) && decide (b / 4096 * 4096 ≤ o) && decide (o ≤ l / 4096 * 4096 + 0xFFF)

/-- KEY and PERM of the hardwired entries (R582). -/
def hardKey (e : Nat) : Nat := if e = 0 then 0x80CC003E else 0x8020003F

/-- KEY of an entry. -/
def Device.actKey (d : Device) (t e : Nat) : Nat := if e < 2 then hardKey e else d.rd (Reg.actEntKey t e)

/-- Entry `e` matches master `m` and a TCID (R580). -/
def Device.entryMatches (d : Device) (t e m tcid : Nat) : Bool :=
  let k := d.actKey t e
  bitOf k 31 && bitOf k (16 + m) && k % 64 == tcid

/-- The ACT of a target grants an access (R581, R582). -/
def Device.actGrants (d : Device) (t m tcid addr : Nat) (write : Bool) : Bool :=
  (List.range 64).any fun e =>
    d.entryMatches t e m tcid && (decide (e < 2) ||
      (List.range 16).any fun r =>
        bitOf (d.rd (Reg.actEntPerm t e)) (r + if write then 16 else 0) && d.regionCovers t r addr)

/-! ### Readiness (R940, R941) -/

/-- DEV_READY reports the function that an address needs as ready. -/
def Device.targetReady (d : Device) (t addr : Nat) : Bool :=
  if t = 0 then d.flag Fld.devReadyResident
  else if t = 1 then d.flag Fld.devReadyBench
  else if t = 2 then (if addr < 0x20100000 then d.flag Fld.devReadyGrainS else d.flag Fld.devReadyGrainD)
  else if t = 3 then d.flag Fld.devReadySec
  else if t = 7 then d.flag Fld.devReadyAon && d.fldBit Fld.pwrDomStatusOn 21
  else if t = 6 ∧ 0x80090000 ≤ addr ∧ addr < 0x800A0000 then true
  else d.flag Fld.devReadyAon

/-! ### Records of failed judgements -/

/-- The head record of ACT_DENY_LOG shows in its registers, and DEPTH and FULL show the records held (R584). -/
def Device.mirrorDenials (d : Device) : Device :=
  let d := match d.denials with
    | [] => ((d.wr Reg.actDenyLog0 0).wr Reg.actDenyLog1 0).wr Reg.actDenyLog2 0
    | x :: _ => ((d.wr Reg.actDenyLog0 (x.addr % 2 ^ 32)).wr Reg.actDenyLog1 (x.fields * 2048 + x.addr / 2 ^ 32 % 256)).wr
        Reg.actDenyLog2 x.turn
  (d.setFld Fld.actDenyStatusDepth d.denials.length).setFlag Fld.actDenyStatusFull (decide (d.denials.length = 16))

/-- A path denial (kind 0) or ACT denial (kind 1) of an access: its record and event 433; a refused push sets OVERFLOW, counts
and raises event 434 (R41, R584). -/
def Device.deny (d : Device) (m tcid t addr : Nat) (write : Bool) (kind : Nat) : Device :=
  let d := d.raise 433 [(m, 4), (tcid, 6), (t, 3)]
  if 16 ≤ d.denials.length then
    ((d.setFlag Fld.actDenyStatusOverflow true).incFld Fld.actDenyLostCount).raise 434 []
  else
    let x : DenyRecord := ⟨addr, kind * 2 ^ 14 + natOf write * 2 ^ 13 + tcid * 2 ^ 7 + t * 2 ^ 4 + m, d.rd Reg.turnCountLo⟩
    ({ d with denials := d.denials ++ [x] }).mirrorDenials

/-- ACT_DENY_POP (R584, R599). -/
def Device.denyPop (d : Device) : Device :=
  match d.denials with
  | [] => d.setFlag Fld.actDenyStatusUnderflow true
  | _ :: t => ({ d with denials := t }).mirrorDenials

/-- A decode error: event 432 and the first one's record (R36, R590). -/
def Device.decodeError (d : Device) (m tcid addr : Nat) (write : Bool) : Device :=
  let d := if d.flag Fld.bmxDecLog1Valid then d else
    (d.wr Reg.bmxDecLog0 (addr % 2 ^ 32)).wr Reg.bmxDecLog1
      (2 ^ 31 + natOf write * 2 ^ 22 + tcid * 2 ^ 16 + m * 2 ^ 12 + addr / 2 ^ 32 % 256)
  d.raise 432 [(m, 4), (tcid, 6)]

/-- An uncorrectable integrity error of a transaction: BMX_INT_COUNT, event 437, and the MATRIX cause with event 485 (R585). -/
def Device.integrityError (d : Device) (m t : Nat) : Device :=
  ((d.incFld Fld.bmxIntCountCount).raise 437 [(m, 4), (t, 3)]).signal 5 485 [(m, 4), (t, 3)]

/-- The injection of MECH 5 meets a transaction of master `m` and has then been used (R984). -/
def Device.takeInjection (d : Device) (m : Nat) : Bool × Device :=
  match d.safety.inj with
  | some (5, _) =>
    if m = 3 then (true, ({ d with safety := { d.safety with inj := none } }).setFlag Fld.safeStatusInjBusy false) else (false, d)
  | _ => (false, d)

/-- A write of Bench memory by master `m`; where the injection of MECH 8 waits, a word that M3 writes whole is stored with a two-bit
error, and the injection has been used (R984). -/
def Device.benchWriteBy (d : Device) (m off : Nat) (en : List Bool) (data : List Byte) : Bool × Device :=
  let (ok, d) := d.benchWrite off en data
  let whole := (List.range ((off + en.length) / 8 - (off + 7) / 8)).find? fun i =>
    ((en.drop (8 * ((off + 7) / 8 + i) - off)).take 8).all id
  match whole with
  | some i =>
    if m = 3 ∧ d.bench.inject ∧ ok then
      let w := (off + 7) / 8 + i
      let d := d.setLe (benchBase + 8 * w) 8 (Nat.xor (d.benchData w) 3)
      (ok, ({ d with bench := { d.bench with inject := false }, safety := { d.safety with inj := none } }).setFlag
        Fld.safeStatusInjBusy false)
    else (ok, d)
  | none => (ok, d)

/-- Steps 2 and 4 of R563 for a span of bytes of a target, as a page write is judged (R654): true where neither denies, else the
denial is logged. The span's first byte in each 64-byte block is judged. -/
def Device.judgeSpan (d : Device) (m tcid t addr len : Nat) (write : Bool) : Bool × Device :=
  if !d.hasPath m t write then (false, d.deny m tcid t addr write 0)
  else
    let blocks := (List.range ((addr + len - 1) / 64 + 1 - addr / 64)).map fun i => max addr (64 * (addr / 64 + i))
    match blocks.find? fun a => !d.actGrants t m tcid a write with
    | some a => (false, d.deny m tcid t a write 1)
    | none => (true, d)

/-- The master whose transactions carry a TCID and write registers of T6 (R38): a port, Heartwood's data side, the SMBus bridge,
or JTAG. -/
def masterOfTcid (tcid : Nat) : Nat :=
  if tcid = 0x3E then 3 else if tcid = 0x3F then 5 else if tcid = 0x3D then 4 else if 0x20 ≤ tcid then 1 else 0

/-- The TCID of a function of a port (R38). -/
def tcidOf (p : Fin 2) (fn : Nat) : Nat := 0x20 * p.val + fn

/-- The port and function that own a TCID (R38). -/
def portOfTcid (tcid : Nat) : Option (Fin 2 × Nat) :=
  if tcid ≤ 16 then some (0, tcid) else if 0x20 ≤ tcid ∧ tcid ≤ 0x30 then some (1, tcid - 0x20) else none

end Sys2Proof.Machine
end

