-- ==== Sys2Proof/Machine/Fabric.lean ====
section
/-! DEFINITION. The fabric of a slot: function blocks, macrocells, routing, chuck channels, ball paths, and what a slot clock
edge does (chapters 04, 05, 07, 12). Delays inside the device are padded figures; the model takes every path as settled
between two commands, but for the first edge under a new plane (R423, assumption log 20). -/

namespace Sys2Proof.Machine

/-! ### What the fabric reads -/

/-- A slot's fabric acts: RUNNING, ON, past the relock of R906, and no capture reads it (R141, R152, R812). -/
def Device.fabricLive (d : Device) (n : Fin 16) : Bool :=
  (d.slot n).st == .running && (d.slot n).power == .on && !(d.slot n).clk.syncWait && !d.captureReading n

/-- Locked synthesisers of the active plane. -/
def Device.lockAct (d : Device) (n : Fin 16) : Nat :=
  (if (d.slot n).active then (d.slot n).clk.lockB else (d.slot n).clk.lockA).toNat

/-- Output `i` of a slot clock unit runs (R177, R178, R184, R185). -/
def Device.clockRuns (d : Device) (n : Fin 16) (i : Nat) : Bool :=
  d.fabricLive n && d.refclk && bitOf (d.clkEn n (d.act n)) i && bitOf (d.lockAct n) i && d.ckOk n (d.act n) i

/-- Slot control inputs 4 to 27 of a slot; a member other than member 0 reads 0 on its mailbox inputs (R468, "Slot control
inputs" table). -/
def Device.ctrlInputs (d : Device) (n : Fin 16) : Nat :=
  let s := d.slot n
  let mail := s.gmember == 0
  16 * natOf s.slotEn + 32 * natOf (mail && decide (0 < s.mb.inVis)) +
    64 * natOf (mail && decide (s.mb.outq.length < 64)) + 128 * natOf s.resumed + 256 * natOf s.restored +
    512 * natOf s.trial.isSome + 1024 * natOf s.overran + 2048 * natOf s.skipped +
    4096 * (if mail then s.mb.inData else 0)

/-- Supply VCCIO_n is above its falling threshold, as far as the monitors have told (R85, R89, R114). -/
def Device.bankOn (d : Device) (n : Fin 16) : Bool := !d.por && !bitOf d.power.low.toNat (16 + n.val)

/-- A JTAG instruction that takes control of the balls is current (R708). -/
def Device.scanning (d : Device) : Bool := d.jtag.ir == 0x00 || d.jtag.ir == 0x0C || d.jtag.ir == 0x0D

/-- What boundary scan drives on ball `i` of bank `n`: its output cell where EXTEST or CLAMP is current, the enable cell is 1 and the bank
has its supply; nothing else (R707, R708). -/
def Device.scanDrive (d : Device) (n : Fin 16) (i : Nat) : Option Bool :=
  if (d.jtag.ir == 0x00 || d.jtag.ir == 0x0D) && d.bankOn n && bitOf d.jtag.bscan.toNat (96 * n.val + 3 * i + 2) then
    some (bitOf d.jtag.bscan.toNat (96 * n.val + 3 * i + 1))
  else none

/-- The level of a ball that nothing drives, by its PULL: pull-up, pull-down, the level the bus keeper holds, or open, which is a free
bit (R246, R249). -/
def Device.pulled (d : Device) (n : Fin 16) (i : Nat) : Bool :=
  let pull := if i < 32 then d.pinCfg n (d.act n) i 4 2 else 0
  if pull = 1 then true
  else if pull = 2 then false
  else if pull = 3 then bitOf (d.slot n).keeper.toNat i
  else Config.freeBit d.freeCtr (2 ^ 23 + 64 * n.val + i)

/-- The received value of a differential input: the true leg while both legs are driven apart, else open (R251). -/
def Device.diffLevel (d : Device) (n : Fin 16) (i : Nat) : Bool :=
  let s := d.slot n
  if bitOf s.pinDrv.toNat i && bitOf s.pinDrv.toNat (i + 1) && (bitOf s.pinIn.toNat i != bitOf s.pinIn.toNat (i + 1)) then
    bitOf s.pinIn.toNat i
  else Config.freeBit d.freeCtr (2 ^ 23 + 64 * n.val + 34 + i)

/-- The level that ball `i` of a bank shows while the device's fabric does not drive it (R246, R249, R251, R260, R265). -/
def Device.restLevel (d : Device) (n : Fin 16) (i : Nat) : Bool :=
  let s := d.slot n
  if !d.bankOn n then false
  else if d.scanning then
    if bitOf s.pinDrv.toNat i then bitOf s.pinIn.toNat i
    else match (if i < 32 then d.scanDrive n i else none) with
      | some b => b
      | none => d.pulled n i
  else if i < 32 && d.pairMode n (d.act n) (i / 2) == 1 then i % 2 == 0 && d.diffLevel n i
  else if i = 32 ∧ d.gckMode n (d.act n) = 1 then d.diffLevel n 32
  else if bitOf s.pinDrv.toNat i then bitOf s.pinIn.toNat i
  else d.pulled n i

/-- What the fabric of a slot reads now. -/
def Device.curView (d : Device) (n : Fin 16) : FabView :=
  let s := d.slot n
  ⟨s.mc, s.clkHigh,
   BitVec.ofNat 1024 ((List.range 16).foldl (fun a b => a + d.bmLines n b * 2 ^ (64 * b)) 0),
   BitVec.ofNat 28 (s.turnLev.toNat + 16 * s.ctrlReg.toNat),
   BitVec.ofNat 34 (ofBits ((List.range 34).map fun i => d.restLevel n i)),
   if d.scanning then BitVec.allOnes 34 else s.pinDrv, s.ddr, s.ddrFall⟩

/-! ### Configuration words (R380 to R382) -/

/-- Configuration of the function block that holds macrocell `m` (0 to 2,047) under the active plane. -/
def Device.fbCfg (d : Device) (n : Fin 16) (m lo w : Nat) : Nat := d.cfg n (d.act n) 0 (m / 64) lo w
/-- Macrocell word of macrocell `m`. -/
def Device.mcWord (d : Device) (n : Fin 16) (m : Nat) : Nat := d.fbCfg n m (67584 + 32 * (m % 64)) 32

/-- MODE of a macrocell word. -/
def mcMode (w : Nat) : Nat := w % 4
/-- CLKSEL; 5 to 7 are treated as 0. -/
def mcClksel (w : Nat) : Nat := if bitsOf w 2 3 ≤ 4 then bitsOf w 2 3 else 0
/-- CESEL. -/
def mcCesel (w : Nat) : Nat := bitsOf w 5 2
/-- XSEL; 3 is treated as 0. -/
def mcXsel (w : Nat) : Nat := if bitsOf w 7 2 = 3 then 0 else bitsOf w 7 2
/-- CINSEL; 3 is treated as 0. -/
def mcCinsel (w : Nat) : Nat := if bitsOf w 9 2 = 3 then 0 else bitsOf w 9 2
/-- STEER; 6 and 7 are treated as 0. -/
def mcSteer (w : Nat) : Nat := if bitsOf w 15 3 ≤ 5 then bitsOf w 15 3 else 0

/-- A dedicated term is a control term ("Dedicated term roles" table, R123). -/
def ptControl (w j : Nat) : Bool :=
  if j = 0 then mcXsel w != 0
  else if j = 1 then mcClksel w == 4
  else if j = 2 then mcCesel w == 1 || mcCesel w == 3
  else if j = 3 then bitOf w 12
  else bitOf w 13

/-- The macrocell of the function block (0 to 63) that the steer group of macrocell `m` reaches (R124). -/
def steerTo (w m : Nat) : Option Nat :=
  let s := mcSteer w
  let t := if s = 1 then (if 1 ≤ m then some (m - 1) else none)
    else if s = 2 then (if 2 ≤ m then some (m - 2) else none)
    else if s = 3 then some (m + 1) else if s = 4 then some (m + 2) else if s = 5 then none else some m
  match t with
  | some k => if k < 64 then some k else none
  | none => none

/-- The sum terms of macrocell `m` of a function block by the allocator (R124 to R126): product term numbers. -/
def Device.sumTerms (d : Device) (n : Fin 16) (m : Nat) : List Nat :=
  let base := m - m % 64
  let near := (List.range 5).filterMap fun k =>
    if 2 ≤ m % 64 + k ∧ m % 64 + k < 66 then some (m % 64 + k - 2) else none
  let own := near.flatMap fun k =>
    let w := d.mcWord n (base + k)
    if steerTo w k = some (m % 64) then (List.range 5).filterMap fun j => if ptControl w j then none else some (5 * k + j)
    else []
  let pool := (List.range 32).filter fun s =>
    let a := d.fbCfg n m (70592 + 16 * s) 16
    bitOf a 6 && a % 64 == m % 64
  own ++ (pool.take 8).map (320 + ·)

/-! ### Evaluation

A node of the fabric has a value, or none where it lies on a combinational loop or is fed by one (R159). The first argument
bounds the depth: a path of the fabric passes each macrocell of a group at most once. -/

/-- A node: a cluster source, a macrocell output, its sum, its carry out, or a product term of its function block. -/
inductive Node where
  | src (n : Fin 16) (cluster idx : Nat)
  | out (n : Fin 16) (m : Nat)
  | xor_ (n : Fin 16) (m : Nat)
  | sum (n : Fin 16) (m : Nat)
  | cout (n : Fin 16) (m : Nat)
  | pt (n : Fin 16) (m p : Nat)

/-- All of a list, where every member has a value. -/
def allSome (l : List (Option Bool)) : Option Bool :=
  l.foldl (fun a x => match a, x with | some p, some q => some (p && q) | _, _ => none) (some true)

/-- Any of a list, where every member has a value. -/
def anySome (l : List (Option Bool)) : Option Bool :=
  l.foldl (fun a x => match a, x with | some p, some q => some (p || q) | _, _ => none) (some false)

/-- The slot joined at an edge of a slot: its partner over the horizontal edge (0) or the vertical edge (1) (R23). -/
def Device.partner (d : Device) (n : Fin 16) (edge : Nat) : Option (Fin 16) :=
  let k := (d.slot n).gkind
  let m := (d.slot n).gmember
  if edge = 0 then
    if k = 1 ∨ k = 3 then some (slotOf (if m % 2 = 0 then n.val + 1 else n.val - 1)) else none
  else if k = 2 then some (slotOf (if m = 0 then n.val + 4 else n.val - 4))
  else if k = 3 then some (slotOf (if m < 2 then n.val + 4 else n.val - 4))
  else none

/-- A field of wire `j` of an edge under the active plane (R388). -/
def Device.wireCfg (d : Device) (n : Fin 16) (edge j lo w : Nat) : Nat := d.cfg n (d.act n) 4 edge (16 * j + lo) w

/-- The hold value of outbound wire `j` of an edge. -/
def Device.holdWire (d : Device) (n : Fin 16) (edge j : Nat) : Bool :=
  bitOf (if edge = 0 then (d.slot n).holdH else (d.slot n).holdV).toNat j

/-- What a slot drives on outbound wire `j` of an edge while its chuck cell is closed: its declared safe value (R479). High-Z
reads 0 at the receiver. -/
def Device.wireSafe (d : Device) (n : Fin 16) (edge j : Nat) : Bool :=
  let safe := d.wireCfg n edge j 12 2
  if safe = 1 then true
  else if safe = 3 then d.wireCfg n edge j 11 1 == 1 && d.holdWire n edge j
  else false

/-- A per-pin field of the active plane (R391). -/
def Device.pinNow (d : Device) (n : Fin 16) (i lo w : Nat) : Nat := d.pinCfg n (d.act n) i lo w
/-- A per-pair field of the active plane (R392). -/
def Device.pairNow (d : Device) (n : Fin 16) (k lo w : Nat) : Nat := d.pairCfg n (d.act n) k lo w
/-- PAIR_MODE of pair `k` as it acts; 3 is treated as 0 (R405). -/
def Device.pairActs (d : Device) (n : Fin 16) (k : Nat) : Nat := if d.pairNow n k 0 2 = 3 then 0 else d.pairNow n k 0 2
/-- DDR_CLK of pair `k` as it acts; 6 and 7 are treated as 0 (R405). -/
def Device.ddrClk (d : Device) (n : Fin 16) (k : Nat) : Nat := if d.pairNow n k 4 3 < 6 then d.pairNow n k 4 3 else 0
/-- Ball `i` is an in-use output: it can drive, and is no leg of an LVDS input pair (R248, R250, R262). -/
def Device.pinDrives (d : Device) (n : Fin 16) (i : Nat) : Bool :=
  d.pinNow n i 0 1 == 1 && d.pairActs n (i / 2) != 1 && d.pinOut n (d.act n) i

/-- The SAFE value of output ball `i`, none for high-Z (R261). -/
def Device.pinSafe (d : Device) (n : Fin 16) (i : Nat) : Option Bool :=
  let lvds := d.pairActs n (i / 2) == 2
  let safe := d.pinNow n (if lvds then i - i % 2 else i) 30 2
  if safe = 0 ∨ safe = 1 then some ((safe == 1) != (lvds && i % 2 == 1))
  else if safe = 2 then none
  else if bitOf (d.slot n).holdPins.toNat (32 + i) then some (bitOf (d.slot n).holdPins.toNat i) else none

/-- GCK_MODE as it acts (R245, R405). -/
def Device.gckNow (d : Device) (n : Fin 16) : Nat :=
  let m := if d.gckMode n (d.act n) = 3 then 0 else d.gckMode n (d.act n)
  if d.bankClass n (d.act n) = 0 ∧ m = 0 then 2 else m

/-- The first of a list of conditions that has no value, or is true: its value where one is true; `rest` where all are false. -/
def firstTrue (c : Option Bool) (ifTrue : Bool) (rest : Option Bool) : Option Bool :=
  match c with
  | none => none
  | some true => some ifTrue
  | some false => rest

/-- Value of a node. `seen` lists the macrocell outputs on the way here: one that is met again lies on a loop. What a loop leaves
undefined ends at the chuck: a joined slot reads a free bit there (R3, R159). -/
def evalNode (d : Device) (v : Fin 16 → FabView) : Nat → List Nat → Node → Option Bool
  | 0, _, _ => none
  | f + 1, seen, .src n c x =>
    let w := v n
    if x < 512 then evalNode d v f seen (.out n (512 * c + x))
    else if x < 640 then
      let i := d.cfg n (d.act n) 1 c (10 * (x - 512)) 10
      if bitOf i 9 then
        let line := i % 512
        let s := d.cfg n (d.act n) 2 (line / 128) (10 * (line % 128)) 10
        if bitOf s 9 then evalNode d v f seen (.out n (512 * (line / 128) + s % 512)) else some false
      else some false
    else if x < 672 then
      let i := x - 640
      if !d.chuckPasses n (256 + i) || d.pinNow n i 0 1 = 0 then some false
      else if d.scanning then some (bitOf w.pins.toNat i)
      else if d.pairActs n (i / 2) = 1 then
        if d.pairNow n (i / 2) 3 1 = 1 then
          some (if i % 2 = 0 then bitOf w.ddr.toNat (4 * (i / 2)) else bitOf w.ddrFall.toNat (i / 2))
        else some (i % 2 == 0 && bitOf w.pins.toNat i)
      else if d.pairActs n (i / 2) = 2 then some false
      else if bitOf w.drv.toNat i || !d.pinDrives n i || !d.bankOn n then some (bitOf w.pins.toNat i)
      else if !(d.chuckPasses n (192 + i) && d.chuckPasses n (224 + i)) then
        some ((d.pinSafe n i).getD (bitOf w.pins.toNat i))
      else
        let oe := d.pinNow n i 6 2
        let lvl := evalNode d v f seen (.out n (d.pinNow n i 8 11))
        if oe = 1 then lvl
        else
          match evalNode d v f seen (.out n (d.pinNow n i 19 11)) with
          | some true => lvl
          | some false => some (bitOf w.pins.toNat i)
          | none => none
    else if x = 672 then some (d.chuckPasses n 288 && d.gckNow n != 2 && bitOf w.pins.toNat 32)
    else if x = 673 then some (d.chuckPasses n 289 && d.gckNow n == 0 && bitOf w.pins.toNat 33)
    else if x < 738 then
      let j := x - 674
      let edge := d.cfg n (d.act n) 4 2 j 1
      if !d.chuckPasses n (128 + j) then some false
      else
        match d.partner n edge with
        | none => some false
        | some q =>
          if d.chuckPasses q (64 * edge + j) then
            match evalNode d v f seen (.out q (d.wireCfg q edge j 0 11)) with
            | some b => some b
            | none => some (Config.freeBit d.freeCtr (2 ^ 24 + 128 * q.val + 64 * edge + j))
          else some (d.wireSafe q edge j)
    else if x < 994 then some (bitOf w.lines.toNat (256 * c + (x - 738)))
    else if x < 1022 then some (d.chuckPasses n (329 + (x - 994)) && bitOf w.ctrl.toNat (x - 994))
    else some (x == 1023)
  | f + 1, seen, .pt n m p =>
    let cols := d.fbCfg n m (192 * p) 192
    if cols = 0 then some false
    else allSome ((List.range 192).filterMap fun c =>
      if bitOf cols c then
        let s := evalNode d v f seen (.src n (m / 512) (d.fbCfg n m (69632 + 10 * (c / 2)) 10))
        some (if c % 2 = 0 then s else s.map (!·))
      else none)
  | f + 1, seen, .sum n m => anySome ((d.sumTerms n m).map fun p => evalNode d v f seen (.pt n m p))
  | f + 1, seen, .cout n m =>
    let w := d.mcWord n m
    if mcXsel w ≠ 2 then some false
    else
      let chain := if m % 512 = 0 then some false else evalNode d v f seen (.cout n (m - 1))
      let cin := if mcCinsel w = 1 then some true else if mcCinsel w = 2 then chain else some false
      match evalNode d v f seen (.pt n m (5 * (m % 64))), evalNode d v f seen (.sum n m), cin with
      | some g, some s, some c => some (g || (s && c))
      | _, _, _ => none
  | f + 1, seen, .xor_ n m =>
    let w := d.mcWord n m
    let chain := if m % 512 = 0 then some false else evalNode d v f seen (.cout n (m - 1))
    let t := if mcXsel w = 1 then evalNode d v f seen (.pt n m (5 * (m % 64)))
      else if mcXsel w = 2 then
        (if mcCinsel w = 1 then some true else if mcCinsel w = 2 then chain else some false)
      else some false
    match evalNode d v f seen (.sum n m), t with
    | some s, some x => some ((s != x) != bitOf w 11)
    | _, _ => none
  | f + 1, seen, .out n m =>
    let w := d.mcWord n m
    let q := bitOf (v n).mc.toNat m
    let id := 2048 * n.val + m
    if mcMode w < 2 then some q
    else if id ∈ seen then none
    else if mcMode w = 3 then evalNode d v f (id :: seen) (.xor_ n m)
    else
      let p5 := 5 * (m % 64)
      let term := fun j => evalNode d v f (id :: seen) (.pt n m (p5 + j))
      let se := some (bitOf (v n).ctrl.toNat 4)
      let live := d.fabricLive n && !(d.slot n).cyc.resets
      let gate := if (d.slot n).cyc.resets then some false
        else if mcClksel w = 4 then (if live then term 1 else some false)
        else some (bitOf (v n).high.toNat (mcClksel w))
      let ce := if mcCesel w = 1 then term 2 else if mcCesel w = 2 then se
        else if mcCesel w = 3 then (match se with | some false => some false | _ => term 2) else some true
      let follow := match gate with
        | none => none
        | some false => some q
        | some true => match ce with
          | none => none
          | some false => some q
          | some true => evalNode d v f (id :: seen) (.xor_ n m)
      let pre := if live && bitOf w 12 then term 3 else some false
      let clr := if live && bitOf w 13 then term 4 else some false
      firstTrue clr false (firstTrue pre true follow)

/-- Depth bound: more than every hop of a path through the 8,192 macrocells of a quad. -/
def fabFuel : Nat := 65536

/-- The value of a node, a free bit where it is undefined (R159). -/
def Device.node (d : Device) (v : Fin 16 → FabView) (key : Nat) (x : Node) : Bool :=
  match evalNode d v fabFuel [] x with
  | some b => b
  | none => Config.freeBit d.freeCtr key

/-- Output of a macrocell. -/
def Device.mcOut (d : Device) (v : Fin 16 → FabView) (n : Fin 16) (m : Nat) : Bool :=
  d.node v (2048 * n.val + m) (.out n m)

/-- Product term PTj of a macrocell. -/
def Device.mcPt (d : Device) (v : Fin 16 → FabView) (n : Fin 16) (m j : Nat) : Bool :=
  d.node v (2 ^ 16 + 2048 * n.val + m + 2 ^ 15 * j) (.pt n m (5 * (m % 64) + j))

/-! ### Path delays (R127, R138 to R140, R166 to R175, R201, R222, R223, R423)

In half picoseconds, counted from the instant at which a plane becomes active. -/

/-- tBCO of a block memory of the slot: its read path ("Block memory delays" table). -/
def Device.tBco (d : Device) (n : Fin 16) (b : Nat) : Nat :=
  if d.bmNow n b 1 2 = 2 then 1100
  else if d.bmNow n b 13 1 = 1 then 300
  else if d.bmNow n b 1 2 = 1 ∧ d.bmNow n b 19 1 = 1 then 1500
  else 1100

/-- The first macrocell of the carry chain that macrocell `m` ends, looking back over at most `k` macrocells (R136, R155). -/
def Device.chainFirst (d : Device) (n : Fin 16) : Nat → Nat → Nat
  | 0, m => m
  | k + 1, m =>
    if m % 512 = 0 ∨ mcCinsel (d.mcWord n m) ≠ 2 ∨ mcXsel (d.mcWord n (m - 1)) ≠ 2 then m else d.chainFirst n k (m - 1)

/-- Latest instant at which a node settles after its plane became active: at the source of a route for `out`, at the destination for the
others. `fb` is the function block (0 to 31) of the input that a source goes to, none for a block memory pin. A path that meets itself
counts once. -/
def settled (d : Device) (v : Fin 16 → FabView) : Nat → List Nat → Option Nat → Node → Nat
  | 0, _, _, _ => 0
  | f + 1, seen, fb, .src n c x =>
    let even := d.cfg n (d.act n) 7 0 0 1 == 1
    if x < 512 then
      settled d v f seen none (.out n (512 * c + x)) +
        (if fb = some (8 * c + x / 64) then 100 else if even then 1700 else 420)
    else if x < 640 then
      let i := d.cfg n (d.act n) 1 c (10 * (x - 512)) 10
      let line := i % 512
      let s := d.cfg n (d.act n) 2 (line / 128) (10 * (line % 128)) 10
      if bitOf i 9 && bitOf s 9 then
        settled d v f seen none (.out n (512 * (line / 128) + s % 512)) + (if even then 1700 else 1100)
      else 420
    else if x < 672 then
      let i := x - 640
      let own := if d.pinDrives n i && d.pairActs n (i / 2) == 0 then
          2200 + (if d.pinNow n i 3 1 = 1 then 0 else 2400) + max (settled d v f seen none (.out n (d.pinNow n i 8 11)))
            (if d.pinNow n i 6 2 = 2 then settled d v f seen none (.out n (d.pinNow n i 19 11)) else 0)
        else 0
      own + 1820
    else if x < 674 then 1820
    else if x < 738 then
      let j := x - 674
      match d.partner n (d.cfg n (d.act n) 4 2 j 1) with
      | none => 1900
      | some q => settled d v f seen none (.out q (d.wireCfg q (d.cfg n (d.act n) 4 2 j 1) j 0 11)) + 1900
    else if x < 994 then d.tBco n (4 * c + (x - 738) / 64) + 420
    else if x < 1022 then 660
    else 420
  | f + 1, seen, _, .pt n m p =>
    let cols := d.fbCfg n m (192 * p) 192
    ((List.range 192).map fun c =>
      if bitOf cols c then
        settled d v f seen (some (m / 64)) (.src n (m / 512) (d.fbCfg n m (69632 + 10 * (c / 2)) 10)) + 1240
      else 0).foldl max 0
  | f + 1, seen, _, .sum n m => ((d.sumTerms n m).map fun p => settled d v f seen none (.pt n m p)).foldl max 0
  | f + 1, seen, _, .cout n m =>
    max (settled d v f seen none (.pt n m (5 * (m % 64)))) (settled d v f seen none (.sum n m))
  | f + 1, seen, _, .xor_ n m =>
    let w := d.mcWord n m
    let own := max (settled d v f seen none (.sum n m)) (if mcXsel w = 1 then settled d v f seen none (.pt n m (5 * (m % 64))) else 0)
    if mcXsel w = 2 then
      let first := if mcCinsel w = 2 then d.chainFirst n 511 m else m
      let links := ((List.range (m - first)).map fun i => settled d v f seen none (.cout n (first + i))).foldl max 0
      max own (links + 9 * (m - first + 1) + 60 * (m / 64 - first / 64))
    else own
  | f + 1, seen, _, .out n m =>
    let w := d.mcWord n m
    let id := 2048 * n.val + m
    if mcMode w < 2 ∨ id ∈ seen then 240
    else if mcMode w = 3 then settled d v f (id :: seen) none (.xor_ n m)
    else if mcClksel w = 4 || bitOf (v n).high.toNat (mcClksel w) then settled d v f (id :: seen) none (.xor_ n m) + 240
    else 240

/-- Computed delay of the slowest path into a register: into X, or into its clock enable (R175, R423). -/
def Device.pathDelay (d : Device) (v : Fin 16 → FabView) (n : Fin 16) (m : Nat) : Nat :=
  let w := d.mcWord n m
  let x := settled d v fabFuel [] none (.xor_ n m)
  let ce := if mcCesel w = 1 ∨ mcCesel w = 3 then settled d v fabFuel [] none (.pt n m (5 * (m % 64) + 2)) else 0
  let se := if mcCesel w = 2 ∨ mcCesel w = 3 then 660 else 0
  max x (max ce se) + 200

/-- Computed delay into input pin `i` (0 to 115) of a block memory. -/
def Device.pinDelay (d : Device) (v : Fin 16 → FabView) (n : Fin 16) (b i : Nat) : Nat :=
  settled d v fabFuel [] none (.src n (b / 4) (d.bmNow n b (64 + 10 * i) 10)) + 300

/-- A delay exceeds the interval from the last tick instant to an instant `num / den` (R423). -/
def Device.tooLong (d : Device) (delay num den : Nat) : Bool := decide ((num - d.turn.tickAt * den) * 20000 < delay * den)

/-! ### Storage elements (R130 to R134, R143, R147) -/

/-- Clock enable of a macrocell (R131); the slot enable passes its chuck cell. -/
def Device.mcEnable (d : Device) (v : Fin 16 → FabView) (n : Fin 16) (m w : Nat) : Bool :=
  let se := bitOf (v n).ctrl.toNat 4
  if mcCesel w = 1 then d.mcPt v n m 2 else if mcCesel w = 2 then se else if mcCesel w = 3 then d.mcPt v n m 2 && se
  else true

/-- The forced value of a macrocell while a preset or clear acts: clear wins (R133). -/
def Device.mcForce (d : Device) (v : Fin 16 → FabView) (n : Fin 16) (m w : Nat) : Option Bool :=
  if bitOf w 13 && d.mcPt v n m 4 then some false
  else if bitOf w 12 && d.mcPt v n m 3 then some true
  else none

/-- A register at its active edge: a force wins (R143, R147), an edge without enable changes nothing (R130, R148), and where `slow` says
that a path into it is too long the value is open (R423). -/
def Device.mcEdge (d : Device) (v : Fin 16 → FabView) (n : Fin 16) (m : Nat) (slow : Bool) : Bool :=
  let w := d.mcWord n m
  let q := bitOf (v n).mc.toNat m
  match d.mcForce v n m w with
  | some b => b
  | none =>
    if 2 ≤ mcMode w then q
    else if slow then Config.freeBit d.freeCtr (2 ^ 22 + 2048 * n.val + m)
    else if !d.mcEnable v n m w then q
    else
      let x := d.node v (2 ^ 20 + 2048 * n.val + m) (.xor_ n m)
      if mcMode w = 1 then q != x else x

/-- The level of a macrocell's product-term clock; 0 for any other clock. -/
def Device.ptClock (d : Device) (v : Fin 16 → FabView) (n : Fin 16) (m : Nat) : Bool :=
  mcClksel (d.mcWord n m) == 4 && d.mcPt v n m 1

/-- The macrocells of a slot that can change without an edge of a slot clock: latches, those with a product-term clock, and those with
a preset or clear. -/
def Device.asyncMc (d : Device) (n : Fin 16) : List Nat :=
  (List.range 2048).filter fun m =>
    let w := d.mcWord n m
    mcMode w == 2 || mcClksel w == 4 || bitOf w 12 || bitOf w 13

/-- One round of what happens between slot clock edges: forces, edges of product-term clocks, and open latches, which follow X. The
result is the storage and the product-term clock levels. -/
def Device.settleRound (d : Device) (v : Fin 16 → FabView) (n : Fin 16) (l : List Nat) : BitVec 2048 × BitVec 2048 :=
  let one := fun (x : Nat × Nat) m =>
    let w := d.mcWord n m
    let lvl := d.ptClock v n m
    let q := if mcMode w = 2 then d.mcOut v n m
      else if lvl && !bitOf (d.slot n).ptPrev.toNat m then d.mcEdge v n m false
      else (d.mcForce v n m w).getD (bitOf (v n).mc.toNat m)
    (withBit x.1 m q, withBit x.2 m lvl)
  let r := l.foldl one ((d.slot n).mc.toNat, (d.slot n).ptPrev.toNat)
  (BitVec.ofNat 2048 r.1, BitVec.ofNat 2048 r.2)

/-- A slot settles: rounds until nothing changes, up to a bound past which its values count as oscillating (R131 to R134, R143 to
R147, R159; assumption log 64). -/
def Device.settleLoop (n : Fin 16) (l : List Nat) : Nat → Device → Device
  | 0, d => d
  | k + 1, d =>
    let r := d.settleRound d.curView n l
    if r.1 = (d.slot n).mc ∧ r.2 = (d.slot n).ptPrev then d
    else Device.settleLoop n l k (d.modSlot n fun s => { s with mc := r.1, ptPrev := r.2 })

/-- Settle one slot; none of its elements changes while its slot reset or swap cycle lasts, or while it does not run (R141, R146,
R149). -/
def Device.settleFab (d : Device) (n : Fin 16) : Device :=
  if !d.fabricLive n || (d.slot n).cyc != .idle then d
  else
    let l := d.asyncMc n
    if l.isEmpty then d else Device.settleLoop n l 2048 d

/-- Settle every slot, four times, so that what members of a group pass to one another is seen. -/
def Device.settleAll (d : Device) : Device := iter 4 (fun _ d => d.forSlots allSlots fun n d => d.settleFab n) d

/-- The product-term clocks of a slot stand as they are, with no edge (R149, R150). -/
def Device.takePtLevels (d : Device) (n : Fin 16) : Device :=
  let b := ((List.range 2048).filter fun m => mcClksel (d.mcWord n m) == 4).foldl
    (fun a m => withBit a m (d.mcPt d.curView n m 1)) 0
  d.modSlot n fun s => { s with ptPrev := BitVec.ofNat 2048 b }

/-- Swap cycles, slot resets and starts end, and forces that read 1 act from then on (R146, R149 to R151, R422, R483). -/
def Device.endCycles (d : Device) : Device :=
  let on := allSlots.filter fun n => (d.slot n).cyc != .idle
  if on.isEmpty then d
  else
    let d := d.forSlots on fun n d => d.modSlot n fun s => { s with cyc := .idle }
    (d.forSlots (on.filter d.fabricLive) fun n d => d.takePtLevels n).settleAll

/-- A slot that starts at this tick takes its product-term clocks as they stand, and its forces act (R150, R151). -/
def Device.endStarts (d : Device) : Device :=
  let on := allSlots.filter fun n => (d.slot n).cyc == .start
  if on.isEmpty then d
  else
    let d := d.forSlots on fun n d => d.modSlot n fun s => { s with cyc := .idle }
    (d.forSlots on fun n d => d.takePtLevels n).settleAll

/-- The high phase of the named outputs of a slot ends: latches on them have followed X to the end, and keep it (R130, R152, R183, R185). -/
def Device.endHigh (d : Device) (n : Fin 16) (outs : Nat) : Device :=
  let outs := Nat.land outs (d.slot n).clkHigh.toNat
  if outs = 0 then d
  else
    let l := (List.range 2048).filter fun m =>
      let w := d.mcWord n m
      mcMode w == 2 && mcClksel w < 4 && bitOf outs (mcClksel w)
    let mc := l.foldl (fun a m => withBit a m (d.mcOut d.curView n m)) (d.slot n).mc.toNat
    d.modSlot n fun s => { s with
      mc := BitVec.ofNat 2048 mc, clkHigh := BitVec.ofNat 4 (s.clkHigh.toNat - Nat.land s.clkHigh.toNat outs) }

/-! ### Slot control outputs ("Slot control outputs" table, R293, R394) -/

/-- Slot control output `q` as the fabric drives it. -/
def Device.sco (d : Device) (v : Fin 16 → FabView) (n : Fin 16) (q : Nat) : Bool :=
  let s := d.cfg n (d.act n) 7 0 (512 + 12 * q) 12
  if !d.chuckPasses n (290 + q) then q == 0
  else if bitOf s 11 then d.mcOut v n (s % 2048) else q == 0

/-- Outputs `q` to `q + w − 1` as a number. -/
def Device.scoField (d : Device) (v : Fin 16 → FabView) (n : Fin 16) (q w : Nat) : Nat :=
  ofBits ((List.range w).map fun i => d.sco v n (q + i))

/-- The views that the last edge left. -/
def Device.preViews (d : Device) : Fin 16 → FabView := fun n => (d.slot n).pre

/-! ### Balls and hold values (R246 to R253, R260, R261, R265, R479) -/

/-- Level and enable of output ball `i` as the fabric drives it. -/
def Device.pinFabric (d : Device) (v : Fin 16 → FabView) (n : Fin 16) (i : Nat) : Bool × Bool :=
  let k := i / 2
  let t := 2 * k
  if d.pairActs n k = 2 then
    let oe := d.pinNow n t 6 2
    let en := oe == 1 || (oe == 2 && d.mcOut v n (d.pinNow n t 19 11))
    let x := if d.pairNow n k 3 1 = 1 then
        bitOf (v n).ddr.toNat (if bitOf (d.slot n).ddrLow.toNat k then 4 * k + 3 else 4 * k + 2)
      else d.mcOut v n (d.pinNow n t 8 11)
    (if i = t then x else !x, en)
  else
    let oe := d.pinNow n i 6 2
    (d.mcOut v n (d.pinNow n i 8 11), oe == 1 || (oe == 2 && d.mcOut v n (d.pinNow n i 19 11)))

/-- Update the hold values of a RUNNING slot (R261, R479). -/
def Device.keepHold (d : Device) (n : Fin 16) : Device :=
  let v := d.curView
  let pins := (List.range 32).map fun i => if d.pinDrives n i then d.pinFabric v n i else (false, false)
  let wire := fun e => BitVec.ofNat 64 (ofBits ((List.range 64).map fun j =>
    d.wireCfg n e j 11 1 == 1 && d.mcOut v n (d.wireCfg n e j 0 11)))
  let h := wire 0
  let w := wire 1
  d.modSlot n fun s => { s with
    holdPins := BitVec.ofNat 64 (ofBits (pins.map (·.1)) + 2 ^ 32 * ofBits (pins.map (·.2))), holdH := h, holdV := w }

/-- What the device drives on ball `i` of a bank: none for high-Z, else its level ("Pin states" table, R247 to R253, R260, R261). The
pulls are those of `Device.pulled`. -/
def Device.ballDrive (d : Device) (v : Fin 16 → FabView) (n : Fin 16) (i : Nat) : Option Bool :=
  let st := (d.slot n).st
  if !d.bankOn n then none
  else if d.scanning then d.scanDrive n i
  else if !d.pinDrives n i then none
  else if st = .running ∧ (d.slot n).power = .on then
    if d.chuckPasses n (192 + i) && d.chuckPasses n (224 + i) then
      let r := d.pinFabric v n i
      if r.2 then some r.1 else none
    else d.pinSafe n i
  else if st = .loaded ∨ st = .held ∨ st = .faulted ∨ (d.slot n).power = .retain then d.pinSafe n i
  else none

/-- The bus keepers take the level last driven onto each ball of a bank, by the device or from outside; where both drive, the outside level
is the one that prevails (R246, R276, assumption log 63). -/
def Device.keepBalls (d : Device) (n : Fin 16) : Device :=
  let s := d.slot n
  let b := (List.range 32).map fun i =>
    if bitOf s.pinDrv.toNat i then bitOf s.pinIn.toNat i
    else (d.ballDrive d.curView n i).getD (bitOf s.keeper.toNat i)
  d.modSlot n fun s => { s with keeper := BitVec.ofNat 32 (ofBits b) }

/-- The levels that stand at the balls of a bank from outside, the balls that something outside drives, and the TURN levels that logic on
other clocks sees. -/
def Device.setBalls (d : Device) (n : Fin 16) (pins drv : BitVec 34) (turn : Nat) : Device :=
  d.modSlot n fun s => { s with pinIn := pins, pinDrv := drv, turnLev := BitVec.ofNat 4 turn }

/-- After an edge or a change at the balls: hold values of a slot that runs, bus keepers, and a fresh run of free bits. -/
def Device.afterChange (d : Device) (l : List (Fin 16)) : Device :=
  let d := d.forSlots (l.filter d.fabricLive) fun n d => d.keepHold n
  let d := d.forSlots l fun n d => d.keepBalls n
  { d with freeCtr := d.freeCtr + 1 }

/-! ### Serving what an edge calls for -/

/-- A FIFO's controller at its edge: FCLR, or the queue rule (R217, R221, R236). -/
def Device.fifoEdge (d : Device) (n : Fin 16) (b : Nat) (a p : PortPins) : Device :=
  if a.orst then d.fifoClear n b else d.fifoServe n b (p.en && p.we) a.en p.din

/-- Port A's and port B's pins from the pins of both. -/
def pinsA (x : BmDue) : PortPins := portPins (bitsOf x.pins.toNat 0 58)
def pinsB (x : BmDue) : PortPins := portPins (bitsOf x.pins.toNat 58 58)

/-- The edge of a port of a block memory that waits to be served. -/
def Device.bmDue (d : Device) (n : Fin 16) (b port : Nat) : Option BmDue :=
  (d.slot n).due.bm.find? fun x => x.mem == b && x.port == port

/-- A block memory's ports at the edges that are due, as operations of one cycle (R211). Inside a slot reset the stored bits alone
change (R237). -/
def Device.bmEdge (d : Device) (n : Fin 16) (b : Nat) : Device :=
  let a := d.bmDue n b 0
  let p := d.bmDue n b 1
  let d := d.modSlot n fun s => { s with due := { s.due with bm := s.due.bm.filter fun x => x.mem != b } }
  if (a.isNone && p.isNone) || !d.bmActive n b then d
  else
    let mode := d.bmNow n b 1 2
    if mode = 2 then
      match a with
      | some x => if (d.slot n).cyc.resets then d else d.fifoEdge n b (pinsA x) (pinsB x)
      | none => d
    else
      let d := if mode = 1 then d.bmSdp n b (a.map pinsA) (p.map fun x => (pinsB x, pinsA x))
        else d.bmTdp n b (a.map pinsA) (p.map pinsB)
      if (d.slot n).cyc.resets then d.setBmCtl n b ⟨0, 0, 0, 0, 0, 0, 0⟩ else d

/-- The mailbox action `k` of the last edge (0 OUT_WE, 1 OUT_PUSH, 2 IN_POP, 3 user events) is due. -/
def Device.mailDue (d : Device) (n : Fin 16) (k : Nat) : Bool := bitOf (d.slot n).due.mail.toNat k

/-- A mailbox action of the last edge has been served. -/
def Device.mailServed (d : Device) (n : Fin 16) (k : Nat) : Device :=
  d.modSlot n fun s => { s with due := { s.due with mail := BitVec.ofNat 4 (withBit s.due.mail.toNat k false) } }

/-- OUT_WE at the last mailbox clock edge (R488 step 1). -/
def Device.mailOutWe (d : Device) (n : Fin 16) : Device :=
  if d.mailDue n 0 then
    let w := (d.slot n).due.word.toNat
    (d.mailServed n 0).outWrite n (bitsOf w 0 5) (bitsOf w 5 16)
  else d

/-- OUT_PUSH at the last mailbox clock edge, after its OUT_WE (R488 step 2). -/
def Device.mailOutPush (d : Device) (n : Fin 16) : Device :=
  if d.mailDue n 1 then
    let d := d.mailOutWe n
    (d.mailServed n 1).fabricPush n
  else d

/-- IN_POP at the last mailbox clock edge (R488 step 3). -/
def Device.mailInPop (d : Device) (n : Fin 16) (hostPush : Bool) : Device :=
  if d.mailDue n 2 then (d.mailServed n 2).fabricPop n hostPush else d

/-- User events at the last mailbox clock edge (R489). -/
def Device.mailUser (d : Device) (n : Fin 16) : Device :=
  if d.mailDue n 3 then
    let s := (d.slot n).mb
    let d := d.mailServed n 3
    iter 8 (fun k d => if bitOf s.userPrev.toNat k && !bitOf s.userOld.toNat k then d.raiseSlot n (16 + k) [] else d) d
  else d

/-- The slot control inputs take what the mailbox clock edge and its actions leave (R487, R488 step 4, assumption log 62). -/
def Device.latchCtrl (d : Device) (n : Fin 16) : Device :=
  if (d.slot n).due.ctrl then
    let c := BitVec.ofNat 24 (d.ctrlInputs n / 16)
    d.modSlot n fun s => { s with ctrlReg := c, due := { s.due with ctrl := false } }
  else d

/-- The done and healthy latches take what the last TURN_CLKSEL edge showed (R295). -/
def Device.latchDone (d : Device) (n : Fin 16) : Device :=
  d.modSlot n fun s => { s with
    done := s.done || s.due.done, healthy := s.healthy || s.due.healthy, due := { s.due with done := false, healthy := false } }

/-- Serve what a slot's edges call for and has not been served yet; of its block memories, those with an edge that `ready` accepts. -/
def Device.serveSlot (d : Device) (n : Fin 16) (ready : BmDue → Bool) : Device :=
  let mems := ((d.slot n).due.bm.filter ready).map (·.mem)
  if (d.slot n).due = DueOps.reset then d
  else
    let d := (((d.mailOutWe n).mailOutPush n).mailInPop n false).mailUser n
    ((mems.foldl (fun d b => d.bmEdge n b) d).latchDone n).latchCtrl n

/-- Serve everything that edges called for, for every slot. -/
def Device.flushEdges (d : Device) : Device := d.forSlots allSlots fun n d => d.serveSlot n fun _ => true

/-- Serve what edges called for before an edge at `num / den`: a block memory operation less than 0.40 ns old still waits, since the two
share a cycle (R211). -/
def Device.serveBefore (d : Device) (num den : Nat) : Device :=
  d.forSlots allSlots fun n d => d.serveSlot n fun x => decide (x.den * den ≤ 25 * (num * x.den - x.num * den))

/-- A host window or DMA write of the enabled bytes (R226). Where an edge of port A waits to be served, write and operation share a cycle:
port A reads the old word, its write wins on common bits, and COLLIDE is set (R212, R213, R228, R238). -/
def Device.hostWrite (d : Device) (n : Fin 16) (b off : Nat) (en : List Bool) (data : List Byte) : Device :=
  match d.bmDue n b 0 with
  | none => d.hostStore n b off en data
  | some x =>
    let p := pinsA x
    let asp := d.bmNow n b 3 3
    let e := (d.bmEdge n b).hostStore n b off en data
    if !(d.bmActive n b && p.en && p.we) then e
    else
      let mine := writtenBits asp p.addr p.bwe
      let theirs := hostBits off en
      let e := e.setBmWord n b asp p.addr p.bwe p.din
      if mine.any fun k => decide (k ∈ theirs) then e.bmCollide n b else e

/-! ### An active clock edge -/

/-- Strobe levels that a slot's fabric sees at an instant: at the strobe edge of output `i` itself TURNi reads 1; logic on
other clocks sees the level that the command gives while the strobe is due (R186). -/
def Device.turnLevels (d : Device) (n : Fin 16) (rise lev : Nat) (late : Bool) : Nat :=
  let due := (d.slot n).strobe.toNat
  ofBits ((List.range 4).map fun i =>
    bitOf due i && (if bitOf rise i then late else bitOf lev i))

/-- The instant `num / den`, in REFCLK periods along the epoch count, lies 5.0 ns or more after the last tick instant. -/
def Device.lateAt (d : Device) (num den : Nat) : Bool := decide ((2 * d.turn.tickAt + 1) * den ≤ 2 * num)

/-- The instant lies before the present one, or names none. -/
def Device.pastInstant (d : Device) (num den : Nat) : Bool := den == 0 || decide (num / den < d.epoch)

/-- A slot clock edge at this instant or a later one has already been. -/
def Device.edgeDone (d : Device) (num den : Nat) : Bool :=
  match d.turn.edgeAt with
  | none => false
  | some (a, b) => decide (num * b ≤ a * den)

/-- Output `i` of a slot has a rising edge at the instant, by the edge grid (R180); none inside a swap cycle (R422). -/
def Device.risesAt (d : Device) (n : Fin 16) (num den i : Nat) : Bool :=
  d.clockRuns n i && !(d.slot n).cyc.swaps && num * d.ckN n (d.act n) i % (den * d.ckM n (d.act n) i) == 0

/-- The outputs of a slot that rise at the instant. -/
def Device.risesOf (d : Device) (n : Fin 16) (num den : Nat) : Nat :=
  ofBits ((List.range 4).map fun i => d.risesAt n num den i)

/-- Block memory port edges of a slot at the instant, with the pins as they stand; a pin whose path is too long at the first edge under a
new plane is open (R201, R423). -/
def Device.portEdges (d : Device) (v : Fin 16 → FabView) (n : Fin 16) (rise num den : Nat) : List BmDue :=
  (List.range 16).flatMap fun b =>
    let mode := d.bmNow n b 1 2
    let pins := fun lo => BitVec.ofNat 116 (ofBits ((List.range 116).map fun i =>
      let key := 2 ^ 21 + 4096 * n.val + 128 * b + i
      if bitOf (d.slot n).fresh.toNat (d.bmNow n b lo 2) && d.tooLong (d.pinDelay v n b i) num den then Config.freeBit d.freeCtr key
      else d.node v key (.src n (b / 4) (d.bmNow n b (64 + 10 * i) 10))))
    if !d.bmActive n b then []
    else
      (if bitOf rise (d.bmNow n b 15 2) then [⟨b, 0, pins 15, num, den⟩] else []) ++
      (if mode != 2 && d.bmNow n b 20 1 == 0 && bitOf rise (d.bmNow n b 17 2) then [⟨b, 1, pins 17, num, den⟩] else [])

/-- One slot at an instant of the edge grid: its registers, and what the edges of its mailbox clock and its block memory ports call for.
`w` is the device as the edges find it, `late` as in `Device.lateAt`. -/
def Device.slotEdge (w : Device) (n : Fin 16) (num den : Nat) (late : Bool) (d : Device) : Device :=
  let v := w.preViews
  let s := w.slot n
  let rise := w.risesOf n num den
  let regs := if s.cyc.resets then [] else (List.range 2048).filter fun m =>
    mcMode (w.mcWord n m) < 2 && bitOf rise (mcClksel (w.mcWord n m))
  let mc := regs.foldl (fun a m =>
    withBit a m (w.mcEdge v n m (bitOf s.fresh.toNat (mcClksel (w.mcWord n m)) && w.tooLong (w.pathDelay v n m) num den))) s.mc.toNat
  let ck := w.turnClksel n (w.act n)
  let mail := bitOf rise ck
  let acts := if !mail then 0
    else if s.gmember = 0 then natOf (w.sco v n 17) + 2 * natOf (w.sco v n 16) + 4 * natOf (w.sco v n 10) + 8
    else 8
  let word := w.scoField v n 18 5 + 2 ^ 5 * w.scoField v n 23 16
  let judged := mail && !bitOf s.strobe.toNat ck
  let ports := w.portEdges v n rise num den
  let user := BitVec.ofNat 8 (w.scoField v n 2 8)
  let widx := BitVec.ofNat 5 (w.scoField v n 11 5)
  let fed := if late then Nat.land s.strobe.toNat rise else 0
  d.modSlot n fun s => { s with
    mc := BitVec.ofNat 2048 mc
    clkHigh := BitVec.ofNat 4 (Nat.lor s.clkHigh.toNat rise)
    fresh := BitVec.ofNat 4 (s.fresh.toNat - Nat.land s.fresh.toNat rise)
    due :=
      { mail := BitVec.ofNat 4 acts, word := BitVec.ofNat 21 word, bm := s.due.bm ++ ports,
        done := judged && w.sco v n 0, healthy := judged && w.sco v n 1, ctrl := mail }
    strobe := BitVec.ofNat 4 (s.strobe.toNat - fed)
    turnLev := BitVec.ofNat 4 (s.turnLev.toNat - Nat.land s.turnLev.toNat fed)
    mb := if mail then { s.mb with inWidx := widx, userOld := s.mb.userPrev, userPrev := user } else s.mb }

/-- One instant of the slot clock edge grid (R180): `num / den` is the instant in REFCLK periods along the epoch count; the outputs with a
rising edge follow from it. `fall` names the outputs whose high phase has ended, bit 4n + i for SCLKi of slot n; `turn` gives the
levels of TURN strobes as logic on other clocks sees them; `pins` and `drv` the levels at the balls that something outside drives,
34 bits per slot: IOn_00 to IOn_31, GCKn_0, GCKn_1. Edges before are completed first. -/
def Device.clockEdge (d : Device) (num den : Nat) (fall turn : BitVec 64) (pins drv : BitVec 544) : Device :=
  if d.pastInstant num den || d.edgeDone num den then d
  else
    let late := d.lateAt num den
    let d := d.serveBefore num den
    let d := if late then d.endCycles else d
    let live := allSlots.filter d.fabricLive
    let d := d.forSlots allSlots fun n d => d.setBalls n (BitVec.ofNat 34 (bitsOf pins.toNat (34 * n.val) 34))
      (BitVec.ofNat 34 (bitsOf drv.toNat (34 * n.val) 34)) (d.turnLevels n (d.risesOf n num den) (bitsOf turn.toNat (4 * n.val) 4) late)
    let d := d.settleAll
    let d := d.forSlots allSlots fun n d => d.endHigh n (Nat.lor (bitsOf fall.toNat (4 * n.val) 4) (d.risesOf n num den))
    let w := d.forSlots live fun n d =>
      let x := d.curView n
      d.modSlot n fun s => { s with pre := x }
    let d := w.forSlots live fun n d => w.slotEdge n num den late d
    ({ d with turn := { d.turn with edgeAt := some (num, den) } }.settleAll).afterChange allSlots

/-- The balls of a bank and the strobe levels as a row at an instant gives them. -/
def Device.setBank (d : Device) (n : Fin 16) (x : BankAt) : Device := d.setBalls n x.pins x.drv (d.turnLevels n 0 x.turn.toNat false)

/-- Presets and clears of a slot act under the given ball levels (R133), as do latches and product-term clocks that follow from them. -/
def Device.presetClear (d : Device) (n : Fin 16) (x : BankAt) : Device :=
  if d.pastInstant x.instant.num x.instant.den || !d.fabricLive n then d
  else
    let d := if d.lateAt x.instant.num x.instant.den then d.endCycles else d
    ((d.setBank n x).settleAll).afterChange allSlots

/-- The DDR registers of the pairs of a bank on DDR clock `clk` (0 to 3 SCLK0 to SCLK3, 4 and 5 GCKn_0 and GCKn_1) at one edge, with the
views `v` (R252, R253). -/
def Device.ddrStep (d : Device) (v : Fin 16 → FabView) (n : Fin 16) (clk : Nat) (rise : Bool) : Device :=
  let one := fun (k : Nat) (x : Nat × Nat × Nat) =>
    let (r, low) := x
    if d.pairNow n k 3 1 ≠ 1 ∨ d.ddrClk n k ≠ clk ∨ (!rise && bitOf low.2 k) then x
    else
      let low := (low.1, withBit low.2 k (!rise))
      if d.pairActs n k = 1 then
        let p := d.bankOn n && d.diffLevel n (2 * k)
        if rise then (withBit r (4 * k) p, withBit low.1 k (bitOf r (4 * k + 1)), low.2)
        else (withBit r (4 * k + 1) p, low)
      else if d.pairActs n k = 2 ∧ rise then
        (withBit (withBit r (4 * k + 2) (d.mcOut v n (d.pinNow n (2 * k) 8 11))) (4 * k + 3)
          (d.mcOut v n (d.pinNow n (2 * k + 1) 8 11)), low)
      else (r, low)
  let r := iter 16 one ((d.slot n).ddr.toNat, (d.slot n).ddrFall.toNat, (d.slot n).ddrLow.toNat)
  d.modSlot n fun s => { s with
    ddr := BitVec.ofNat 64 r.1, ddrFall := BitVec.ofNat 16 r.2.1, ddrLow := BitVec.ofNat 16 r.2.2 }

/-- The DDR clock has an edge at the instant: a slot clock rises on its grid and falls once, also after a hold (R152, R180); a GCK ball
acts while the bank is configured (R260). None falls inside a swap cycle or a slot reset (R260, R270). -/
def Device.ddrClocked (d : Device) (n : Fin 16) (clk : Nat) (rise : Bool) (num den : Nat) : Bool :=
  let s := d.slot n
  (s.cyc == .idle || s.cyc == .start) &&
    if clk < 4 then (if rise then d.risesAt n num den clk else true)
    else (s.st == .running || s.st == .loaded || s.st == .held) && s.power == .on

/-- An edge of a DDR clock of a bank (R252, R253, R270). -/
def Device.ddrEdge (d : Device) (n : Fin 16) (clk : Nat) (rise : Bool) (x : BankAt) : Device :=
  let num := x.instant.num
  let den := x.instant.den
  if d.pastInstant num den then d
  else
    let d := if d.lateAt num den then d.endCycles else d
    if !d.ddrClocked n clk rise num den then d
    else
      let d := d.setBank n x
      let v := if clk < 4 && d.turn.edgeAt == some (num, den) then d.preViews else d.curView
      ((d.ddrStep v n clk rise).settleAll).afterChange [n]

/-- Outputs that have stopped have completed their high phase by the time anything later looks (R152, R184, R185). -/
def Device.endStopped (d : Device) : Device :=
  d.forSlots allSlots fun n d =>
    let outs := (List.range 4).filter fun i => bitOf (d.slot n).clkHigh.toNat i && !d.clockRuns n i
    if outs.isEmpty then d
    else
      let d := outs.foldl (fun d i => d.ddrStep d.curView n i false) d
      d.endHigh n (ofBits ((List.range 4).map fun i => decide (i ∈ outs)))

end Sys2Proof.Machine
end

