-- ==== Sys2Proof/Machine/Dma.lean ====
section
/-! DEFINITION. DMA channels and turn tokens (R531 to R540, R546 to R552). -/

namespace Sys2Proof.Machine

/-! ### Channels -/

/-- Entries of a channel's ring; LOG2 below 4 acts as 4, above 12 as 12. -/
def Device.ringEntries (d : Device) (n : Fin 16) : Nat := 2 ^ max 4 (min 12 (d.fld (Fld.dmaRingSizeLog2 n)))

/-- HEAD and TAIL modulo the ring size (R531, R550). -/
def Device.dmaHd (d : Device) (n : Fin 16) : Nat := d.fld (Fld.dmaHeadHead n) % d.ringEntries n
def Device.dmaTl (d : Device) (n : Fin 16) : Nat := d.fld (Fld.dmaTailTail n) % d.ringEntries n

/-- The channel whose registers stand in slot `n`'s window belongs to this VF: `n` is bound and is member 0. -/
def Device.chanVf (d : Device) (n : Fin 16) : Option (Fin 2 × Nat) :=
  if (d.slot n).gmember = 0 then (d.slot n).binding else none

/-- The channel is active (R532). -/
def Device.dmaActive (d : Device) (n : Fin 16) : Bool :=
  match d.chanVf n with
  | none => false
  | some (p, v) => d.flag (Fld.dmaCtlEn n) && !d.flag (Fld.dmaStatusHalted n) && d.vfEnabled p v && d.busMaster p v &&
      d.dmaHd n != d.dmaTl n

/-- The channel may issue: bound and enabled, outside D3hot, with the link in L0 (R515, R552). -/
def Device.dmaMayIssue (d : Device) (n : Fin 16) : Bool :=
  match d.chanVf n with
  | none => false
  | some (p, v) => d.vfEnabled p v && d.busMaster p v && !d.inD3 p v && d.linkUp p

/-- Change a channel. -/
def Device.setChan (d : Device) (n : Fin 16) (c : DmaChan) : Device := d.modSlot n fun s => { s with chan := c }

/-- Host address of the descriptor at HEAD. -/
def Device.descAddr (d : Device) (n : Fin 16) : Nat :=
  d.fld (Fld.dmaRingLoBaseLo n) * 64 + d.rd (Reg.dmaRingHi n) * 2 ^ 32 + 32 * d.dmaHd n

/-- Fields of the descriptor in progress ("DMA descriptor" table). -/
def DmaChan.host (c : DmaChan) : Nat := leAt c.desc 0 8
def DmaChan.length (c : DmaChan) : Nat := leAt c.desc 8 4
def DmaChan.off (c : DmaChan) : Nat := leAt c.desc 12 2
def DmaChan.mem (c : DmaChan) : Nat := leAt c.desc 14 1 % 16
def DmaChan.member (c : DmaChan) : Nat := bitsOf (leAt c.desc 14 1) 4 2
def DmaChan.toHost (c : DmaChan) : Bool := bitOf (leAt c.desc 15 1) 0
def DmaChan.irq (c : DmaChan) : Bool := bitOf (leAt c.desc 15 1) 1

/-- The slot at a member position of the channel's group. -/
def Device.chanSlot (d : Device) (n : Fin 16) (c : DmaChan) : Option (Fin 16) := (d.members n)[c.member]?

/-- A member is on its way back to ON, or in RETAIN under automatic wake, so that the channel waits (R535). -/
def Device.dmaWaits (d : Device) (n m : Fin 16) : Bool :=
  let s := d.slot m
  (s.power == .retain && (d.flag (Fld.pwrSlotAutoRetain n) || d.flag (Fld.pwrSlotWakePend n))) ||
    (s.power == .off && d.flag (Fld.pwrSlotWakePend n)) || (s.power == .on && s.clk.syncWait)

/-- The code of the conditions that concern the member's state and its memory, 0 where all hold (R230, R227, R229, R548). -/
def Device.dmaTargetCode (d : Device) (m : Fin 16) (c : DmaChan) : Nat :=
  let s := d.slot m
  if s.power != .on || s.st == .sweeping then 0x54
  else if !d.bmVisible m c.mem then 0x50
  else if !c.toHost && d.hostwinRo m then 0x51
  else 0

/-- The code of a fetched descriptor ("DMA codes" table), its own fields first. -/
def Device.descCode (d : Device) (n : Fin 16) (c : DmaChan) : Nat :=
  match d.chanSlot n c with
  | none => 0x55
  | some m =>
    if bitsOf (leAt c.desc 14 1) 6 2 ≠ 0 ∨ bitsOf (leAt c.desc 15 1) 2 6 ≠ 0 ∨ leAt c.desc 16 8 ≠ 0 ∨
        bitOf (leAt c.desc 24 4) 31 then 0x55
    else if c.host % 8 ≠ 0 ∨ c.length % 8 ≠ 0 ∨ c.length < 8 ∨ 8192 < c.length ∨ c.off % 8 ≠ 0 ∨
        0x2000 < c.off + c.length then 0x52
    else if d.dmaWaits n m then 0
    else d.dmaTargetCode m c

/-- A channel that stops being active returns its balance to the pool at that instant (R538). -/
def Device.returnBalance (d : Device) (n : Fin 16) : Device :=
  match d.chanVf n with
  | none => d
  | some (p, _) => if d.dmaActive n then d else d.giveBack p n

/-- Post STATUS and COMPL_TURN to the descriptor and advance HEAD (R532 steps 3 and 4). A channel whose ring this empties returns its
balance (R538). -/
def Device.dmaWriteBack (d : Device) (n : Fin 16) (code : Nat) : Device :=
  match d.chanVf n with
  | none => d
  | some (p, v) =>
    let d := d.emit (.hostWrite p v (d.descAddr n + 0x18) (leBytes 4 (2 ^ 31 + code) ++ leBytes 4 (d.turnCount % 2 ^ 32)))
    let d := d.setFld (Fld.dmaHeadHead n) ((d.dmaHd n + 1) % d.ringEntries n)
    let d := (d.setFld (Fld.dmaStatusLastCode n) code).setFlag (Fld.dmaStatusBusy n) false
    (d.setChan n DmaChan.reset).returnBalance n

/-- A descriptor fails (R534); the halted channel returns its balance (R538). -/
def Device.dmaFail (d : Device) (n : Fin 16) (code : Nat) : Device :=
  (((d.dmaWriteBack n code).setFlag (Fld.dmaStatusHalted n) true).returnBalance n).raiseSlot n 15 [(code, 8)]

/-- A descriptor ends without failure (R532 step 4). -/
def Device.dmaDone (d : Device) (n : Fin 16) : Device :=
  if (d.slot n).chan.stage = 4 then
    let irq := (d.slot n).chan.irq
    let d := d.dmaWriteBack n 0
    if irq then d.raiseSlot n 14 [] else d
  else d

/-- A failed host read, by its kind: 1 Unsupported Request, 4 Completer Abort, 2 poisoned, 3 timeout; the VF logs a poisoned
completion, whose header the command does not carry, and a timeout (R521), and the descriptor fails with HOST_ERR. -/
def Device.dmaReadFail (d : Device) (n : Fin 16) (kind : Nat) : Device :=
  match d.chanVf n with
  | none => d
  | some (p, v) =>
    let d := if kind = 2 then d.free.2.aerUncorrectable p v 12 false (some d.free.1)
      else if kind = 3 then (d.aerUncorrectable p v 14 false none).portEvent p 8 [(v, 5)] else d
    d.dmaFail n 0x53

/-- An active channel reads the descriptor at HEAD and checks it (R532 step 1, R534): `status` is how the host completes the
read, 0 for success with `data`. -/
def Device.dmaFetch (d : Device) (n : Fin 16) (status : Nat) (data : List Byte) : Device :=
  if (d.slot n).chan.stage ≠ 0 ∨ !d.dmaActive n ∨ !d.dmaMayIssue n ∨ d.dmaWaits n n then d
  else
    match d.chanVf n with
    | none => d
    | some (p, v) =>
      let d := (d.emit (.hostRead p v (d.descAddr n) 32)).setFlag (Fld.dmaStatusBusy n) true
      if status ≠ 0 then d.dmaReadFail n status
      else
        let c : DmaChan := { DmaChan.reset with stage := 2, desc := padTo 32 data }
        let d := d.setChan n c
        let code := d.descCode n c
        if code ≠ 0 then d.dmaFail n code else d

/-! ### Turn tokens (R536 to R540) -/

/-- The channels of a port in ascending VF order, as (VF, slot). -/
def Device.portChans (d : Device) (p : Fin 2) : List (Nat × Fin 16) :=
  (List.range 16).filterMap fun i =>
    (allSlots.find? fun n => d.chanVf n == some (p, i + 1)).map fun n => (i + 1, n)

/-- Weight of VF `v`. -/
def Device.dmaWeight (d : Device) (p : Fin 2) (v : Nat) : Nat := d.fld (Fld.ptDmaWeightW p ((v - 1) / 4) ((v - 1) % 4))

/-- The list rotated so that the entries after VF `last` come first. -/
def rotateAfter (l : List (Nat × Fin 16)) (last : Nat) : List (Nat × Fin 16) :=
  (l.filter fun x => decide (last < x.1)) ++ l.filter fun x => decide (x.1 ≤ last)

/-- The allotment of a port at a tick instant (R537, R539). -/
def Device.allotPort (d : Device) (p : Fin 2) : Device :=
  let q := d.ports[p]
  let d := d.wr (Reg.ptDmaUsedLast p) q.charged
  let d := (d.portChans p).foldl (fun d x => d.wr (Reg.dmaBalance x.2) 0) (d.wr (Reg.ptDmaPool p) 0)
  let t := d.rd (Reg.ptDmaTokens p)
  let d := d.modPort p fun q => { q with tokT := t, charged := 0 }
  let act := (d.portChans p).filter fun x => d.dmaActive x.2
  let w := act.foldl (fun a x => a + d.dmaWeight p x.1) 0
  if t = 0 then d
  else if w = 0 then d.wr (Reg.ptDmaPool p) t
  else
    let share := fun (x : Nat × Fin 16) => t * d.dmaWeight p x.1 / w
    let rest := t - act.foldl (fun a x => a + share x) 0
    let extra := (rotateAfter act q.remLast).take rest
    let d := act.foldl (fun e x => e.wr (Reg.dmaBalance x.2) (share x + natOf (extra.any fun y => y.1 == x.1))) d
    match extra.getLast? with
    | some x => d.modPort p fun q => { q with remLast := x.1 }
    | none => d

/-- Length of the channel's next chunk (R532 step 2). -/
def Device.chunkLen (d : Device) (p : Fin 2) (c : DmaChan) : Nat :=
  let most := min 512 (if c.toHost then d.mps p else d.mrrs p)
  min (min most (c.length - c.moved)) (4096 - (c.host + c.moved) % 4096)

/-- The channel has a chunk to issue. -/
def Device.chunkReady (d : Device) (n : Fin 16) : Bool :=
  (d.slot n).chan.stage == 2 && d.dmaMayIssue n &&
    match d.chanSlot n (d.slot n).chan with
    | some m => !d.dmaWaits n m && !d.memBusy m
    | none => true

/-- Pay for a chunk of `len` bytes (R536, R538): none where the channel must wait. -/
def Device.dmaPay (d : Device) (n : Fin 16) (p : Fin 2) (v len : Nat) : Option Device :=
  let q := d.ports[p]
  let ready := (d.portChans p).filter fun x => d.chunkReady x.2
  if q.tokT = 0 then
    if ((rotateAfter ready q.rrLast).head?.map (·.1)) = some v then
      some (d.modPort p fun q => { q with rrLast := v })
    else none
  else
    let cost := (len + 63) / 64
    let b := d.rd (Reg.dmaBalance n)
    let charge := fun (d : Device) => d.modPort p fun q => { q with charged := q.charged + cost }
    if cost ≤ b then some (charge (d.wr (Reg.dmaBalance n) (b - cost)))
    else
      let short := fun (x : Nat × Fin 16) =>
        let c := (d.slot x.2).chan
        decide (d.rd (Reg.dmaBalance x.2) < (d.chunkLen p c + 63) / 64)
      let drawing := ready.filter short
      if cost - b ≤ d.rd (Reg.ptDmaPool p) ∧ ((rotateAfter drawing q.drawLast).head?.map (·.1)) = some v then
        let d := (d.wr (Reg.ptDmaPool p) (d.rd (Reg.ptDmaPool p) - (cost - b))).wr (Reg.dmaBalance n) 0
        some (charge (d.modPort p fun q => { q with drawLast := v }))
      else none

/-- Data of a descriptor has been moved by `len` bytes; after the last the write-back is due. -/
def Device.dmaMoved (d : Device) (n : Fin 16) (len : Nat) : Device :=
  let c := (d.slot n).chan
  let d := d.noteUse n
  d.setChan n { c with moved := c.moved + len, len := 0, stage := if c.moved + len = c.length then 4 else 2 }

/-- The block memory access of a chunk is a transaction of M8 with the TCID of the VF that owns the channel (R38, R39); true where path and
ACT let it through, else the denial is recorded. -/
def Device.dmaJudge (d : Device) (n m : Fin 16) (len : Nat) (write : Bool) : Bool × Device :=
  let c := (d.slot n).chan
  match d.chanVf n with
  | some (p, v) =>
    d.judgeSpan 8 (tcidOf p v) 4 (0x40100000 + m.val * 0x1000000 + c.mem * 0x10000 + c.off + c.moved) len write
  | none => (true, d)

/-- A chunk that the matrix denies ends its descriptor with a failure; which of the DMA codes, the spec does not state. -/
def Device.dmaDenied (d : Device) (n : Fin 16) : Device := d.free.2.dmaFail n (0x50 + d.free.1 % 6)

/-- A channel issues its next chunk (R532 step 2, R538, R548). -/
def Device.dmaChunk (d : Device) (n : Fin 16) : Device :=
  if !d.chunkReady n then d
  else
    let c := (d.slot n).chan
    match d.chanVf n, d.chanSlot n c with
    | some (p, v), some m =>
      let code := d.dmaTargetCode m c
      if code ≠ 0 then d.dmaFail n code
      else
        let len := d.chunkLen p c
        match d.dmaPay n p v len with
        | none => d
        | some d =>
          if c.toHost then
            let (ok, d) := d.dmaJudge n m len false
            if ok then (d.emit (.hostWrite p v (c.host + c.moved) (d.hostBytes m c.mem (c.off + c.moved) len))).dmaMoved n len
            else d.dmaDenied n
          else
            (d.emit (.hostRead p v (c.host + c.moved) len)).setChan n { c with stage := 3, len := len }
    | _, _ => d

/-- Data of a host read arrives (R532, R533); it waits while a capture or restore uses the block memory (R230, R240). -/
def Device.dmaData (d : Device) (n : Fin 16) (data : List Byte) : Device :=
  let c := (d.slot n).chan
  match d.chanSlot n c with
  | none => d
  | some m =>
    let code := d.dmaTargetCode m c
    if code ≠ 0 then d.dmaFail n code
    else if d.memBusy m then d.setChan n { c with stage := 5, data := data }
    else
      let (ok, d) := d.dmaJudge n m c.len true
      if ok then
        let d := d.hostWrite m c.mem (c.off + c.moved) (List.replicate c.len true) (padTo c.len data)
        (d.setChan n { c with data := [] }).dmaMoved n c.len
      else d.dmaDenied n

/-- Channels whose data waited for a capture or restore are served (R230). -/
def Device.dmaUnstall (d : Device) : Device :=
  d.forSlots allSlots fun n d => if (d.slot n).chan.stage = 5 then d.dmaData n (d.slot n).chan.data else d

/-- A channel stops and its registers take their Reset values (R546); a read in flight is remembered so that its completion
is discarded. -/
def Device.dmaStop (d : Device) (n : Fin 16) : Device :=
  match d.chanVf n with
  | none => d
  | some (p, v) =>
    let d := if (d.slot n).chan.stage = 3 then d.modPort p fun q => { q with stale := q.stale ++ [v] } else d
    let d := (d.setFlag (Fld.dmaCtlEn n) false).returnBalance n
    let snap := d.rd (Reg.snapDmaStatus n)
    let gen := d.rd (Reg.dmaSnapGen n)
    let d := (((d.resetRegs (Reg.dmaCtl n) 0x1000).wr (Reg.snapDmaStatus n) snap).wr (Reg.dmaSnapGen n) gen)
    d.setChan n DmaChan.reset

/-- A write of DMA_TAIL (R531, R550): one that empties the ring returns the balance (R538), and one that makes the channel active wakes the
group (R905). -/
def Device.dmaTail (d : Device) (n : Fin 16) (v : Nat) : Device :=
  let was := d.dmaActive n
  let d := (d.setFld (Fld.dmaTailTail n) (v % 2 ^ 12 % d.ringEntries n)).returnBalance n
  if !was && d.dmaActive n then d.autoWake n else d

end Sys2Proof.Machine
end

