-- ==== Sys2Proof/Machine/SlotPower.lean ====
section
/-! DEFINITION. Slot power states (R901 to R908, R916 to R921). -/

namespace Sys2Proof.Machine

/-- The RETAIN row of the "SLOT_POWER conditions" table, for every member of the group. -/
def Device.retainOk (d : Device) (n : Fin 16) : Bool :=
  (d.members n).all fun m =>
    let s := d.slot m
    (s.st == .loaded || s.st == .running || s.st == .held) && s.power == .on && !d.jobUses m && s.swap.isNone &&
      s.trial.isNone && s.copying.isNone && !d.capturing m && !d.restoring m && !d.jobWaits m

/-- The code of a slot power change, 0 where it is allowed (R902). -/
def Device.slotPowerCode (d : Device) (n : Fin 16) (dst : SlotPower) : Nat :=
  match dst with
  | .retain => if d.retainOk n then 0 else 0xC1
  | _ => if (d.slot n).st = .sweeping then 0x44 else 0

/-- The slots that a change of slot `n` reaches ("SLOT_POWER conditions" table). -/
def Device.powerReach (d : Device) (n : Fin 16) (dst : SlotPower) : List (Fin 16) :=
  match dst with
  | .retain => d.members n
  | .on => if (d.slot n).power = .retain then (d.members n).filter fun m => (d.slot m).power == .retain else [n]
  | .off => [n]

/-- One slot's power state changes at position 7 (R901, R906, R908): event 510 with slot, kind and cause. A return from RETAIN starts an
active-plane scrub pass (R441). -/
def Device.setSlotPower (d : Device) (n : Fin 16) (dst : SlotPower) (cause : Nat) : Device :=
  let was := (d.slot n).power
  let d := d.setFld (Fld.pwrSlotIdleCnt n) 0
  if was = dst then d
  else
    let d := match dst with
      | .on =>
        let d := if was == SlotPower.retain then d.setScrub n ⟨false, 0, 0⟩ else d
        let wait := was == SlotPower.retain && d.clkEn n (d.act n) != 0
        let d := d.setFlag (Fld.pwrSlotWakePend n) false
        d.modSlot n fun (s : Slot) => { s with
          power := SlotPower.on, wakeAuto := false, bindOn := false
          clk := { s.clk with syncWait := wait, lockA := 0, lockB := 0 } }
      | .retain => d.modSlot n fun (s : Slot) => { s with
          power := SlotPower.retain, checked := false, strobe := 0
          clk := { s.clk with syncWait := false, lockA := 0, lockB := 0, rangeErr := 0 } }
      | .off =>
        let d := (d.zeroPlane n 0).zeroPlane n 1
        let d := d.clearMem (keyBm n 0) 0x20000
        let d := iter 16 (fun b (d : Device) => (d.wr (Reg.slcBmStatus n b) 0).wr (Reg.slcBmErraddr n b) 0) d
        d.modSlot n fun (s : Slot) => { s with
          power := SlotPower.off, st := if s.st = SlotState.empty then SlotState.empty else SlotState.bound
          mc := 0, ptPrev := 0, clkHigh := 0, fresh := 0, ctrlReg := 0, turnLev := 0
          ddr := 0, ddrFall := 0, ddrLow := 0, holdPins := 0, holdH := 0, holdV := 0
          bm := s.bm.map fun _ => ⟨0, 0, 0, 0, 0, 0, 0⟩
          trial := none, copying := none, checked := false, strobe := 0, done := false, healthy := false
          due := DueOps.reset, emptyOff := false
          clk := { s.clk with syncWait := false, lockA := 0, lockB := 0, rangeErr := 0, monitored := 0 } }
    let d := if dst = .on then d else d.clkFault n false
    d.raise 510 [(n, 4), (powerCode dst, 4), (cause, 4)]

/-- SLOT_POWER (R902): the code of its refusal, whether it is done at once, and the device. -/
def Device.requestPower (d : Device) (n : Fin 16) (state : Nat) (cid : Option Nat) : Nat × Bool × Device :=
  if 2 < state then (0xC0, true, d)
  else
    let dst : SlotPower := if state = 0 then .on else if state = 1 then .retain else .off
    if (d.slot n).power = dst then (0, true, d)
    else
      let code := d.slotPowerCode n dst
      let ms := d.powerReach n dst
      if code ≠ 0 then (code, true, d)
      else if ms.any fun m => (d.slot m).pend7.isSome then (0x83, true, d)
      else (0, false, d.forSlots ms fun m d => d.modSlot m fun s => { s with pend7 := some ⟨dst, cid⟩ })

/-- IDLE_CNT has reached IDLE_TURNS (0 acts as 1): RETAIN is asked for at position 7 (R904). -/
def Device.idleRetain (d : Device) (n : Fin 16) : Device :=
  if d.flag (Fld.pwrSlotAutoRetain n) ∧ max 1 (d.fld (Fld.pwrSlotIdleTurns n)) ≤ d.fld (Fld.pwrSlotIdleCnt n) then
    d.modSlot n fun s => { s with idleAuto := true }
  else d

/-- Position 1 for the idle count of the group whose member 0 is `n` (R903, R904): `idleAuto` asks for RETAIN at
position 7. -/
def Device.idleJudge (d : Device) (n : Fin 16) : Device :=
  let ms := d.members n
  let idle := d.flag (Fld.pwrSlotAutoRetain n) && ms.all (fun m => (d.slot m).checked && (d.slot m).poweredTurn) &&
    !(d.slot n).idleBreak && d.retainOk n
  let cnt := if idle then satInc 255 (d.fld (Fld.pwrSlotIdleCnt n)) else 0
  let d := (d.setFld (Fld.pwrSlotIdleCnt n) cnt).modSlot n fun s => { s with idleAuto := false }
  d.idleRetain n

/-- Position 7 (R902, R904, R905, R907, R908): requests first, then automatic changes of the groups without one. `wakeOn`
lists the slots that an unbind of this tick returns to ON (R470). -/
def Device.powerPosition (d : Device) (wakeOn : List (Fin 16)) : Device :=
  let d := d.forSlots wakeOn fun n d =>
    let d := d.setSlotPower n .on 0
    if (d.slot n).st = .sweeping && !d.captureReading n then d.sweepZero n else d
  let reqs := allSlots.filterMap fun n => (d.slot n).pend7.map fun r => (n, r, d.slotPowerCode n r.dst)
  let d := reqs.foldl (fun d x =>
    let d := d.modSlot x.1 fun s => { s with pend7 := none, idleAuto := false }
    let d := if x.2.2 = 0 then d.setSlotPower x.1 x.2.1.dst 0 else d
    d.completeOpt x.2.1.cid x.2.2 (if x.2.2 = 0 then d.tickNumber else [])) d
  let named := fun (n : Fin 16) => reqs.any fun x => x.1 == n
  let d := d.forSlots allSlots fun n d =>
    let s := d.slot n
    let ms := d.members n
    let d := if s.idleAuto && s.gmember == 0 then
        if ms.any named then d.setFld (Fld.pwrSlotIdleCnt n) 0
        else if ms.all fun m => (d.slot m).power == .on &&
            ((d.slot m).st == .loaded || (d.slot m).st == .running || (d.slot m).st == .held) then
          d.forSlots ms fun m d => d.setSlotPower m .retain 1
        else d
      else d
    let d := if s.wakeAuto && s.gmember == 0 && !ms.any named then
        d.forSlots (ms.filter fun m => (d.slot m).power == .retain && (d.slot m).st != .faulted) fun m d => d.setSlotPower m .on 2
      else d
    let d := if s.emptyOff && s.st == .empty && d.flag Fld.pwrCtlEmptyOff && !named n then d.setSlotPower n .off 3 else d
    let d := if s.bindOn && !named n then d.setSlotPower n .on 3 else d
    d.modSlot n fun s => { s with idleAuto := false, emptyOff := false, bindOn := false, wakeAuto := false }
  d.forSlots allSlots fun n d => if (d.slot n).gmember = 0 then d.setFlag (Fld.pwrSlotWakePend n) false else d

end Sys2Proof.Machine
end

