-- ==== Sys2Proof/Machine/Turn.lean ====
section
/-! DEFINITION. The TURN tick: the ordered tick actions, tick sources, tick loss, and the turn counter (chapter 08). -/

namespace Sys2Proof.Machine

/-- The slots at member position 0: one for each group, and every slot in no group. -/
def Device.leaders (d : Device) : List (Fin 16) := allSlots.filter fun n => (d.slot n).gmember == 0

/-! ### Before position 1 -/

/-- An ALIGNED latch that is due at this tick (R804, R806, R811): ON_ALIGNED captures become due with it. -/
def Device.alignedLatch (d : Device) : Device :=
  let due := match d.scribe.alignTick with
    | none => true
    | some k => decide (k ≤ d.nextTurn)
  if d.flag Fld.scribeStatusPendAligned && due then
    let d := (d.latchAll).setFlag Fld.scribeStatusPendAligned false
    { d with scribe := { d.scribe with
      alignTick := none
      captures := d.scribe.captures.map fun (c : CaptureJob) => if c.stage = 0 then { c with stage := 1 } else c } }
  else d

/-- A chuck fault of one slot (R480, R965): the cause and event 480 with slot and lowest failing cell, FAULT_CELL, slot event
9, and the slot safe state where the slot's state has one. -/
def Device.chuckDetect (d : Device) (n : Fin 16) (cell : Nat) : Device :=
  let d := d.detectSlot 0 480 [(n, 4), (cell, 16)] n faultChuck
  (d.wr (Reg.slcChuckStatus n) cell).raiseSlot n 9 []

/-- The comparison of every chuck cell of every ON slot (R480), with an injected failure of cell 0 (R984 MECH 1, R994). -/
def Device.chuckCompare (d : Device) : Device :=
  let d := d.forSlots allSlots fun n d =>
    if d.safety.inj = some (1, n.val) then
      if (d.slot n).power = .on then d.chuckDetect n 0 else d.signal 0 480 [(n, 4), (0, 16)]
    else if (d.slot n).power = .on then
      match d.chuckFault n with
      | some c => d.chuckDetect n c
      | none => d
    else d
  match d.safety.inj with
  | some (1, _) => { d with safety := { d.safety with inj := none } }.setFlag Fld.safeStatusInjBusy false
  | _ => d

/-! ### Position 1 (R296 to R301) -/

/-- The overrun policy of a slot's group in force at this tick: that of member 0; 3 is treated as 0 (R299 to R301). -/
def Device.overrunPolicy (d : Device) (n : Fin 16) : Nat :=
  let p := bitsOf (d.rd Reg.turnOvrPolicy) (2 * (d.member0 n).val) 2
  if p = 3 then 0 else p

/-- A checked slot whose done latch is 0 has overrun (R297, R298). -/
def Device.hasOverrun (d : Device) (n : Fin 16) : Bool := (d.slot n).checked && !(d.slot n).done

/-- The overrun check of one slot (R296, R298); a slot under a restore keeps the flags written to it (R824). -/
def Device.overrunCheck (d : Device) (n : Fin 16) : Device :=
  let s := d.slot n
  let late := d.hasOverrun n
  let d := (d.setFldBit Fld.turnDoneLastDone n (s.checked && s.done)).setFldBit Fld.turnHealthyLastHealthy n
    (s.checked && s.healthy)
  let d := if late then
      ((d.setFldBit Fld.turnOvrFlagOvr n true).incFld (Fld.turnOvrCountCount n)).raiseSlot n 2 []
    else d
  if d.restoring n then d else d.modSlot n fun s => { s with overran := late }

/-! ### Position 5 -/

/-- A hold from outside the requests: overrun HOLD, the hold after a VF FLR, or a failed trial without revert target
(R299, R315, R317, R433). A pending release is overtaken; resumes are cancelled. -/
def Device.forceHold (d : Device) (n : Fin 16) : Device :=
  let ms := d.members n
  let d := d.forSlots ms fun m d =>
    (d.modSlot m fun s => { s with
      flrHold := false
      st := if s.st = .running then .held else s.st
      checked := s.checked && s.st != .running, strobe := if s.st = .running then 0 else s.strobe }).dropResume m
  match (d.slot n).pend5 with
  | some ⟨.release, cid, named⟩ =>
    let d := d.forSlots ms fun m d => d.modSlot m fun s => { s with pend5 := none }
    (d.slotResult named 0x84).completeOpt cid 0x84 []
  | _ => d

/-- A group's position 5 request, which names slot `n`, is done or discarded with a code (R482). -/
def Device.endRequest (d : Device) (n : Fin 16) (cid : Option Nat) (code : Nat) : Device :=
  let d := d.forSlots (d.members n) fun m d => d.modSlot m fun s => { s with pend5 := none }
  (d.slotResult n code).completeOpt cid code (if code = 0 then d.tickNumber else [])

/-- The pending position 5 request of the group whose member 0 is `n` (R475, R476, R482 to R484, R493, R429). -/
def Device.position5Request (d : Device) (n : Fin 16) : Device :=
  let ms := d.members n
  match ms.findSome? fun m => (d.slot m).pend5 with
  | none => d
  | some r =>
    let n := r.slot
    match r.req with
    | .unbind => d
    | .hold =>
      let code := d.requestCode n .hold
      let d := if code = 0 then d.forSlots ms fun m d => d.modSlot m fun s => { s with
          st := if s.st = .running then .held else s.st, checked := s.checked && s.st != .running
          strobe := if s.st = .running then 0 else s.strobe }
        else d
      d.endRequest n r.cid code
    | .release =>
      let code := d.requestCode n .release
      if code ≠ 0 then d.endRequest n r.cid code
      else if ms.any fun m => match (d.slot m).copying with | some (f, _) => f | none => false then d
      else (d.forSlots ms fun m d => d.startRunning m).endRequest n r.cid 0
    | .slotReset =>
      let code := d.requestCode n .slotReset
      let d := if code = 0 then d.forSlots ms fun m d => d.slotReset m else d
      d.endRequest n r.cid code
    | .faultClear =>
      let code := d.requestCode n .faultClear
      let d := if code = 0 then d.forSlots (ms.filter fun m => (d.slot m).st == .faulted) fun m d =>
          (d.wr (Reg.slcFault m) 0).modSlot m fun s => { s with st := .held }
        else d
      d.endRequest n r.cid code

/-- Unbinds and splits that take effect at this tick (R470, R478), with the record of the grants revoked (R738); the result lists
the slots to return to ON. -/
def Device.position5Unbind (d : Device) : List (Fin 16) × Device :=
  let due := allSlots.filter fun n => match (d.slot n).pend5 with | some p => p.req == .unbind | none => false
  let r := due.foldl (fun (x : List (Fin 16) × Device) n =>
    let d := x.2
    let cid := match (d.slot n).pend5 with | some p => p.cid | none => none
    let off := (d.slot n).power != .on
    (if off then x.1 ++ [n] else x.1, d.startSweep n cid)) ([], d)
  if due.isEmpty then r else (r.1, r.2.actSettle 4)

/-- Captures' resumes that wait for position 5 (R816, R817): judged as a release of the group. -/
def Device.position5Resume (d : Device) : Device :=
  let rs := d.scribe.resumes
  let d := { d with scribe := { d.scribe with resumes := [] } }
  rs.foldl (fun d r =>
    match r.members with
    | [] => d
    | n :: _ => if d.requestCode n .release = 0 then d.forSlots r.run fun m d => d.startRunning m else d) d

/-! ### Position 6 (R305 to R307) -/

/-- The visibility boundary of one slot advances, inbound withheld under SKIP; event 1 for new outbound entries. -/
def Device.boundary (d : Device) (n : Fin 16) (skip : Bool) : Device :=
  if (d.bindingOf n).isNone then d
  else
    let m := (d.slot n).mb
    let d := d.modSlot n fun s => { s with mb := { s.mb with
      inVis := if skip then s.mb.inVis else s.mb.inq.length, outVis := s.mb.outq.length } }
    if m.outVis < m.outq.length then d.raiseSlot n 1 [] else d

/-! ### Position 8 and the turn that the tick opens -/

/-- The counter, the period and the source (R284, R288, R311, R312). -/
def Device.position8 (d : Device) : Device :=
  let t := d.nextTurn
  let d := if t ≠ (d.turnCount + 1) % 2 ^ 64 then (d.setFlag Fld.turnStatusAdoptJump true).raise 506 [] else d
  let d := (d.wr Reg.turnCountLo (t % 2 ^ 32)).wr Reg.turnCountHi (t / 2 ^ 32)
  let d := d.wr Reg.turnPeriodCur (d.rd Reg.turnPeriod)
  let src := d.fld Fld.turnCtlSrc
  (d.setFld Fld.turnStatusSrcCur (if src = 3 then 0 else src)).wr Reg.turnElapsed 0

/-- A slot enters the new turn: clocks that waited for lock run again as after a release (R906), it is checked at the next tick when it
runs (R297, R906), the strobes of its running outputs are due (R186, R187, R196), and its latches are clear (R296). -/
def Device.openTurn (d : Device) (n : Fin 16) (skip : Bool) : Device :=
  let ready := Nat.land (d.clkEn n (d.act n)) (d.lockAct n) == d.clkEn n (d.act n)
  let d := if (d.slot n).restored || d.restoring n then d else d.modSlot n fun s => { s with skipped := skip }
  let d := d.modSlot n fun s =>
    let wait := s.clk.syncWait && !ready
    { s with
      clk := { s.clk with syncWait := wait }
      cyc := if s.clk.syncWait && ready && s.st == .running && s.cyc == .idle then .start else s.cyc
      checked := s.st == .running && s.power == .on && !wait
      done := false, healthy := false, poweredTurn := s.power == .on && !wait
      idleBreak := !s.mb.inq.isEmpty || !s.mb.outq.isEmpty }
  let due := BitVec.ofNat 4 (ofBits ((List.range 4).map fun i => d.clockRuns n i))
  d.modSlot n fun s => { s with strobe := due }

/-! ### The tick -/

/-- The ordered tick actions (R291, R292): the aligned latch as the turn ends (R804), the chuck comparison, positions 1 to 8, and the
state in which each slot enters the new turn. -/
def Device.tick (d : Device) : Device :=
  let d := ((d.flushEdges.endCycles).settleAll).endStopped
  let d := d.alignedLatch
  let d := if d.flag Fld.turnStatusLost then (d.setFlag Fld.turnStatusLost false).setActive 3 false else d
  let d := { d with turn := { d.turn with tickAt := d.epoch, inEdge := none } }
  let d := d.forSlots allSlots fun n d => d.modSlot n fun s => { s with
    resumed := false, restored := false, fresh := 0, slotEn := d.flag (Fld.slcCtlSlotEn n) }
  let d := d.chuckCompare.ageVectors
  let d := (d.allotPort 0).allotPort 1
  -- position 1
  let late := allSlots.filter d.hasOverrun
  let acts := fun (n : Fin 16) (p : Nat) => d.overrunPolicy n == p && (d.members n).any fun m => decide (m ∈ late)
  let holds := allSlots.filter fun n => acts n 1
  let skips := allSlots.filter fun n => acts n 2
  let lead := d.leaders
  let d := d.forSlots allSlots fun n d => d.overrunCheck n
  let d := d.forSlots lead fun n d => d.trialJudge n
  let d := d.forSlots lead fun n d => d.idleJudge n
  -- position 2
  let d := (d.scribe.captures.filter fun c => c.stage == 1).foldl (fun d c =>
    d.captureStart c fun n => decide (n ∈ skips)) d
  -- position 3
  let (fails, d) := lead.foldl (fun x n =>
    let (f, e) := Device.revertGroup x.2 n
    ((if f then x.1 ++ [n] else x.1), e.swapGroup n)) (([] : List (Fin 16)), d)
  -- position 4
  let d := d.scribe.restores.foldl (fun d r => d.restoreRelease r d.nextTurn) d
  -- position 5
  let d := d.forSlots lead fun n d =>
    let force := decide (n ∈ holds) || decide (n ∈ fails) || (d.members n).any fun m => (d.slot m).flrHold
    let d := if force then d.forceHold n else d
    d.position5Request n
  let d := d.position5Resume
  let (wakeOn, d) := d.position5Unbind
  -- position 6
  let d := d.forSlots allSlots fun n d => d.boundary n (decide (n ∈ skips))
  -- position 7
  let d := d.powerPosition wakeOn
  -- position 8
  let d := d.position8
  let d := d.forSlots allSlots fun n d => d.openTurn n (decide (n ∈ skips))
  let d := d.endStarts.settleAll
  ({ d with turn := { d.turn with ticked := true, ringTurn := none } }).emit .turnOut

/-- An injection that lasts a time has ended (R984): what it made present is present no more. -/
def Device.injEnds (d : Device) : Device :=
  match d.safety.inj with
  | none => d
  | some (mech, n) =>
    let timed := mech = 2 ∨ mech = 3 ∨ mech = 6 ∨ mech = 7 ∨ mech = 9
    if !decide timed || decide (d.now < d.safety.injEnd) then d
    else
      let d := ({ d with safety := { d.safety with inj := none } }).setFlag Fld.safeStatusInjBusy false
      if mech = 2 then
        (d.modSlot (slotOf n) fun s => { s with clk := { s.clk with rangeErr := 0 } }).clkFault (slotOf n) false
      else if mech = 3 then
        let d := if n = 0 then d.setFlag Fld.turnStatusLost false else d
        d.setActive 3 (d.flag Fld.turnStatusLost)
      else if mech = 6 then
        let d := if bitOf d.power.out.toNat (16 + n) then d else d.setFldBit Fld.safeSupplyVccioIn n true
        d.setActive 7 d.ioOut
      else if mech = 7 then
        if n = 0 then (d.setActive 10 false).setFlag Fld.safeTempOver false else d
      else d.setFlag Fld.safeStatusRbLow (d.flag Fld.safeStatusDrive)

/-! ### Time (assumption log 10) -/

/-- `k` REFCLK periods pass: the epoch count and TURN_ELAPSED advance while REFCLK is present (R180, R310), and timed injections end. -/
def Device.passTime (d : Device) (k : Nat) : Device :=
  let d := ({ d with now := d.now + k }).injEnds
  if !d.refclk || d.por then d
  else
    let d := { d with epoch := d.epoch + k }
    if d.flag Fld.turnCtlRun && !d.turn.starting then d.wr Reg.turnElapsed (min 0xFFFFFFFF (d.rd Reg.turnElapsed + k)) else d

/-- Edge E0: the generator starts (R281). -/
def Device.turnE0 (d : Device) : Device :=
  let src := d.fld Fld.turnCtlSrc
  let d := (d.wr Reg.turnPeriodCur (d.rd Reg.turnPeriod)).setFld Fld.turnStatusSrcCur (if src = 3 then 0 else src)
  let d := ((d.wr Reg.turnElapsed 0).wr Reg.turnCountLo 0).wr Reg.turnCountHi 0
  { d with turn := { d.turn with ticked := false, starting := false } }

/-- A tick of a ring master from TURN_IN that falls more than 10 ns from its announcement, or that no marker announced, raises event
499 (R878, R896). -/
def Device.announcedTick (d : Device) : Device :=
  if !d.flag Fld.ringStatusMaster then d
  else
    let at_ := 80 * d.now
    let off := match d.ring.announced with
      | some a => decide (a + 80 < at_) || decide (at_ + 80 < a)
      | none => true
    let d := { d with ring := { d.ring with announced := none } }
    if off then d.raise 499 [(2, 4)] else d

/-- `k` REFCLK periods pass, with edge E0 after a write of RUN at the first edge (R281) and the tick of an accepted TURN_IN edge at its
instant (R285). -/
def Device.pass (d : Device) (k : Nat) : Device :=
  if k = 0 then d
  else if !d.refclk || d.por then d.passTime k
  else if d.turn.starting then ((d.passTime 1).turnE0).passTime (k - 1)
  else
    match d.turn.inEdge with
    | none => d.passTime k
    | some j =>
      if j ≤ k then (((d.passTime j).announcedTick).tick).passTime (k - j)
      else { d.passTime k with turn := { d.turn with inEdge := some (j - k) } }

/-- One REFCLK period passes with no command. -/
def Device.idle (d : Device) : Device := d.pass 1

/-- Time passes up to the REFCLK edge at or before an instant of the edge grid (R180); it stands still where the instant is past or REFCLK
is absent. -/
def Device.passTo (d : Device) (num den : Nat) : Device := if d.refclk then d.pass (num / den - d.epoch) else d

/-! ### Tick sources -/

/-- The tick of a TURN_IN edge that is on its way. -/
def Device.armedTick (d : Device) : Device :=
  match d.turn.inEdge with
  | some j => d.pass j
  | none => d

/-- A tick from the selected source (R280 to R282, R287, R309, R310): the internal source, and a ring master without one of its own (R877),
tick TURN_PERIOD_CUR periods after the last tick or E0, up to which time passes; TURN_IN where an edge is on its way; a ring follower with a
marker, at the edge that it placed (R881). -/
def Device.turnTick (d : Device) : Device :=
  if !d.flag Fld.turnCtlRun || !d.refclk then d
  else
    let d := if d.turn.starting then d.pass 1 else d
    let src := d.fld Fld.turnStatusSrcCur
    if src = 1 then d.armedTick
    else if src = 2 ∧ d.flag Fld.ringStatusMaster = false then
      (if d.turn.ringTurn.isNone then d else (d.pass (d.turn.ringEdge - d.now)).tick)
    else (d.pass (d.rd Reg.turnPeriodCur - d.rd Reg.turnElapsed)).tick

/-- A high sample of TURN_IN after a low one (R285, R286, R322): the tick instant is the second REFCLK edge after it, unless that lies less
than 1 µs after the previous tick. -/
def Device.turnInEdge (d : Device) : Device :=
  if !d.flag Fld.turnCtlRun || d.turn.starting || d.fld Fld.turnStatusSrcCur != 1 || !d.refclk then d
  else
    let d := d.armedTick
    if d.turn.ticked && decide (d.rd Reg.turnElapsed + 2 < 100) then (d.setFlag Fld.turnStatusEarly true).raise 504 []
    else { d with turn := { d.turn with inEdge := some 2 } }

/-- Tick loss is declared (R308, R309, R965). -/
def Device.tickLoss (d : Device) : Device :=
  if !d.flag Fld.turnCtlRun || d.turn.starting || d.flag Fld.turnStatusLost then d
  else
    let d := (d.setFlag Fld.turnStatusLost true).setFlag Fld.turnStatusLostSticky true
    (d.setActive 3 true).detectDevice 3 483 []

/-! ### Register writes of the TURN_ block -/

/-- RUN is set: the generator starts at the first REFCLK edge after the write (R281, R6). -/
def Device.turnStart (d : Device) : Device :=
  if d.flag Fld.turnCtlRun then d
  else { d.setFlag Fld.turnCtlRun true with turn := { d.turn with starting := true } }

/-- A write of TURN_CTL: ADOPT and SRC take the written value, RUN is set by a 1 (R281, R288). -/
def Device.turnCtlWrite (d : Device) (v : Nat) : Device :=
  let d := (d.setFld Fld.turnCtlSrc (bitsOf v 1 2)).setFld Fld.turnCtlAdopt (bitsOf v 3 1)
  if bitOf v 0 then d.turnStart else d

/-- A write of TURN_PERIOD (R283, R284). -/
def Device.turnPeriodWrite (d : Device) (v : Nat) : Device :=
  if v < 100 then (d.setFlag Fld.turnStatusPeriodRej true).raise 505 [] else d.wr Reg.turnPeriod v

/-- A read of TURN_COUNT_LO by a TCID latches TURN_COUNT_HI for its next read (R313). -/
def Device.turnLoRead (d : Device) (tcid : Nat) : Nat × Device :=
  let hi := d.rd Reg.turnCountHi
  (d.rd Reg.turnCountLo, { d with turn := { d.turn with
    hiLatch := Sparse.put d.turn.hiLatch tcid (BitVec.ofNat 32 hi) } })

/-- A read of TURN_COUNT_HI by a TCID: the latched value, used up by the read, else the live one (R313). -/
def Device.turnHiRead (d : Device) (tcid : Nat) : Nat × Device :=
  match d.turn.hiLatch.find? fun x => x.1 = tcid with
  | some x => (x.2.toNat, { d with turn := { d.turn with hiLatch := Sparse.erase d.turn.hiLatch tcid } })
  | none => (d.rd Reg.turnCountHi, d)

/-- A write of TURN_OVR_CLR (R1022 note of the table): each bit clears one count. -/
def Device.turnOvrClr (d : Device) (v : Nat) : Device :=
  d.forSlots (maskSlots v) fun n d => d.wr (Reg.turnOvrCount n) 0

end Sys2Proof.Machine
end

