-- ==== Sys2Proof/Machine/Act.lean ====
section
/-! DEFINITION. How a command acts on the machine: on the device alone, or on the event queues and the matrix as well. -/

namespace Sys2Proof.Machine

/-- Change the device. The outputs of the last command are gone. -/
def State.mapDev (s : State) (f : Device → Device) : State := { s with dev := f { s.dev with out := [] } }

/-- A command that acts on the device alone. -/
def act (s : State) (f : Device → Device) : Host.Outcome State Fault Refusal := .next (s.mapDev f)

/-- A command that needs the device out of power-on reset; a device in power-on reset stays as it is. -/
def actOn (s : State) (f : Device → Device) : Host.Outcome State Fault Refusal :=
  act s fun d => if d.por then d else f d

end Sys2Proof.Machine
end

