-- ==== Sys2Proof/Machine/BenchCmds.lean ====
section
/-! DEFINITION. Commands of Bench memory and its coherence directory (chapter 15), and the D-cache write-back of R730. -/

namespace Sys2Proof.Machine

/-- M3 holds the lock of T1, so that lane requests of the loader and the Scribe engine wait at the directory (R633). -/
def State.laneHeld (s : State) (agent : Nat) : Bool := agent != 2 && s.mtx.locks[1].holder == some 3

/-- The response to a lane request that has been served: GOOD with the line's data, or TGTERR (R606, R634). -/
def Device.laneAnswer (d : Device) (r : Option (BitVec 512)) : Device :=
  match r with
  | some v => d.emit (.resp 0 v.toNat)
  | none => d.emit (.resp 4 0)

/-- Lane requests of an agent that wait at the directory. -/
def Device.laneWaiting (d : Device) (agent : Nat) : Nat :=
  (d.bench.lines.filter fun x => x.pend.any fun r => r.src.val == agent).length

/-- A lane request of an agent reaches the directory (R613, R617, R620, R622, R633): served at once, or waiting; an agent with 8 outstanding sends none
(R616). Before Bench memory
is ready there is nothing to serve it, and the agent receives NOTREADY (R627). -/
def Device.laneRequest (d : Device) (held : Bool) (agent line : Nat) (op : LineOp) (long : Bool) : Device :=
  let q : LineReq := ⟨⟨agent % 4, Nat.mod_lt _ (by decide)⟩, d.now, op⟩
  if !d.flag Fld.devReadyBench then d.emit (.resp 3 0)
  else if decide (8 ≤ d.laneWaiting agent) then d
  else if held then
    let x := d.benchLine line
    if x.pend.any fun r => r.src = q.src then d else d.setBenchLine { x with pend := x.pend ++ [q] }
  else
    let r := d.benchRequest line q long
    match r.1 with
    | some v => r.2.laneAnswer v
    | none => r.2

/-- A lane command. -/
def laneCmd (s : State) (agent : Fin 3) (line : BitVec 17) (op : LineOp) (long : Bool) : Host.Outcome State Fault Refusal :=
  actOn s fun d => d.laneRequest (s.laneHeld agent.val) agent.val line.toNat op long

/-- GETS (R613, R617). -/
def execGetS (agent : Fin 3) (line : BitVec 17) (long : Bool) (s : State) : Host.Outcome State Fault Refusal :=
  laneCmd s agent line .getS long

/-- GETM (R613, R617). -/
def execGetM (agent : Fin 3) (line : BitVec 17) (long : Bool) (s : State) : Host.Outcome State Fault Refusal :=
  laneCmd s agent line .getM long

/-- WRLINE (R614, R634). -/
def execWrLine (agent : Fin 3) (line : BitVec 17) (enables : BitVec 64) (data : BitVec 512) (long : Bool) (s : State) :
    Host.Outcome State Fault Refusal := laneCmd s agent line (.wrLine enables data) long

/-- PUTM (R615, R617, R623). -/
def execPutM (agent : Fin 3) (line : BitVec 17) (data : BitVec 512) (long : Bool) (s : State) : Host.Outcome State Fault Refusal :=
  laneCmd s agent line (.putM data) long

/-- A line ceases to be busy, and the request that has waited longest and may be served is served (R622, R633). -/
def Device.serveLine (d : Device) (locked : Bool) (l : Nat) : Device :=
  let d := d.benchSetBusy l false
  let x := d.benchLine l
  match nextLineReq (x.pend.filter fun r => !locked || decide (2 ≤ r.src.val)) with
  | none => d
  | some q =>
    let d := d.setBenchLine { x with pend := x.pend.filter fun r => r.src != q.src }
    let r := d.benchServe l q.src q.op
    if q.src.val < 3 then r.2.laneAnswer r.1 else r.2

/-- PENDING_LINE_SERVICE (R620, R622). -/
def execPendingLineService (line : BitVec 17) (s : State) : Host.Outcome State Fault Refusal :=
  actOn s fun d => d.serveLine (s.mtx.locks[1].holder == some 3) line.toNat

/-- BENCH_PATROL (R608). -/
def execBenchPatrol (s : State) : Host.Outcome State Fault Refusal :=
  actOn s fun d => if d.flag Fld.devReadyBench then d.benchPatrol else d

/-- BANK_SLEEP (R610). -/
def execBankSleep (bank : Fin 8) (s : State) : Host.Outcome State Fault Refusal := actOn s fun d => d.benchSleep bank.val

/-- Bench zeroing has ended: every word is 0 with a valid check byte, every line is in I, and Bench memory is ready (R627). The clear
of a tamper response ends with that response. -/
def Device.benchZeroed (d : Device) : Device :=
  if d.flag Fld.benchStatusZeroing && d.fldBit Fld.pwrDomStatusOn 18 && !d.flag Fld.secStatusErasing then
    (((d.benchZero).setFlag Fld.benchStatusZeroing false).setFlag Fld.benchStatusReady true).setFlag Fld.devReadyBench true
  else d

/-- BENCH_ZEROING_DONE (R627). -/
def execBenchZeroingDone (s : State) : Host.Outcome State Fault Refusal := actOn s Device.benchZeroed

/-- A write-back of the D-cache line at Bench line `l`, with what the cache holds of it: a PutM where the cache holds it in M, and the
line is then dropped (R615, R730). -/
def Device.dcacheDrop (d : Device) (l : Nat) (data : BitVec 512) : Device :=
  if (d.benchLine l).owner = some 2 then (d.benchServe l 2 (.putM data)).2 else d

/-- DCLINE (R730): a write of a core address that maps to Bench memory; other lines are never in M. -/
def execDcline (addr : Word) (data : BitVec 512) (s : State) : Host.Outcome State Fault Refusal :=
  actOn s fun d => if inBench addr.toNat 1 then d.dcacheDrop ((addr.toNat - benchBase) / 64) data else d

/-- Every line that the D-cache holds in M is written back, in ascending order, with the given contents. -/
def Device.dcacheFlush (d : Device) (datas : List (BitVec 512)) : Device :=
  let ls := (d.bench.lines.filter fun x => x.owner == some 2).map (·.line)
  (ls.zip (datas ++ List.replicate ls.length 0)).foldl (fun d x => d.dcacheDrop x.1 x.2) d

/-- DCALL (R730). -/
def execDcall (datas : List (BitVec 512)) (s : State) : Host.Outcome State Fault Refusal := actOn s fun d => d.dcacheFlush datas

end Sys2Proof.Machine
end

