-- ==== Sys2Proof/Machine/HwdBase.lean ====
section
/-! DEFINITION. How firmware takes a command, checks it, meets the matrix, and answers (R728 to R732, R739 to R749). -/

namespace Sys2Proof.Machine

/-! ### Firmware and the matrix (R728, R731, R732) -/

/-- An access of master `m` of Heartwood ends with a response other than GOOD: HWD_BUSERR while it holds no record, and event
455 (R731). -/
def Device.busError (d : Device) (m addr code : Nat) : Device :=
  let d := if d.flag Fld.hwdBuserr1Valid then d
    else (d.wr Reg.hwdBuserr0 (addr % 2 ^ 32)).wr Reg.hwdBuserr1 (2 ^ 31 + code % 8 * 2 ^ 16 + m * 2 ^ 12 + addr / 2 ^ 32 % 256)
  d.raise 455 [(m, 4), (code, 8)]

/-- What firmware's access of a span yields: a response code of R564 (0 GOOD), the address that met it, and the data of a
read. -/
structure FwAccess where
  code : Nat
  addr : Nat
  data : List Byte
  deriving DecidableEq, Repr

/-- The 64-byte blocks of a span, each as its first address and its end (R560). -/
def spanBlocks (addr n : Nat) : List (Nat × Nat) :=
  if n = 0 then []
  else (List.range ((addr + n - 1) / 64 + 1 - addr / 64)).map fun i =>
    (max addr (64 * (addr / 64 + i)), min (addr + n) (64 * (addr / 64 + i) + 64))

/-- A Grain access of firmware, channel and offset. -/
def grainAt (a : Nat) : Nat × Nat := if a < 0x20100000 then (0, a - 0x20000000) else (1, a - 0x20100000)

/-- Firmware reads one block, as M3 (R38, R563): an address in no range or in a hole is a decode error (R36), a target without a path is
denied, one that is not ready answers NOTREADY, and registers and planes serve no block. -/
def Device.fwReadBlock (d : Device) (addr n : Nat) : FwAccess × Device :=
  let (hit, d) := d.takeInjection 3
  let r : Nat × List Byte × Device :=
    if hit then (6, [], d.integrityError 3 ((targetOf addr).getD 1)) else
    match d.decode addr with
    | none => (1, [], d.decodeError 3 0x3E addr false)
    | some t =>
      if !d.hasPath 3 t false then (2, [], d.deny 3 0x3E t addr false 0)
      else if !d.targetReady t addr then (3, [], d)
      else
        let r :=
          if t = 0 then d.resRead addr n
          else if t = 1 then d.benchRead (addr - benchBase) n
          else if t = 2 then d.grainRead (grainAt addr).1 (grainAt addr).2 n
          else if t = 7 then (some (d.bytes addr n), d)
          else (none, d)
        match r with
        | (some b, d) => (0, b, d)
        | (none, d) => (4, [], d)
  (⟨r.1, addr, r.2.1⟩, if r.1 = 0 then r.2.2 else r.2.2.busError 3 addr r.1)

/-- Firmware reads a span, block by block, up to the first response other than GOOD. -/
def Device.fwRead (d : Device) (addr n : Nat) : FwAccess × Device :=
  (spanBlocks addr n).foldl (fun r b =>
    if r.1.code ≠ 0 then r
    else
      let (x, d) := r.2.fwReadBlock b.1 (b.2 - b.1)
      (⟨x.code, x.addr, r.1.data ++ x.data⟩, d)) (⟨0, addr, []⟩, d)

/-- Firmware writes one block, as M3: judged as a read is. -/
def Device.fwWriteBlock (d : Device) (addr : Nat) (data : List Byte) : Nat × Device :=
  let (hit, d) := d.takeInjection 3
  if hit then (6, d.integrityError 3 ((targetOf addr).getD 1))
  else
    match d.decode addr with
    | none => (1, d.decodeError 3 0x3E addr true)
    | some t =>
      if !d.hasPath 3 t true then (2, d.deny 3 0x3E t addr true 0)
      else if !d.targetReady t addr then (3, d)
      else
        let en := data.map fun _ => true
        let r :=
          if t = 0 then d.resWrite false 0x3E addr en data
          else if t = 1 then d.benchWriteBy 3 (addr - benchBase) en data
          else if t = 2 ∧ !((grainAt addr).1 = 0 ∧ d.grain.store.isSome) then d.grainWrite (grainAt addr).1 (grainAt addr).2 en data
          else (false, d)
        (if r.1 then 0 else 4, r.2)

/-- Firmware writes a span, block by block, up to the first response other than GOOD. -/
def Device.fwWrite (d : Device) (addr : Nat) (data : List Byte) : FwAccess × Device :=
  (spanBlocks addr data.length).foldl (fun r b =>
    if r.1.code ≠ 0 then r
    else
      let (c, d) := r.2.fwWriteBlock b.1 ((data.drop (b.1 - addr)).take (b.2 - b.1))
      (⟨c, b.1, []⟩, if c = 0 then d else d.busError 3 b.1 c)) (⟨0, addr, []⟩, d)

/-- Complete a command that met a response to which no chapter gives a code (R732). -/
def Device.completeBus (d : Device) (cid : Nat) (a : FwAccess) : Device :=
  if a.code = 3 then d.complete cid 0x87 []
  else d.complete cid 0x86 (leBytes 4 a.code ++ leBytes 5 a.addr)

/-- Complete a command with OK, or with the bus error that its last access met. -/
def Device.completeAfter (d : Device) (cid : Nat) (a : FwAccess) (result : List Byte) : Device :=
  if a.code ≠ 0 then d.completeBus cid a else d.complete cid 0 result

/-- Write a command's output into its DEST buffer and complete it with OUT_LEN (R746). -/
def Device.completeDest (d : Device) (cid dest : Nat) (out : List Byte) : Device :=
  let (a, d) := d.fwWrite dest out
  d.completeAfter cid a (leBytes 4 out.length)

/-! ### The command set: groups, fields, functions (R743, R746) -/

/-- The HWD_Qq_PERM bit of an opcode, none where the opcode is not listed; ABORT needs none and has 9. -/
def opGroup (op : Nat) : Option Nat :=
  if op = 0x01 ∨ op = 0x02 then some 0
  else if 0x10 ≤ op ∧ op ≤ 0x18 then some 1
  else if op = 0x20 ∨ op = 0x21 then some 2
  else if 0x30 ≤ op ∧ op ≤ 0x32 then some 3
  else if 0x40 ≤ op ∧ op ≤ 0x43 then some 4
  else if 0x50 ≤ op ∧ op ≤ 0x52 then some 5
  else if 0x60 ≤ op ∧ op ≤ 0x62 then some 6
  else if op = 0x70 then some 7
  else if op = 0x71 then some 8
  else if op = 0x7F then some 9
  else none

/-- A named field of a descriptor: offset, size, and the code that its value fails with, 0 where it is listed. -/
structure FieldRule where
  off  : Nat
  size : Nat
  code : Nat
  deriving DecidableEq, Repr

/-- BAD_FIELD unless `ok`. -/
def badUnless (ok : Bool) : Nat := if ok then 0 else 0x81

/-- A buffer lies wholly in Bench memory; an empty one lies anywhere. -/
def bufferOk (addr len : Nat) : Bool := len == 0 || inBench addr len

/-- The buffer set: SUBOP up to `subs`, source and destination (R746). -/
def bufferSet (c : HwdCmd) (subs : Nat) : List FieldRule :=
  [⟨0x08, 1, badUnless (decide (1 ≤ c.f 0x08 1) && decide (c.f 0x08 1 ≤ subs))⟩,
   ⟨0x10, 8, badUnless (bufferOk (c.f 0x10 8) (c.f 0x18 4))⟩, ⟨0x18, 4, 0⟩,
   ⟨0x20, 8, badUnless (bufferOk (c.f 0x20 8) (c.f 0x28 4))⟩, ⟨0x28, 4, 0⟩]

/-- The SLOT field at offset `o`. -/
def slotField (c : HwdCmd) (o : Nat) : FieldRule := ⟨o, 1, badUnless (decide (c.f o 1 ≤ 15))⟩

/-- The fields of a resident store range with its Bench buffer. -/
def rangeFields (c : HwdCmd) : List FieldRule :=
  [⟨0x08, 4, badUnless (decide (c.f 0x08 4 + c.f 0x18 4 ≤ 0x2000000))⟩,
   ⟨0x10, 8, badUnless (bufferOk (c.f 0x10 8) (c.f 0x18 4))⟩, ⟨0x18, 4, 0⟩]

/-- The SLOT_MASK of a SLOT_LOAD names a slot, and one alone for RESEED and READBACK. -/
def loadMaskOk (op mask : Nat) : Bool :=
  let n := ((List.range 16).filter fun i => bitOf mask i).length
  if op = 1 then n != 0 else n == 1

/-- The named fields of a command in ascending offset, each with its judgement (R743 step 3, R746). -/
def cmdFields (c : HwdCmd) : List FieldRule :=
  match c.op with
  | 0x10 =>
    [slotField c 0x08, ⟨0x09, 1, badUnless (c.queue != 2 || decide (c.f 0x09 1 ≤ 1))⟩,
     ⟨0x0A, 1, badUnless (decide (c.f 0x0A 1 ≤ 16) && !(c.queue == 2 && c.f 0x0A 1 == 0))⟩]
  | 0x11 | 0x15 | 0x18 => [slotField c 0x08]
  | 0x12 =>
    [⟨0x08, 1, badUnless (decide (1 ≤ c.f 0x08 1) && decide (c.f 0x08 1 ≤ 3))⟩, ⟨0x09, 1, badUnless (decide (c.f 0x09 1 ≤ 1))⟩,
     ⟨0x0A, 2, badUnless (loadMaskOk (c.f 0x08 1) (c.f 0x0A 2))⟩, ⟨0x0C, 1, badUnless (decide (c.f 0x0C 1 ≤ 1))⟩,
     ⟨0x10, 8, badUnless (c.f 0x08 1 != 1 || targetOf (c.f 0x10 8) == some (if c.f 0x09 1 = 1 then 0 else 1))⟩,
     ⟨0x18, 4, 0⟩, ⟨0x20, 8, 0⟩]
  | 0x13 =>
    [⟨0x08, 2, 0⟩, ⟨0x0A, 1, if c.f 0x0A 1 ≤ 1 then 0 else if c.f 0x0A 1 ≤ 3 then 0x33 else 0x81⟩,
     ⟨0x0B, 1, badUnless (decide (c.f 0x0B 1 ≤ 1))⟩, ⟨0x0C, 1, 0⟩]
  | 0x14 => [slotField c 0x08, ⟨0x09, 1, badUnless (decide (c.f 0x09 1 ≤ 2))⟩]
  | 0x16 => [slotField c 0x08, ⟨0x09, 1, if c.f 0x09 1 ≤ 2 then 0 else 0xC0⟩]
  | 0x17 => [⟨0x08, 1, badUnless (decide (1 ≤ c.f 0x08 1) && decide (c.f 0x08 1 ≤ 3))⟩, slotField c 0x09]
  | 0x20 => [⟨0x08, 2, 0⟩, ⟨0x0A, 1, badUnless (decide (c.f 0x0A 1 ≤ 3))⟩, ⟨0x10, 8, 0⟩, ⟨0x18, 4, 0⟩]
  | 0x21 => [⟨0x08, 2, 0⟩, ⟨0x10, 8, badUnless (bufferOk (c.f 0x10 8) (c.f 0x18 4))⟩, ⟨0x18, 4, 0⟩, ⟨0x20, 8, 0⟩]
  | 0x30 | 0x32 => rangeFields c
  | 0x31 => [⟨0x08, 2, 0⟩, ⟨0x0A, 2, 0⟩]
  | 0x40 =>
    [⟨0x08, 2, badUnless (c.f 0x08 2 != 0 && c.f 0x08 2 != 0xFFFF)⟩, ⟨0x0A, 1, if c.f 0x0A 1 ≤ 52 then 0 else 0x62⟩, ⟨0x0C, 52, 0⟩]
  | 0x41 =>
    [⟨0x08, 2, badUnless (c.f 0x08 2 != 0 && c.f 0x08 2 != 0xFFFF)⟩, ⟨0x10, 8, badUnless (inBench (c.f 0x10 8) 1)⟩]
  | 0x50 => bufferSet c 4
  | 0x51 | 0x52 => bufferSet c 3
  | 0x60 =>
    let set_ := c.f 0x08 1
    [⟨0x08, 1, badUnless (decide (set_ ≤ 15))⟩, ⟨0x09, 1, badUnless (!bitOf set_ 1 || decide (c.f 0x09 1 ≤ 3))⟩,
     ⟨0x0A, 1, badUnless (!bitOf set_ 2 || decide (c.f 0x0A 1 ≤ 1))⟩, ⟨0x0C, 4, badUnless (!bitOf set_ 0 || decide (100 ≤ c.f 0x0C 4))⟩]
  | 0x61 => bufferSet c 2
  | 0x62 => bufferSet c 1
  | 0x70 =>
    [⟨0x08, 1, badUnless (c.f 0x08 1 == 1)⟩, ⟨0x10, 8, 0⟩, ⟨0x18, 4, badUnless (c.f 0x18 4 == 0)⟩, ⟨0x20, 8, 0⟩,
     ⟨0x28, 4, badUnless (c.f 0x28 4 == 0)⟩]
  | 0x71 => [⟨0x10, 8, badUnless (bufferOk (c.f 0x10 8) (c.f 0x18 4))⟩, ⟨0x18, 4, 0⟩]
  | 0x7F => [⟨0x08, 4, 0⟩, ⟨0x0C, 1, badUnless (decide (c.f 0x0C 1 ≤ 2) || c.f 0x0C 1 == 0xFF)⟩]
  | _ => []

/-- Step 3 of R743: fields and reserved bytes in ascending offset, the first that fails setting the code. -/
def fieldCode (c : HwdCmd) : Nat :=
  let fs := cmdFields c
  let at_ := fun (o : Nat) =>
    if o = 0 ∨ (4 ≤ o ∧ o < 8) then 0
    else if o = 1 then badUnless (decide (c.f 1 1 ≤ 1))
    else match fs.find? fun r => r.off = o with
      | some r => r.code
      | none => if fs.any fun r => decide (r.off < o) && decide (o < r.off + r.size) then 0 else badUnless (c.f o 1 == 0)
  ((List.range 64).find? fun o => at_ o ≠ 0).elim 0 at_

/-- The functions a command needs (R743 step 4): 1 Grain channel D, 2 channel S, 3 resident store, 4 Bench memory, 5 key store,
10 ring, by the bits of DEV_READY. -/
def cmdNeeds (c : HwdCmd) : List Nat :=
  match c.op with
  | 0x10 | 0x17 => [1]
  | 0x12 => if c.f 0x08 1 = 1 ∧ c.f 0x09 1 = 1 then [3, 4] else [4]
  | 0x20 | 0x21 => [4]
  | 0x30 | 0x32 => [3, 4]
  | 0x31 => [3]
  | 0x40 | 0x43 => [1]
  | 0x41 => [1, 4]
  | 0x42 => [2]
  | 0x50 | 0x51 | 0x52 => [4, 5]
  | 0x61 => if c.f 0x08 1 = 1 then [1, 4, 10] else [10]
  | 0x62 => [4, 10]
  | 0x70 => [2]
  | 0x71 => [1, 3, 4]
  | _ => []

/-- The domain that holds a function ("Power domains" table); AON functions have none. -/
def needDomain (f : Nat) : Option Nat :=
  if f = 1 ∨ f = 2 then some 19 else if f = 3 then some 20 else if f = 4 then some 18 else if f = 10 then some 21 else none

/-- Step 4 of R743: 0xC4 where a domain is off (R927), 0x87 where a function is not ready. -/
def Device.needCode (d : Device) (c : HwdCmd) : Nat :=
  let off := fun f => match needDomain f with | some k => !d.fldBit Fld.pwrDomStatusOn k | none => false
  let unready := fun f => if f = 10 then false else !bitOf (d.rd Reg.devReady) f
  if (cmdNeeds c).any off then 0xC4 else if (cmdNeeds c).any unready then 0x87 else 0

/-- Steps 1 to 4 of R743 for a command just taken; while a HIBERNATE is in progress every command ends with 0xC2 (R910). -/
def Device.takeCode (d : Device) (c : HwdCmd) : Nat :=
  if d.power.hib.isSome then 0xC2
  else match opGroup c.op with
    | none => 0x80
    | some g =>
      if g ≠ 9 ∧ !bitOf (d.fld (Fld.hwdQPermGroups c.queue.val)) g then 0x82
      else if fieldCode c ≠ 0 then fieldCode c
      else d.needCode c

/-! ### Taking (R741, R742, R758) -/

/-- Bench offset of entry `i` of a submission ring. -/
def Device.sqAddr (d : Device) (q i : Nat) : Nat := d.fld (Fld.hwdQSqBaseBase q) * 4096 + 64 * i

/-- The descriptor at ring index `i` as it reads, without the effects of a read. -/
def Device.sqPeek (d : Device) (q i : Nat) : Option (List Byte) :=
  if d.flag Fld.devReadyBench then (d.benchRead (d.sqAddr q i) 64).1 else none

/-- Room for one more completion of queue `q` (R742). -/
def Device.cqRoom (d : Device) (q : Nat) : Bool := decide (d.fld (Fld.hwdQCqStatusDepth q) + d.inProgress q < 64)

/-- Firmware takes from queue `q` now: its head is there, its completion has room, and FENCE does not hold it. -/
def Device.takeable (d : Device) (q : Nat) : Bool :=
  d.fld (Fld.hwdQSqStatusDepth q) != 0 && d.cqRoom q &&
    (d.inProgress q == 0 || (match d.sqPeek q (d.fld (Fld.hwdQSqStatusHead q)) with | some b => leAt b 1 1 % 2 == 0 | none => true))

/-- Entries that an ABORT ended before their take are popped and do nothing (R749). -/
def Device.dropSkips (d : Device) (q : Nat) : Device :=
  iter 64 (fun _ d =>
    let h := d.fld (Fld.hwdQSqStatusHead q)
    if d.fld (Fld.hwdQSqStatusDepth q) != 0 && decide ((q, h) ∈ d.hwd.skips) then
      { d.sqPop q with hwd := { d.hwd with skips := d.hwd.skips.filter fun x => x != (q, h) } }
    else d) d

/-- Take the head of queue `q`: the whole descriptor is copied, then popped (R741); a descriptor that cannot be read ends as R758
says. -/
def Device.takeFrom (d : Device) (q : Fin 3) : Device :=
  let (a, d) := d.fwRead (benchBase + d.sqAddr q (d.fld (Fld.hwdQSqStatusHead q))) 64
  let d := d.sqPop q
  let d := { d with hwd := { d.hwd with rr := q } }
  if a.code ≠ 0 then d.postCompletion q 0xFFFFFFFF 0 0x86 d.now (leBytes 4 a.code ++ leBytes 5 a.addr)
  else
    let c : HwdCmd := ⟨d.hwd.nextCid, q, a.data, d.now, 0, 0, 0, false⟩
    let d := { d with hwd := { d.hwd with nextCid := d.hwd.nextCid + 1, cmds := d.hwd.cmds ++ [c] } }
    if d.takeCode c = 0 then d else d.complete c.cid (d.takeCode c) []

/-- Firmware takes the next command in round-robin order (R742). -/
def Device.takeNext (d : Device) : Device :=
  if !d.fwRuns then d
  else
    let d := ((d.dropSkips 0).dropSkips 1).dropSkips 2
    let order : List (Fin 3) := if d.hwd.rr = 0 then [1, 2, 0] else if d.hwd.rr = 1 then [2, 0, 1] else [0, 1, 2]
    match order.find? fun (q : Fin 3) => d.takeable q.val with
    | some q => d.takeFrom q
    | none => d

/-- COMMAND_TAKE. -/
def execCommandTake (s : State) : Host.Outcome State Fault Refusal := actOn s Device.takeNext

/-- A submission doorbell: HWD_QQ_PUSH (R740). -/
def execHwdQPush (q : Fin 3) (s : State) : Host.Outcome State Fault Refusal := actOn s fun d => d.sqPush q

/-- A completion doorbell: HWD_QQ_CPOP (R741). -/
def execHwdQCpop (q : Fin 3) (s : State) : Host.Outcome State Fault Refusal := actOn s fun d => d.cqPop q

/-! ### The rows of the command set -/

/-- A command in progress is executed: firmware runs, and the command `cid` has opcode `op`, satisfies `sub`, and has not begun. -/
def hwdRow (cid op : Nat) (sub : HwdCmd → Bool) (f : HwdCmd → Device → Device) (s : State) : Host.Outcome State Fault Refusal :=
  actOn s fun d =>
    match d.cmd cid with
    | some c => if d.fwRuns && c.op == op && c.stage == 0 && sub c then f c d else d
    | none => d

/-- A command goes on beyond its first step. -/
def Device.stageCmd (d : Device) (cid stage : Nat) : Device := d.modCmd cid fun c => { c with stage := stage }

/-- The outcome of a request: a code other than 0 completes the command, 0 leaves it in progress. -/
def Device.settle (d : Device) (cid code : Nat) : Device := if code = 0 then d.stageCmd cid 1 else d.complete cid code []

end Sys2Proof.Machine
end

