-- ==== Sys2Proof/Machine/LoaderCmds.lean ====
section
/-! DEFINITION. Commands of the loader, swaps, scrub and sweep (chapters 10, 11, 12), and what a change of a stored clock
configuration does (R1029). -/

namespace Sys2Proof.Machine

/-! ### Changes of stored configuration -/

/-- CK_EN, CK_N and CK_M of output `i` of a plane as stored. -/
def Device.ckFields (d : Device) (n : Fin 16) (p i : Nat) : Nat × Nat × Nat :=
  (bitsOf (d.clkEn n p) i 1, d.ckN n p i, d.ckM n p i)

/-- After a stored bit of an ON slot's active plane has changed from what it was in `old`, every synthesiser whose CK_EN, CK_N or CK_M
changed retunes and loses lock; RANGE_ERR shows an output watched by the monitor that stays at 0 (R178, R1029). -/
def Device.clkRetune (d old : Device) (n : Fin 16) : Device :=
  let p := d.act n
  let chg := (List.range 4).map fun i => d.ckFields n p i != old.ckFields n p i
  if chg.all (!·) || (d.slot n).power != .on then d
  else
    let keep := ofBits (chg.map (!·))
    let bad := ofBits ((List.range 4).map fun i =>
      (bitOf (d.slot n).clk.monitored.toNat i || bitOf (d.clkEn n p) i) && (bitOf (d.clkEn n p) i == false || !d.ckOk n p i))
    d.modSlot n fun s =>
      let c : ClockUnit := { s.clk with rangeErr := BitVec.ofNat 4 (Nat.lor s.clk.rangeErr.toNat bad) }
      let c : ClockUnit :=
        if s.active then { c with lockB := BitVec.ofNat 4 (Nat.land c.lockB.toNat keep) }
        else { c with lockA := BitVec.ofNat 4 (Nat.land c.lockA.toNat keep) }
      { s with clk := c }

/-- An upset flips one stored bit of a present frame of a plane: a data bit (frame bytes 0 to 63) or a check bit (64 to 71);
other plane offsets hold no storage (R370, R376, R379, R404, R407). -/
def Device.upset (d : Device) (n : Fin 16) (p offset bit : Nat) : Device :=
  match frameOfOffset offset with
  | none => d
  | some (_, _, _, k) =>
    if 72 ≤ k then d
    else
      let a := planeBase n.val p + offset
      (d.setByte a (BitVec.ofNat 8 (withBit (d.byte a).toNat bit (!bitOf (d.byte a).toNat bit)))).clkRetune d n

/-- A change of a slot's stored configuration: edges before it found the bits before it (R370), a block memory whose configuration is good
again starts with its read outputs at 0 (R1024), and the fabric settles under the new bits. A readback has read some frames (R437). -/
def Device.changeCfg (d : Device) (n : Fin 16) (f : Device → Device) : Device :=
  let d := d.flushEdges.readAhead
  let e := f d
  let e := iter 16 (fun b e =>
    if !d.bmActive n (slotOf b) && e.bmActive n (slotOf b) then
      e.setBmCtl n b { e.bmCtl n b with a1 := 0, a2 := 0, b1 := 0, b2 := 0 }
    else e) e
  e.settleAll

/-- CONFIG_UPSET (R379, R405, R407, R1029). A plane of a slot in power state OFF or SWEEPING holds no configuration that matters,
and its bit changes all the same. -/
def execConfigUpset (slot : Fin 16) (plane : Bool) (offset : BitVec 22) (bit : Fin 8) (s : State) :
    Host.Outcome State Fault Refusal := actOn s fun d => d.changeCfg slot fun d => d.upset slot (natOf plane) offset.toNat bit.val

/-! ### Loader -/

/-- LDR_JQ_PUSH (R410): a write pushes the job at the ring's tail. -/
def execLdrJqPush (s : State) : Host.Outcome State Fault Refusal := actOn s Device.jqPush

/-- LOADER_JOB_TAKE (R410 to R413, R435, R1028). -/
def execLoaderJobTake (s : State) : Host.Outcome State Fault Refusal := actOn s Device.takeJob

/-- LOAD_DONE (R413 steps 6 and 7). -/
def execLoadDone (locked : Bool) (s : State) : Host.Outcome State Fault Refusal := actOn s fun d => d.loadDone locked

/-- LOADER_JOB_END (R417, R435). -/
def execLoaderJobEnd (s : State) : Host.Outcome State Fault Refusal := actOn s Device.jobCopyEnd

/-- A write of LDR_SWAP_REQ without CANCEL: SLOT, MODE, STATE and TRIAL_TURNS (R419). -/
def Device.swapRequest (d : Device) (v : Nat) : Device :=
  (d.swapArm (slotOf (bitsOf v 0 4)) (bitsOf v 4 2) (bitOf v 6) (bitsOf v 8 8) none).2

/-- A write of LDR_SWAP_REQ with CANCEL (R457): the SLOT_SWAP that armed the swap completes with 0x85. -/
def Device.swapCancelled (d : Device) (n : Fin 16) : Device :=
  let r := d.swapCancel n
  r.2.completeOpt r.1 0x85 []

/-- A write of LDR_SWAP_REQ (R419, R457). -/
def Device.swapReqWrite (d : Device) (v : Nat) : Device :=
  if bitOf v 7 then d.swapCancelled (slotOf (bitsOf v 0 4)) else d.swapRequest v

/-- LDR_SWAP_REQ (R419). -/
def execLdrSwapReq (data : Word) (s : State) : Host.Outcome State Fault Refusal := actOn s fun d => d.swapReqWrite data.toNat

/-- SWAP_CANCEL (R457). -/
def execSwapCancel (slot : Fin 16) (s : State) : Host.Outcome State Fault Refusal := actOn s fun d => d.swapCancelled slot

/-- FIRST_ACTIVATION_COPY_END (R429). -/
def execFirstActivationCopyEnd (slot : Fin 16) (s : State) : Host.Outcome State Fault Refusal :=
  actOn s fun d => d.firstCopyEnd slot

/-- SCRUB_WORD_DECODE (R439 to R446): a corrected or repaired clock field retunes its synthesiser (R1029). -/
def execScrubWordDecode (slot : Fin 16) (s : State) : Host.Outcome State Fault Refusal :=
  actOn s fun d => d.changeCfg slot fun d => (d.scrubNext slot).clkRetune d slot

/-- SWEEP_COMPLETE (R471, R472): what was swept ends zeroed; `bad` says that the verification read found a bit at 1. -/
def execSweepComplete (slot : Fin 16) (bad : Bool) (s : State) : Host.Outcome State Fault Refusal :=
  actOn s fun d => d.sweepDone slot bad

end Sys2Proof.Machine
end

