-- ==== Sys2Proof/Machine/SafetyCmds.lean ====
section
/-! DEFINITION. Commands of the safety plane (chapter 25), of the temperature sensor and REFCLK (chapter 03), and of the tamper
detector (chapter 19). -/

namespace Sys2Proof.Machine

/-! ### Slot clocks (R967, R1029, R104, R185, R906) -/

/-- Outputs that the clock monitor watches: those enabled when the active plane became active, and those enabled now (R178, R1029). -/
def Device.watched (d : Device) (n : Fin 16) : BitVec 4 := (d.slot n).clk.monitored ||| BitVec.ofNat 4 (d.clkEn n (d.act n))

/-- The clock monitor of slot `n` finds the named outputs unlocked or out of range: those it watches are a clock fault. An output
whose synthesiser is locked shows in RANGE_ERR. -/
def Device.slotClockFault (d : Device) (n : Fin 16) (outputs : Nat) : Device :=
  let s := d.slot n
  let bad := Nat.land outputs (d.watched n).toNat
  if s.power ≠ .on ∨ bad = 0 then d
  else
    let far := Nat.lor s.clk.rangeErr.toNat (Nat.land bad (if s.active then s.clk.lockB else s.clk.lockA).toNat)
    let d := d.modSlot n fun s => { s with clk := { s.clk with rangeErr := BitVec.ofNat 4 far } }
    (d.clkFault n true).detectSlot 2 482 [(n, 4), (bad, 16)] n faultClock

/-- SLOT_CLOCK_FAULT. -/
def execSlotClockFault (slot : Fin 16) (outputs : BitVec 4) (s : State) : Host.Outcome State Fault Refusal :=
  actOn s fun d => d.slotClockFault slot outputs.toNat

/-- REFCLK stops: every synthesiser loses lock, and every monitored slot has a clock fault (R104, R185, R988). -/
def Device.refclkLoss (d : Device) : Device :=
  let d := { d with refclk := false }
  d.forSlots allSlots fun n d =>
    let d := d.modSlot n fun s => { s with clk := { s.clk with lockA := 0, lockB := 0 } }
    d.slotClockFault n 15

/-- REFCLK_LOSS. -/
def execRefclkLoss (s : State) : Host.Outcome State Fault Refusal := actOn s Device.refclkLoss

/-- REFCLK_RETURN: the grids continue from the epoch count at which REFCLK stopped (R180, R185, R310). -/
def execRefclkReturn (s : State) : Host.Outcome State Fault Refusal := actOn s fun d => { d with refclk := true }

/-- Outputs of a plane whose synthesiser can lock. -/
def Device.lockable (d : Device) (n : Fin 16) (p : Nat) : BitVec 4 :=
  BitVec.ofNat 4 (ofBits ((List.range 4).map fun i => bitOf (d.clkEn n p) i && d.ckOk n p i))

/-- The synthesisers of both planes of an ON slot have locked (R184, R185, R906); a watched output that is disabled or whose ratio
lies out of range stays a clock fault (R178, R1029). -/
def Device.relockDone (d : Device) (n : Fin 16) : Device :=
  if (d.slot n).power ≠ .on ∨ d.refclk = false then d
  else
    let a := d.lockable n 0
    let b := d.lockable n 1
    let ok := if (d.slot n).active then b else a
    let bad := d.watched n &&& ~~~ok
    let d := d.modSlot n fun s => { s with clk := { s.clk with lockA := a, lockB := b, rangeErr := bad } }
    if bad = 0 then d.clkFault n false else d

/-- SYNTH_RELOCK_DONE. -/
def execSynthRelockDone (slot : Fin 16) (s : State) : Host.Outcome State Fault Refusal := actOn s fun d => d.relockDone slot

/-! ### Temperature (R108, R965, R968) -/

/-- OVER_TEMPERATURE: a reading in units of 0.25 °C; 105 °C or more is the dangerous failure. -/
def Device.overTemp (d : Device) (r : Int) : Device :=
  let d := d.setFld Fld.safeTempReading (r % 65536).toNat
  if r < 420 then d
  else ((d.setFlag Fld.safeTempOver true).setActive 10 true).detectDevice 10 487 []

/-- OVER_TEMPERATURE. -/
def execOverTemperature (reading : BitVec 16) (s : State) : Host.Outcome State Fault Refusal :=
  actOn s fun d => d.overTemp reading.toInt

/-- A reading below 100 °C ends the TEMP cause. -/
def Device.tempRecovered (d : Device) (r : Int) : Device :=
  let d := d.setFld Fld.safeTempReading (r % 65536).toNat
  if r < 400 then (d.setFlag Fld.safeTempOver false).setActive 10 false else d

/-- TEMPERATURE_RECOVERED. -/
def execTemperatureRecovered (reading : BitVec 16) (s : State) : Host.Outcome State Fault Refusal :=
  actOn s fun d => d.tempRecovered reading.toInt

/-! ### Lockstep (R727, R974) -/

/-- A core mismatch: the device safe state, and a warm reset of cause 7 is called for. -/
def Device.lockstep (d : Device) : Device :=
  let d := (d.setActive 4 true).detectDevice 4 484 []
  { d with power := { d.power with causes := d.power.causes ||| 4 } }

/-- LOCKSTEP_MISMATCH. -/
def execLockstepMismatch (s : State) : Host.Outcome State Fault Refusal := actOn s Device.lockstep

/-! ### Self-test (R972, R974) -/

/-- SELFTEST: the test of every group starts, once after each POR release. -/
def execSelftest (s : State) : Host.Outcome State Fault Refusal :=
  actOn s fun d => if d.flag Fld.safeStatusSelftestDone then d else { d with safety := { d.safety with test := 1 } }

/-- A group fails its test: event 490 with the group, and SELFTEST is activated (R965, R972). -/
def Device.testFail (d : Device) (g : Nat) : Device := (d.setActive 14 true).detectDevice 14 490 [(g, 16)]

/-- The self-test in progress ends; bit g of `pass` says that group g passed. -/
def Device.testDone (d : Device) (pass : Nat) : Device :=
  let t := d.safety.test
  let d := { d with safety := { d.safety with test := 0 } }
  if t = 1 then
    let d := (d.setFlag Fld.safeStatusSelftestDone true).setFld Fld.safeSelftestPass pass
    iter 8 (fun g d => if bitOf pass g then d else d.testFail g) d
  else if t = 2 then
    let d := d.setFldBit Fld.safeSelftestPass 3 (bitOf pass 3)
    if bitOf pass 3 then d.setActive 4 false else d.testFail 3
  else d

/-- SELFTEST_DONE. -/
def execSelftestDone (pass : BitVec 8) (s : State) : Host.Outcome State Fault Refusal := actOn s fun d => d.testDone pass.toNat

/-! ### SAFE_N (R969 to R971) -/

/-- SAFE_N_RELEASE: SAFE_N goes high where no condition of R969 holds. -/
def execSafeNRelease (s : State) : Host.Outcome State Fault Refusal :=
  actOn s fun d =>
    if d.safeDrive then d else (d.setFlag Fld.safeStatusDrive false).setFlag Fld.safeStatusRbLow false

/-- The ball reads high for 2 µs while the device drives it low. -/
def Device.safeReadback (d : Device) : Device :=
  if d.flag Fld.safeStatusDrive then (d.setFlag Fld.safeStatusRbLow false).signal 15 491 [] else d

/-- SAFE_N_READBACK. -/
def execSafeNReadback (s : State) : Host.Outcome State Fault Refusal := actOn s Device.safeReadback

/-- A write of SAFE_CTL.RELEASE (R970). -/
def Device.safeRelease (d : Device) (tcid : Nat) : Device :=
  if tcid = 0x3E ∧ d.flag Fld.safeStatusSelftestDone ∧ !d.fldBit Fld.safeActiveActive 14 ∧ !d.fldBit Fld.safeActiveActive 12 then
    d.setFlag Fld.safeStatusArmed true
  else d

/-- SAFE_RELEASE. -/
def execSafeRelease (tcid : Fin 64) (s : State) : Host.Outcome State Fault Refusal := actOn s fun d => d.safeRelease tcid.val

/-- The causes whose presence refuses DSS_CLEAR (R975). -/
def Device.dssBlockers (d : Device) : List Nat :=
  (([3, 4, 6, 10, 12, 14, 16] ++ if d.fld Fld.safeCtlRingAct = 1 then [13] else []).filter fun c => d.fldBit Fld.safeActiveActive c)

/-- A write of SAFE_CTL.DSS_CLEAR (R975, R786): whether it was accepted. -/
def Device.dssClear (d : Device) (tcid : Nat) : Bool × Device :=
  if tcid ≠ 0x3E then (false, d)
  else if d.flag Fld.safeStatusDss && d.dssBlockers.isEmpty then
    (true, (d.setFlag Fld.safeStatusDss false).wr Reg.safeDss 0)
  else (false, d.setFlag Fld.safeStatusClearRej true)

/-- DSS_CLEAR. -/
def execDssClear (tcid : Fin 64) (s : State) : Host.Outcome State Fault Refusal := actOn s fun d => (d.dssClear tcid.val).2

/-! ### Injections (R984, R994) -/

/-- Start an injection of `mech` on slot `n` that lasts `us` microseconds, 0 where it lasts until it has been used. -/
def Device.injStart (d : Device) (mech n us : Nat) : Device :=
  ({ d with safety := { d.safety with inj := some (mech, n), injEnd := d.now + 100 * us } }).setFlag Fld.safeStatusInjBusy true

/-- MECH 2: the lowest enabled output reads out of range; a slot that is not monitored only records cause and event. -/
def Device.injClock (d : Device) (n : Fin 16) : Device :=
  let i := (firstIdx 4 fun i => bitOf (d.clkEn n (d.act n)) i).getD 0
  if (d.slot n).power = .on ∧ d.clkEn n (d.act n) ≠ 0 then
    let d := d.modSlot n fun s => { s with clk := { s.clk with rangeErr := s.clk.rangeErr ||| BitVec.ofNat 4 (2 ^ i) } }
    (((d.injStart 2 n 4).clkFault n true)).detectSlot 2 482 [(n, 4), (2 ^ i, 16)] n faultClock
  else (d.injStart 2 n 4).signal 2 482 [(n, 4), (0, 16)]

/-- MECH 3: tick loss is declared for 1 µs. -/
def Device.injTick (d : Device) : Device :=
  let d := d.injStart 3 (natOf (d.flag Fld.turnStatusLost)) 1
  let d := (d.setFlag Fld.turnStatusLost true).setFlag Fld.turnStatusLostSticky true
  (d.setActive 3 true).detectDevice 3 483 []

/-- MECH 6: VCCIO_n reads out of window for 10 µs. -/
def Device.injSupply (d : Device) (n : Fin 16) : Device :=
  let d := (d.injStart 6 n 10).setFldBit Fld.safeSupplyVccioIn n false
  (d.setActive 7 d.ioOut).detectSlot 7 486 [(16 + n.val, 16)] n faultSupply

/-- MECH 7: the temperature comparator reads 105 °C for 200 µs. -/
def Device.injTemp (d : Device) : Device :=
  let d := d.injStart 7 (natOf (d.flag Fld.safeTempOver)) 200
  ((d.setFlag Fld.safeTempOver true).setActive 10 true).detectDevice 10 487 []

/-- MECH 9: the readback path reads high for 4 µs while SAFE_N is driven. -/
def Device.injReadback (d : Device) : Device := (d.injStart 9 0 4).safeReadback

/-- An injection by TCID 0x3E or 0x3F while none is in progress; any other write of SAFE_TEST is ignored. -/
def Device.inject (d : Device) (tcid mech : Nat) (n : Fin 16) : Device :=
  if (tcid ≠ 0x3E ∧ tcid ≠ 0x3F) ∨ d.flag Fld.safeStatusInjBusy then d
  else if mech = 1 then d.injStart 1 n 0
  else if mech = 2 then d.injClock n
  else if mech = 3 then d.injTick
  else if mech = 4 then d.lockstep
  else if mech = 5 then d.injStart 5 0 0
  else if mech = 6 then d.injSupply n
  else if mech = 7 then d.injTemp
  else if mech = 8 then { (d.injStart 8 0 0) with bench := { d.bench with inject := true } }
  else if mech = 9 then d.injReadback
  else d

/-- INJECT_CHUCK. -/
def execInjectChuck (tcid : Fin 64) (slot : Fin 16) (s : State) : Host.Outcome State Fault Refusal :=
  actOn s fun d => d.inject tcid.val 1 slot

/-- INJECT_CLOCK. -/
def execInjectClock (tcid : Fin 64) (slot : Fin 16) (s : State) : Host.Outcome State Fault Refusal :=
  actOn s fun d => d.inject tcid.val 2 slot

/-- INJECT_TICK. -/
def execInjectTick (tcid : Fin 64) (s : State) : Host.Outcome State Fault Refusal := actOn s fun d => d.inject tcid.val 3 0

/-- INJECT_LOCKSTEP. -/
def execInjectLockstep (tcid : Fin 64) (s : State) : Host.Outcome State Fault Refusal := actOn s fun d => d.inject tcid.val 4 0

/-- INJECT_MATRIX. -/
def execInjectMatrix (tcid : Fin 64) (s : State) : Host.Outcome State Fault Refusal := actOn s fun d => d.inject tcid.val 5 0

/-- INJECT_SUPPLY_IO. -/
def execInjectSupplyIo (tcid : Fin 64) (slot : Fin 16) (s : State) : Host.Outcome State Fault Refusal :=
  actOn s fun d => d.inject tcid.val 6 slot

/-- INJECT_TEMP. -/
def execInjectTemp (tcid : Fin 64) (s : State) : Host.Outcome State Fault Refusal := actOn s fun d => d.inject tcid.val 7 0

/-- INJECT_BENCH_ECC. -/
def execInjectBenchEcc (tcid : Fin 64) (s : State) : Host.Outcome State Fault Refusal := actOn s fun d => d.inject tcid.val 8 0

/-- INJECT_SAFE_N_RB. -/
def execInjectSafeNRb (tcid : Fin 64) (s : State) : Host.Outcome State Fault Refusal := actOn s fun d => d.inject tcid.val 9 0

/-- A write of SAFE_TEST (R984). -/
def Device.safeTest (d : Device) (tcid v : Nat) : Device :=
  if bitsOf v 16 16 = 0x5346 then d.inject tcid (bitsOf v 0 5) (slotOf (bitsOf v 8 4)) else d

/-! ### Tamper (R785 to R788, R455, R631, R662, R830) -/

/-- A TAMPER_N assertion. It has no effect while VBAT is invalid (R74, R117); while power-on reset is held it latches TAMPERED,
and the key store erasure waits for the release (R787). -/
def Device.tamper (d : Device) : Device :=
  if !d.power.vbat then d
  else
    let d := { d with sec := { d.sec with tampered := true } }
    if d.por then { d with sec := { d.sec with erasePend := true } }
    else
      let d := if d.sec.engine.isNone then d else (d.setFld Fld.engStatusResult 0xA8).setFlag Fld.engStatusBusy false
      let d := { d with sec := { d.sec with loaderKey := [], scribeKey := [], engine := none } }
      let d := (d.setFlag Fld.secStatusTampered true).setFlag Fld.secStatusErasing true
      let d := (d.setActive 16 true).detectDevice 16 464 []
      let d := (d.scribeInterrupt (fun _ => true) true).endUnlocks fun _ => true
      ((d.setFlag Fld.benchStatusReady false).setFlag Fld.devReadyBench false).setFlag Fld.benchStatusZeroing true

/-- TAMPER. -/
def execTamper (s : State) : Host.Outcome State Fault Refusal := act s Device.tamper

/-- Every step of the tamper response has completed: key store erased, planes and signer IDs zero, Bench memory clear; the loader
job in progress ends with 0x27 (R455, R785). -/
def Device.tamperDone (d : Device) : Device :=
  if !(d.flag Fld.secStatusTampered && d.flag Fld.secStatusErasing) then d
  else
    let old := d
    let d := match d.loader.job with | some j => d.abortJobOf (j.members.headD 0) | none => d
    let d := d.tamperErase
    let d := d.forSlots allSlots fun n d =>
      let d := (d.zeroPlane n 0).zeroPlane n 1
      ((d.clearMem (keySigner n 0) 48).clearMem (keySigner n 1) 48).clkRetune old n
    let d := ((d.benchZero).setFlag Fld.benchStatusZeroing false).setFlag Fld.benchStatusTamperErased true
    let d := if d.fldBit Fld.pwrDomStatusOn 18 then (d.setFlag Fld.benchStatusReady true).setFlag Fld.devReadyBench true else d
    (d.setFlag Fld.secStatusErasing false).raise 465 []

/-- TAMPER_RESPONSE_COMPLETE. -/
def execTamperResponseComplete (s : State) : Host.Outcome State Fault Refusal := actOn s Device.tamperDone

end Sys2Proof.Machine
end

