-- ==== Sys2Proof/Machine/HwdCmds.lean ====
section
/-! DEFINITION. Heartwood commands for slots, Scribe, the Grain store and the turn, and ABORT (R746 to R749), with the requests of
SLC_REQ (R486). -/

namespace Sys2Proof.Machine

/-! ### Management -/

/-- NOP. -/
def execNop (cid : Nat) (s : State) : Host.Outcome State Fault Refusal :=
  hwdRow cid 0x01 (fun _ => true) (fun c d => d.complete c.cid 0 []) s

/-- The result of GET_INFO. -/
def Device.infoBytes (d : Device) (q : Nat) : List Byte :=
  leBytes 4 (d.rd Reg.devId) ++ leBytes 4 (d.rd Reg.devRev) ++ leBytes 4 (d.rd Reg.hwdFwVersion) ++ leBytes 4 (d.rd Reg.hwdSvn) ++
    leBytes 4 (d.rd Reg.hwdRollback) ++ leBytes 1 (d.fld Fld.hwdStatusBootCopy) ++ leBytes 2 (d.fld (Fld.hwdQPermGroups q))

/-- GET_INFO. -/
def execGetInfo (cid : Nat) (s : State) : Host.Outcome State Fault Refusal :=
  hwdRow cid 0x02 (fun _ => true) (fun c d => d.complete c.cid 0 (d.infoBytes c.queue)) s

/-! ### Slots -/

/-- The slot a command names at offset `o`. -/
def HwdCmd.slotAt (c : HwdCmd) (o : Nat) : Fin 16 := slotOf (c.f o 1)

/-- SLOT_BIND: a PF queue binds to a VF of its own port, VF 0 standing for VF n + 1; the grant is recorded (R464, R465, R738). -/
def Device.cmdBind (d : Device) (c : HwdCmd) : Device :=
  let n := c.slotAt 0x08
  let p : Fin 2 := if c.queue = 2 then (if c.f 0x09 1 = 0 then 0 else 1) else if c.queue = 0 then 0 else 1
  let v := if c.f 0x0A 1 = 0 then n.val + 1 else c.f 0x0A 1
  let (code, d) := d.bindSlot n p v false
  (if code = 0 then d.actSettle 4 else d).complete c.cid code []

/-- SLOT_BIND. -/
def execSlotBind (cid : Nat) (s : State) : Host.Outcome State Fault Refusal :=
  hwdRow cid 0x10 (fun _ => true) (fun c d => d.cmdBind c) s

/-- SLOT_UNBIND: it completes when every slot it reaches is EMPTY (R470 to R473). -/
def Device.cmdUnbind (d : Device) (c : HwdCmd) : Device :=
  let (code, d) := d.requestUnbind (c.slotAt 0x08) (some c.cid)
  (if code = 0 then d.actSettle 4 else d).settle c.cid code

/-- SLOT_UNBIND. -/
def execSlotUnbind (cid : Nat) (s : State) : Host.Outcome State Fault Refusal :=
  hwdRow cid 0x11 (fun _ => true) (fun c d => d.cmdUnbind c) s

/-- The loader job of a SLOT_LOAD (R746, "Loader job" table). -/
def jobEntry (op kind mask sel src len dest tag : Nat) : List Byte :=
  leBytes 1 op ++ leBytes 1 kind ++ leBytes 2 mask ++ leBytes 4 sel ++ leBytes 8 src ++ leBytes 8 len ++ leBytes 8 dest ++
    leBytes 4 tag ++ List.replicate 28 0

/-- Firmware places a loader job that belongs to `cid` (R410): false while the job queue has no room. -/
def Device.placeJob (d : Device) (cid : Nat) (entry : List Byte) : Bool × Device :=
  if 16 ≤ d.fld Fld.ldrJqStatusDepth then (false, d)
  else
    let i := d.jqTail
    let d := d.benchStore (d.jqAddr i - benchBase) entry
    let d := { d with loader := { d.loader with owners := d.loader.owners.filter (fun (o : Nat × Nat) => o.1 != i) ++ [(i, cid)] } }
    (true, d.jqPush)

/-- SLOT_LOAD: the job is placed once the job queue has room, and the command completes at the job's end. -/
def Device.cmdLoad (d : Device) (c : HwdCmd) : Device :=
  let (ok, d) := d.placeJob c.cid
    (jobEntry (c.f 0x08 1) (c.f 0x09 1) (c.f 0x0A 2) (c.f 0x0C 1) (c.f 0x10 8) (c.f 0x18 4) (c.f 0x20 8) c.tag)
  if ok then d.stageCmd c.cid 1 else d

/-- SLOT_LOAD with OP 1. -/
def execSlotLoad (cid : Nat) (s : State) : Host.Outcome State Fault Refusal :=
  hwdRow cid 0x12 (fun c => c.f 0x08 1 == 1) (fun c d => d.cmdLoad c) s

/-- SLOT_LOAD with OP 2. -/
def execReseed (cid : Nat) (s : State) : Host.Outcome State Fault Refusal :=
  hwdRow cid 0x12 (fun c => c.f 0x08 1 == 2) (fun c d => d.cmdLoad c) s

/-- SLOT_LOAD with OP 3. -/
def execReadback (cid : Nat) (s : State) : Host.Outcome State Fault Refusal :=
  hwdRow cid 0x12 (fun c => c.f 0x08 1 == 3) (fun c d => d.cmdLoad c) s

/-- Arm a swap for every slot of a mask: the code of the refusal, or 0 (R419, R420, R746). -/
def Device.swapMask (d : Device) (mask mode : Nat) (reinit : Bool) (turns : Nat) (cid : Option Nat) : Nat × Device :=
  let ms := maskSlots mask
  if !d.maskShape mask then (if ms.any fun m => !d.pValid m (d.inact m) then 0x30 else 0x31, d)
  else
    let n := ms.headD 0
    let c := d.swapCode n mode turns
    if c ≠ 0 then (c, d.swapResult n c)
    else if ms.any (fun m => d.swapPend m) then (0x83, d)
    else (0, d.forSlots ms fun m d => (d.swapArm m mode reinit turns cid).2)

/-- SLOT_SWAP: it completes when the swap applies, or when the copy of a first activation ends (R419, R429). -/
def Device.cmdSwap (d : Device) (c : HwdCmd) : Device :=
  let (code, d) := d.swapMask (c.f 0x08 2) (c.f 0x0A 1) (c.f 0x0B 1 == 1) (c.f 0x0C 1) (some c.cid)
  d.settle c.cid code

/-- SLOT_SWAP. -/
def execSlotSwap (cid : Nat) (s : State) : Host.Outcome State Fault Refusal :=
  hwdRow cid 0x13 (fun _ => true) (fun c d => d.cmdSwap c) s

/-- A request for position 5 by command: refused, done at once, or pending until its tick (R482). -/
def Device.cmdRequest5 (d : Device) (c : HwdCmd) (r : Req5) : Device :=
  let (code, done, d) := d.request5 (c.slotAt 0x08) r (some c.cid)
  if done then d.complete c.cid code (if code = 0 then leBytes 8 d.turnCount else []) else d.stageCmd c.cid 1

/-- SLOT_HOLD with OPT 0. -/
def execSlotHold (cid : Nat) (s : State) : Host.Outcome State Fault Refusal :=
  hwdRow cid 0x14 (fun c => c.f 0x09 1 == 0) (fun c d => d.cmdRequest5 c .hold) s

/-- SLOT_HOLD with OPT 1. -/
def execSlotReset (cid : Nat) (s : State) : Host.Outcome State Fault Refusal :=
  hwdRow cid 0x14 (fun c => c.f 0x09 1 == 1) (fun c d => d.cmdRequest5 c .slotReset) s

/-- A fault clear by firmware: where a FAULTED member has SLC_FAULT.DEVICE set and DSS is 1, DSS_CLEAR is written first, and a
refusal of that write refuses the clear with 0x48 (R975). -/
def Device.cmdFaultClear (d : Device) (c : HwdCmd) : Device :=
  let n := c.slotAt 0x08
  let dev := (d.members n).any fun m => (d.slot m).st == .faulted && bitOf (d.rd (Reg.slcFault m)) faultDevice
  if dev && d.flag Fld.safeStatusDss then
    let (ok, d) := d.dssClear 0x3E
    if ok then d.cmdRequest5 c .faultClear else (d.slotResult n 0x48).complete c.cid 0x48 []
  else d.cmdRequest5 c .faultClear

/-- SLOT_HOLD with OPT 2. -/
def execFaultClear (cid : Nat) (s : State) : Host.Outcome State Fault Refusal :=
  hwdRow cid 0x14 (fun c => c.f 0x09 1 == 2) (fun c d => d.cmdFaultClear c) s

/-- SLOT_RELEASE. -/
def execSlotRelease (cid : Nat) (s : State) : Host.Outcome State Fault Refusal :=
  hwdRow cid 0x15 (fun _ => true) (fun c d => d.cmdRequest5 c .release) s

/-- SLOT_POWER (R902). -/
def Device.cmdPower (d : Device) (c : HwdCmd) : Device :=
  let (code, done, d) := d.requestPower (c.slotAt 0x08) (c.f 0x09 1) (some c.cid)
  if done then d.complete c.cid code (if code = 0 then leBytes 8 d.turnCount else []) else d.stageCmd c.cid 1

/-- SLOT_POWER. -/
def execSlotPower (cid : Nat) (s : State) : Host.Outcome State Fault Refusal :=
  hwdRow cid 0x16 (fun _ => true) (fun c d => d.cmdPower c) s

/-- GROUP_JOIN (R474); the grants of members that take the binding are recorded. -/
def Device.cmdJoin (d : Device) (c : HwdCmd) : Device :=
  let (code, d) := d.joinGroup (c.f 0x08 1) (c.slotAt 0x09)
  (if code = 0 then d.actSettle 4 else d).complete c.cid code []

/-- GROUP_JOIN. -/
def execGroupJoin (cid : Nat) (s : State) : Host.Outcome State Fault Refusal :=
  hwdRow cid 0x17 (fun _ => true) (fun c d => d.cmdJoin c) s

/-- GROUP_SPLIT (R477, R478). -/
def Device.cmdSplit (d : Device) (c : HwdCmd) : Device :=
  let (code, d) := d.splitGroup (c.slotAt 0x08)
  (if code = 0 then d.actSettle 4 else d).complete c.cid code []

/-- GROUP_SPLIT. -/
def execGroupSplit (cid : Nat) (s : State) : Host.Outcome State Fault Refusal :=
  hwdRow cid 0x18 (fun _ => true) (fun c d => d.cmdSplit c) s

/-! ### SLC_REQ (R486) -/

/-- A write of SLC_REQ by a TCID. -/
def Device.slcReq (d : Device) (n : Fin 16) (tcid op : Nat) : Device :=
  if op = 0 ∨ 4 < op then d
  else
    let vf : Bool := match portOfTcid tcid with
      | some (p, v) => v != 0 && d.bindingOf n == some (p, v)
      | none => false
    if tcid == 0x3E || (decide (op ≤ 3) && vf && d.flag (Fld.slcCtlVfreqEn n)) then
      let r : Req5 := if op = 1 then .hold else if op = 2 then .release else if op = 3 then .slotReset else .faultClear
      (d.request5 n r none).2.2
    else d.slotResult n 0x4A

/-- SLC_REQ with OP 1. -/
def execSlcReqHold (slot : Fin 16) (tcid : Fin 64) (s : State) : Host.Outcome State Fault Refusal :=
  actOn s fun d => d.slcReq slot tcid.val 1

/-- SLC_REQ with OP 2. -/
def execSlcReqRelease (slot : Fin 16) (tcid : Fin 64) (s : State) : Host.Outcome State Fault Refusal :=
  actOn s fun d => d.slcReq slot tcid.val 2

/-- SLC_REQ with OP 3. -/
def execSlcReqSlotReset (slot : Fin 16) (tcid : Fin 64) (s : State) : Host.Outcome State Fault Refusal :=
  actOn s fun d => d.slcReq slot tcid.val 3

/-- SLC_REQ with OP 4. -/
def execSlcReqFaultClear (slot : Fin 16) (tcid : Fin 64) (s : State) : Host.Outcome State Fault Refusal :=
  actOn s fun d => d.slcReq slot tcid.val 4

/-! ### Scribe -/

/-- CAPTURE (R809 to R811). -/
def execCapture (cid : Nat) (s : State) : Host.Outcome State Fault Refusal :=
  hwdRow cid 0x20 (fun _ => true) (fun c d =>
    let (code, d) := d.captureAccept c.cid (c.f 0x08 2) (c.f 0x0A 1) (c.f 0x10 8) (c.f 0x18 4)
    d.settle c.cid code) s

/-- RESTORE (R821). -/
def execRestore (cid : Nat) (s : State) : Host.Outcome State Fault Refusal :=
  hwdRow cid 0x21 (fun _ => true) (fun c d =>
    let (code, d) := d.restoreAccept c.cid (c.f 0x08 2) (c.f 0x10 8) (c.f 0x18 4) (c.f 0x20 8)
    d.settle c.cid code) s

/-! ### Grain store -/

/-- GRAIN_REC_WRITE (R666, R667, R671, R672): no queue carries TCID 0x3E, so that a firmware key is refused with 0x61. -/
def Device.cmdRecWrite (d : Device) (c : HwdCmd) : Device :=
  let key := c.f 0x08 2
  if key < 0x1000 then d.complete c.cid 0x61 []
  else
    let (code, d) := d.recordWrite key ((c.desc.drop 0x0C).take (c.f 0x0A 1))
    d.complete c.cid code (if code = 0 then leBytes 4 (match d.recordRead key with | some (q, _) => q | none => 0) else [])

/-- GRAIN_REC_WRITE. -/
def execGrainRecWrite (cid : Nat) (s : State) : Host.Outcome State Fault Refusal :=
  hwdRow cid 0x40 (fun _ => true) (fun c d => d.cmdRecWrite c) s

/-- GRAIN_REC_READ (R672): the payload must fit Bench memory from DEST_ADDR. -/
def Device.cmdRecRead (d : Device) (c : HwdCmd) : Device :=
  let key := c.f 0x08 2
  if key < 0x1000 then d.complete c.cid 0x61 []
  else match d.recordRead key with
    | none => d.complete c.cid 0x63 []
    | some (q, p) =>
      if !bufferOk (c.f 0x10 8) p.length then d.complete c.cid 0x81 []
      else
        let (a, d) := d.fwWrite (c.f 0x10 8) p
        d.completeAfter c.cid a (leBytes 4 q ++ leBytes 4 p.length)

/-- GRAIN_REC_READ. -/
def execGrainRecRead (cid : Nat) (s : State) : Host.Outcome State Fault Refusal :=
  hwdRow cid 0x41 (fun _ => true) (fun c d => d.cmdRecRead c) s

/-- GRAIN_STORE (R647, R675): it completes when the STORE that serves it ends. -/
def Device.cmdStore (d : Device) (c : HwdCmd) : Device :=
  let (code, d) := d.storeRequest
  if code ≠ 0 then d.complete c.cid code []
  else
    let d := { d with grain := { d.grain with waiters := d.grain.waiters ++ [c.cid] } }
    d.stageCmd c.cid 1

/-- GRAIN_STORE. -/
def execGrainStore (cid : Nat) (s : State) : Host.Outcome State Fault Refusal :=
  hwdRow cid 0x42 (fun _ => true) (fun c d => d.cmdStore c) s

/-- The three counts of the journal: live, stale and free slots (R669). -/
def Device.journalCounts (d : Device) : List Byte :=
  let j := d.journal
  let live := liveCount j
  let free := freeCount j
  leBytes 2 live ++ leBytes 2 (1024 - live - free) ++ leBytes 2 free

/-- GRAIN_PLANE (R670). -/
def execGrainPlane (cid : Nat) (s : State) : Host.Outcome State Fault Refusal :=
  hwdRow cid 0x43 (fun _ => true) (fun c d =>
    let d := d.plane true
    d.complete c.cid 0 d.journalCounts) s

/-! ### Turn -/

/-- TURN_SET: the selected TURN_ fields are written; they govern from the next turn on (R284, R288, R746). -/
def Device.cmdTurnSet (d : Device) (c : HwdCmd) : Device :=
  let set_ := c.f 0x08 1
  let d := if bitOf set_ 0 then d.turnPeriodWrite (c.f 0x0C 4) else d
  let ctl := d.rd Reg.turnCtl
  let ctl := withBit ctl 0 (bitOf set_ 3)
  let ctl := if bitOf set_ 1 then withBits ctl 1 2 (c.f 0x09 1) else ctl
  let ctl := if bitOf set_ 2 then withBits ctl 3 1 (c.f 0x0A 1) else ctl
  let d := if set_ / 2 = 0 then d else d.turnCtlWrite ctl
  d.complete c.cid 0 (leBytes 8 ((d.turnCount + 1) % 2 ^ 64))

/-- TURN_SET. -/
def execTurnSet (cid : Nat) (s : State) : Host.Outcome State Fault Refusal :=
  hwdRow cid 0x60 (fun _ => true) (fun c d => d.cmdTurnSet c) s

end Sys2Proof.Machine
end

