-- ==== Sys2Proof/Machine/FirmwareCmds.lean ====
section
/-! DEFINITION. Heartwood commands for the resident store and firmware copies, HIBERNATE, and ABORT (R747 to R750, R909, R910), with
the ends of programs and erases that continue them (R692, R693). -/

namespace Sys2Proof.Machine

/-! ### Hibernate and GRAIN power-off wait for ARMED (R898, R910) -/

/-- Step 2 of a HIBERNATE ends once no resident store operation runs and ARMED is 1; its STORE of cause 3 then runs. -/
def Device.hibAdvance (d : Device) : Device :=
  match d.power.hib with
  | some j =>
    if j.stage = 1 ∧ !d.resBusy ∧ d.flag Fld.grnStatusArmed then
      let d := d.storeStart 3
      { d with power := { d.power with hib := some ⟨j.cid, 2⟩ } }
    else d
  | none => d

/-- A power-off of the GRAIN domain runs its STORE of cause 4 once ARMED is 1. -/
def Device.grainOffAdvance (d : Device) : Device :=
  if d.power.grainOff = 1 ∧ d.flag Fld.grnStatusArmed then
    let d := d.storeStart 4
    { d with power := { d.power with grainOff := 2 } }
  else d

/-- HIBERNATE (R909, R910). -/
def Device.cmdHibernate (d : Device) (c : HwdCmd) : Device :=
  if !d.power.vbat then d.complete c.cid 0xC3 []
  else
    let d := (d.setFlag Fld.pwrStatusHibPend true).stageCmd c.cid 1
    ({ d with power := { d.power with hib := some ⟨c.cid, 1⟩ } }).hibAdvance

/-- HIBERNATE. -/
def execHibernate (cid : Nat) (s : State) : Host.Outcome State Fault Refusal :=
  hwdRow cid 0x70 (fun _ => true) (fun c d => d.cmdHibernate c) s

/-! ### Resident store commands (R746, R747) -/

/-- First and last sector of the running firmware copy. -/
def Device.runningSectors (d : Device) : Nat × Nat :=
  let base := if d.flag Fld.hwdStatusBootCopy then 256 else 0
  (base, base + (d.hwd.copyLen + 447) / 0x10000)

/-- A range of sectors overlaps a sector of the running copy (R747). -/
def Device.selfProtected (d : Device) (first count : Nat) : Bool :=
  decide (count ≠ 0) && decide (first ≤ d.runningSectors.2) && decide (d.runningSectors.1 < first + count)

/-- Sectors that the byte range `[off, off + len)` touches: the first, and how many. -/
def sectorSpan (off len : Nat) : Nat × Nat :=
  (off / 0x10000, if len = 0 then 0 else (off + len - 1) / 0x10000 + 1 - off / 0x10000)

/-- Firmware writes a page into the program buffer in 64-byte writes and issues PROGRAM: the code of its refusal or 0, and the
access that failed, if one did (R691, R692). -/
def Device.fwProgramPage (d : Device) (page : Nat) (data : List Byte) : Nat × FwAccess × Device :=
  if d.flag Fld.resStatusIscMode then (0x79, ⟨0, 0, []⟩, d)
  else
    let (a, d) := (List.range 4).foldl (fun (r : FwAccess × Device) k =>
      if r.1.code ≠ 0 then r
      else
        let at_ := 256 * page + 64 * k
        let part := (data.drop (64 * k)).take 64
        let (ok, d) := r.2.resWrite false 0x3E at_ (part.map fun _ => true) part
        if ok then (⟨0, at_, []⟩, d) else (⟨4, at_, []⟩, d.busError 3 at_ 4)) (⟨0, 256 * page, []⟩, d)
    if a.code ≠ 0 then (0, a, d)
    else
      let (code, d) := d.resProgram
      (code, a, d)

/-- A page image: `data` from byte `o` of the page, 0xFF elsewhere. -/
def pageImage (o : Nat) (data : List Byte) : List Byte :=
  (List.replicate o (0xFF : Byte) ++ data ++ List.replicate 256 (0xFF : Byte)).take 256

/-- RES_PROGRAM goes on with its next page, or ends. -/
def Device.programNext (d : Device) (c : HwdCmd) : Device :=
  let off := c.f 0x08 4
  let len := c.f 0x18 4
  if len ≤ c.prog then d.complete c.cid 0 (leBytes 4 c.prog)
  else
    let o := (off + c.prog) % 256
    let n := min (256 - o) (len - c.prog)
    let (a, d) := d.fwRead (c.f 0x10 8 + c.prog) n
    if a.code ≠ 0 then d.completeBus c.cid a
    else
      let (code, b, d) := d.fwProgramPage ((off + c.prog) / 256) (pageImage o a.data)
      if b.code ≠ 0 then d.completeBus c.cid b
      else if code ≠ 0 then d.complete c.cid code (leBytes 4 c.prog)
      else d.modCmd c.cid fun x => { x with stage := 1, prog := c.prog, aux := n }

/-- RES_PROGRAM begins once no program or erase is in progress. -/
def Device.cmdResProgram (d : Device) (c : HwdCmd) : Device :=
  let s := sectorSpan (c.f 0x08 4) (c.f 0x18 4)
  if d.selfProtected s.1 s.2 then d.complete c.cid 0x8B (leBytes 4 0)
  else if d.resBusy then d
  else d.programNext c

/-- RES_PROGRAM. -/
def execResProgram (cid : Nat) (s : State) : Host.Outcome State Fault Refusal :=
  hwdRow cid 0x30 (fun _ => true) (fun c d => d.cmdResProgram c) s

/-- RES_ERASE goes on with its next sector, or ends. -/
def Device.eraseNext (d : Device) (c : HwdCmd) : Device :=
  if c.f 0x0A 2 ≤ c.prog then d.complete c.cid 0 (leBytes 4 c.prog)
  else
    let (code, d) := d.eraseSector (c.f 0x08 2 + c.prog) false
    if code ≠ 0 then d.complete c.cid code (leBytes 4 c.prog)
    else d.modCmd c.cid fun x => { x with stage := 1, prog := c.prog }

/-- RES_ERASE begins once no program or erase is in progress. -/
def Device.cmdResErase (d : Device) (c : HwdCmd) : Device :=
  if d.selfProtected (c.f 0x08 2) (c.f 0x0A 2) then d.complete c.cid 0x8B (leBytes 4 0)
  else if d.resBusy then d
  else d.eraseNext c

/-- RES_ERASE. -/
def execResErase (cid : Nat) (s : State) : Host.Outcome State Fault Refusal :=
  hwdRow cid 0x31 (fun _ => true) (fun c d => d.cmdResErase c) s

/-- The index of the first difference of two byte strings of one length. -/
def firstDiff (a b : List Byte) : Option Nat := firstIdx a.length fun i => a[i]? != b[i]?

/-- RES_VERIFY: FIRST_MISMATCH counts from the start of the range. -/
def Device.cmdResVerify (d : Device) (c : HwdCmd) : Device :=
  let len := c.f 0x18 4
  let (a, d) := d.fwRead (c.f 0x08 4) len
  if a.code ≠ 0 then d.completeBus c.cid a
  else
    let (b, d) := d.fwRead (c.f 0x10 8) len
    if b.code ≠ 0 then d.completeBus c.cid b
    else match firstDiff a.data b.data with
      | some i => d.complete c.cid 0x8C (leBytes 4 i)
      | none => d.complete c.cid 0 []

/-- RES_VERIFY. -/
def execResVerify (cid : Nat) (s : State) : Host.Outcome State Fault Refusal :=
  hwdRow cid 0x32 (fun _ => true) (fun c d => d.cmdResVerify c) s

/-! ### Firmware copies (R733, R734, R750) -/

/-- The ROLLBACK counter: the live record 0x0001, or 0 (R734, R737). -/
def Device.rollback (d : Device) : Nat := match d.recordRead 0x0001 with | some (_, p) => leAt p 0 4 | none => 0

/-- Bytes of a whole copy by its header: LENGTH + 448. -/
def copyTotal (h : List Byte) : Nat := leAt h 0x0C 4 + 448

/-- The conditions of R734 on the bytes of a copy, in their order: 0 where all hold, 0x8E for SVN, 0x8D for any other. -/
def Device.copyCode (d : Device) (bs : List Byte) : Nat :=
  let len := leAt bs 0x0C 4
  let msg := bs.take (0x100 + len)
  let sig := fun o => (bs.drop (o + len)).take 96
  let vendor := (bs.drop 0x40).take 96
  let oper := (bs.drop 0xA0).take 96
  if bs.length < 256 ∨ bs.take 4 ≠ ascii "GDNF" ∨ !((bs.drop 0x14).take 44).all (· == 0) then 0x8D
  else if 0x1000000 < len + 448 ∨ bs.length < len + 448 then 0x8D
  else if padTo 48 (Config.sha384 vendor) ≠ d.otpHash 0 ∨ !Config.ecdsaVerify vendor msg (sig 0x100) then 0x8D
  else if d.opKeyed && (padTo 48 (Config.sha384 oper) != d.opHash || !Config.ecdsaVerify oper msg (sig 0x160)) then 0x8D
  else if leAt bs 0x08 4 < d.rollback then 0x8E
  else 0

/-- The bytes of a copy at an internal address of which at most `avail` may be read: the header first, then the whole. -/
def Device.readCopy (d : Device) (addr avail : Nat) : FwAccess × Device :=
  if avail < 256 then (⟨0, addr, []⟩, d)
  else
    let (h, d) := d.fwRead addr 256
    if h.code ≠ 0 ∨ h.data.take 4 ≠ ascii "GDNF" ∨ min avail 0x1000000 < copyTotal h.data then (h, d)
    else d.fwRead addr (copyTotal h.data)

/-- The copy that firmware is not running. -/
def Device.otherCopy (d : Device) : Nat := 1 - d.fld Fld.hwdStatusBootCopy

/-- FW_UPDATE programs its next page, or, after the last, records BOOT_PREF and ends. -/
def Device.updateProgram (d : Device) (c : HwdCmd) : Device :=
  let total := c.aux
  let copy := d.otherCopy
  if total ≤ 256 * c.prog then
    let (code, d) := d.recordWrite 0x0002 (leBytes 1 copy)
    d.complete c.cid code (if code = 0 then leBytes 1 copy else [])
  else
    let (a, d) := d.fwRead (c.f 0x10 8 + 256 * c.prog) (min 256 (total - 256 * c.prog))
    if a.code ≠ 0 then d.completeBus c.cid a
    else
      let (code, b, d) := d.fwProgramPage (copy * 0x10000 + c.prog) (pageImage 0 a.data)
      if b.code ≠ 0 then d.completeBus c.cid b
      else if code ≠ 0 then d.complete c.cid code []
      else d.modCmd c.cid fun x => { x with stage := 2, prog := c.prog }

/-- FW_UPDATE erases its next sector, or goes on to program. -/
def Device.updateErase (d : Device) (c : HwdCmd) : Device :=
  if c.aux ≤ 0x10000 * c.prog then d.updateProgram { c with prog := 0 }
  else
    let (code, d) := d.eraseSector (256 * d.otherCopy + c.prog) false
    if code ≠ 0 then d.complete c.cid code []
    else d.modCmd c.cid fun x => { x with stage := 1, prog := c.prog, aux := c.aux }

/-- FW_UPDATE checks the staged copy, then begins to erase once no program or erase is in progress. -/
def Device.cmdFwUpdate (d : Device) (c : HwdCmd) : Device :=
  let (a, e) := d.readCopy (c.f 0x10 8) (c.f 0x18 4)
  if a.code ≠ 0 then e.completeBus c.cid a
  else if e.copyCode a.data ≠ 0 then e.complete c.cid (e.copyCode a.data) []
  else if d.resBusy then d
  else e.updateErase { c with aux := copyTotal a.data, prog := 0 }

/-- FW_UPDATE. -/
def execFwUpdate (cid : Nat) (s : State) : Host.Outcome State Fault Refusal :=
  hwdRow cid 0x71 (fun _ => true) (fun c d => d.cmdFwUpdate c) s

/-! ### The ends of programs and erases (R692, R693) -/

/-- The command whose own program or erase runs. -/
def Device.resCmdOf (d : Device) (op stage : Nat) : Option HwdCmd := d.hwd.cmds.find? fun c => c.op = op ∧ c.stage = stage

/-- An operation of kind `op` that is not ISC's ends now. -/
def Device.resEnding (d : Device) (op : Nat) : Bool :=
  !d.flag Fld.resStatusSuspended && (match d.resident.job with | some j => j.op == op && !j.isc | none => false)

/-- After the end of a page program, the command it belongs to goes on, ends with PROG_FAIL, or is aborted (R749). -/
def Device.afterProgram (d : Device) (ok : Bool) : Device :=
  match d.resCmdOf 0x30 1 with
  | some c =>
    let done := if ok then c.prog + c.aux else c.prog
    if !ok then d.complete c.cid 0x76 (leBytes 4 done)
    else if c.abort then d.complete c.cid 0x85 (leBytes 4 done)
    else d.programNext { c with prog := done }
  | none =>
    match d.resCmdOf 0x71 2 with
    | some c => if ok then d.updateProgram { c with prog := c.prog + 1 } else d.complete c.cid 0x76 []
    | none => d

/-- PROGRAM_DONE (R692). -/
def execProgramDone (ok : Bool) (s : State) : Host.Outcome State Fault Refusal :=
  actOn s fun d =>
    let e := d.programEnd ok
    (if d.resEnding 1 then e.afterProgram ok else e).hibAdvance

/-- After the end of an erase, the command it belongs to goes on, ends with ERASE_FAIL, or is aborted. -/
def Device.afterErase (d : Device) (ok : Bool) : Device :=
  match d.resCmdOf 0x31 1 with
  | some c =>
    let done := if ok then c.prog + 1 else c.prog
    if !ok then d.complete c.cid 0x77 (leBytes 4 done)
    else if c.abort then d.complete c.cid 0x85 (leBytes 4 done)
    else d.eraseNext { c with prog := done }
  | none =>
    match d.resCmdOf 0x71 1 with
    | some c => if ok then d.updateErase { c with prog := c.prog + 1 } else d.complete c.cid 0x77 []
    | none => d

/-- ERASE_DONE (R693). -/
def execEraseDone (ok : Bool) (s : State) : Host.Outcome State Fault Refusal :=
  actOn s fun d =>
    let e := d.eraseEnd ok
    (if d.resEnding 2 then e.afterErase ok else e).hibAdvance

/-! ### ABORT (R748, R749, R762) -/

/-- The oldest command of queue `q` with a tag that firmware has taken and that is no ABORT. -/
def Device.abortTarget (d : Device) (q tag : Nat) : Option HwdCmd :=
  d.hwd.cmds.find? fun c => c.queue.val = q ∧ c.tag = tag ∧ c.op ≠ 0x7F

/-- The oldest entry of queue `q` not yet taken with a tag that is no ABORT and that no ABORT has ended: its ring index and
descriptor. -/
def Device.abortEntry (d : Device) (q tag : Nat) : Option (Nat × List Byte) :=
  let head := d.fld (Fld.hwdQSqStatusHead q)
  ((List.range (d.fld (Fld.hwdQSqStatusDepth q))).map fun i => (head + i) % 64).findSome? fun i =>
    match d.sqPeek q i with
    | some b => if leAt b 4 4 = tag ∧ leAt b 0 1 ≠ 0x7F ∧ (q, i) ∉ d.hwd.skips then some (i, b) else none
    | none => none

/-- Slots whose pending request of position 5 belongs to a command. -/
def Device.pend5Of (d : Device) (cid : Nat) : List (Fin 16) :=
  allSlots.filter fun n => match (d.slot n).pend5 with | some p => p.cid == some cid | none => false

/-- Slots whose pending power change belongs to a command. -/
def Device.pend7Of (d : Device) (cid : Nat) : List (Fin 16) :=
  allSlots.filter fun n => match (d.slot n).pend7 with | some p => p.cid == some cid | none => false

/-- Slots whose armed swap belongs to a command. -/
def Device.swapOf (d : Device) (cid : Nat) : List (Fin 16) :=
  allSlots.filter fun n => match (d.slot n).swap with | some w => w.cid == some cid | none => false

/-- Both end: the target with a code, then ABORT with OK. -/
def Device.abortBoth (d : Device) (own target code : Nat) : Device := (d.complete target code []).complete own 0 []

/-- ABORT of a command that firmware has taken, by the target's stage ("ABORT outcomes" table). -/
def Device.abortTaken (d : Device) (own : Nat) (t : HwdCmd) : Device :=
  let wait := fun (d : Device) => d.modCmd own fun x => { x with stage := 1, aux := t.cid }
  let refuse := fun (d : Device) => d.complete own 0x89 []
  if t.stage = 0 then d.abortBoth own t.cid 0x85
  else match t.op with
    | 0x11 | 0x14 | 0x15 =>
      match d.pend5Of t.cid with
      | [] => refuse d
      | ns => (d.forSlots ns fun n d => d.modSlot n fun s => { s with pend5 := none }).abortBoth own t.cid 0x85
    | 0x12 =>
      match d.loader.owners.find? fun o => o.2 = t.cid with
      | some o => wait { d with loader := { d.loader with aborts := d.loader.aborts ++ [o.1] } }
      | none => (d.abortJob).complete own 0 []
    | 0x13 =>
      match d.swapOf t.cid with
      | [] => refuse d
      | ns => (d.forSlots ns fun n d => (d.swapCancel n).2).abortBoth own t.cid 0x85
    | 0x16 =>
      match d.pend7Of t.cid with
      | [] => refuse d
      | ns => (d.forSlots ns fun n d => d.modSlot n fun s => { s with pend7 := none }).abortBoth own t.cid 0x85
    | 0x20 =>
      if d.scribe.captures.any fun x => x.cid == t.cid && decide (x.stage ≤ 1) then
        ({ d with scribe := { d.scribe with captures := d.scribe.captures.filter fun x => x.cid != t.cid } }).abortBoth own t.cid 0x85
      else refuse d
    | 0x21 =>
      if d.scribe.restores.any fun x => x.cid == t.cid && x.stage == 2 then
        ({ d with scribe := { d.scribe with restores := d.scribe.restores.filter fun x => x.cid != t.cid } }).abortBoth own t.cid 0x85
      else refuse d
    | 0x30 | 0x31 => wait (d.modCmd t.cid fun x => { x with abort := true })
    | _ => refuse d

/-- ABORT of an entry not yet taken: it ends at once, once its queue has room for the completion, and is popped unread when it
reaches the head. -/
def Device.abortQueued (d : Device) (own q i : Nat) (desc : List Byte) : Device :=
  if !d.cqRoom q then d
  else
    let d := { d with hwd := { d.hwd with skips := d.hwd.skips ++ [(q, i)] } }
    (d.postCompletion q (leAt desc 4 4) (leAt desc 0 1) 0x85 d.now []).complete own 0 []

/-- ABORT. -/
def Device.cmdAbort (d : Device) (c : HwdCmd) : Device :=
  let q := if c.f 0x0C 1 = 0xFF then c.queue.val else c.f 0x0C 1
  if c.queue.val ≠ 2 ∧ q ≠ c.queue.val then d.complete c.cid 0x82 []
  else match d.abortTarget q (c.f 0x08 4) with
    | some t => d.abortTaken c.cid t
    | none =>
      match d.abortEntry q (c.f 0x08 4) with
      | some (i, b) => d.abortQueued c.cid q i b
      | none => d.complete c.cid 0x88 []

/-- ABORT. -/
def execAbort (cid : Nat) (s : State) : Host.Outcome State Fault Refusal :=
  hwdRow cid 0x7F (fun _ => true) (fun c d => d.cmdAbort c) s

end Sys2Proof.Machine
end

