-- ==== Sys2Proof/Machine/RingBase.lean ====
section
/-! DEFINITION. The Yelaval ring: slots, origins, presence, the tick master, and transfers (R866 to R886, R889 to R892). -/

namespace Sys2Proof.Machine

/-! ### The words of the ring (R867, R873, R875, R876) -/

/-- Change one direction of the ring (0 E, 1 W). -/
def Device.modDir (d : Device) (k : Fin 2) (f : RingDir → RingDir) : Device :=
  { d with ring := { d.ring with dirs := d.ring.dirs.set k (f (d.ring.dirs[k])) } }

/-- The other direction. -/
def otherDir (k : Fin 2) : Fin 2 := if k = 0 then 1 else 0

/-- This device's bits of PRESENT, CAND and FAULT (R873). -/
def Device.ownBits (d : Device) : Bool × Bool × Bool := (d.ringOn, d.ringOn && d.flag Fld.ringCtlCand, d.ringOn && d.ringFaultBit)

/-- PRESENT, CAND and FAULT as this device reports them: the words last received on both directions, with its own bits (R875). -/
def Device.ringWords (d : Device) : Nat × Nat × Nat :=
  let a := d.ringAddr
  let e := d.ring.dirs[0]
  let w := d.ring.dirs[1]
  let own := d.ownBits
  (withBit (e.present ||| w.present).toNat a own.1, withBit (e.cand ||| w.cand).toNat a own.2.1,
   withBit (e.fault ||| w.fault).toNat a own.2.2)

/-- The tick master: the lowest candidate (R876). -/
def ringMaster (cand : Nat) : Option Nat := firstIdx 16 fun a => bitOf cand a

/-- Address of entry `i` of the transmit queue ("T7 layout" table). -/
def txqEntry (i : Nat) : Nat := 0x90000000 + 128 * (i % 1024)

/-- Address of entry `i` of the receive queue. -/
def rxqEntry (i : Nat) : Nat := 0x90020000 + 128 * (i % 1024)

/-- Entries held by a ring queue whose status register is given by DEPTH and FULL. -/
def Device.ringDepth (d : Device) (depth full : Fld) : Nat := if d.flag full then 1024 else d.fld depth

/-- Entries of the transmit queue. -/
def Device.txqDepth (d : Device) : Nat := d.ringDepth Fld.ringTxqStatusDepth Fld.ringTxqStatusFull
/-- Entries of the receive queue. -/
def Device.rxqDepth (d : Device) : Nat := d.ringDepth Fld.ringRxqStatusDepth Fld.ringRxqStatusFull

/-- DEPTH and FULL of the transmit queue show `n` entries: FULL marks 1,024. -/
def Device.setTxq (d : Device) (n : Nat) : Device :=
  (d.setFld Fld.ringTxqStatusDepth (n % 1024)).setFlag Fld.ringTxqStatusFull (n == 1024)
/-- DEPTH and FULL of the receive queue show `n` entries. -/
def Device.setRxq (d : Device) (n : Nat) : Device :=
  (d.setFld Fld.ringRxqStatusDepth (n % 1024)).setFlag Fld.ringRxqStatusFull (n == 1024)

/-- Fragments of a transfer that are no longer to be sent leave the transmit queue, from fragment `from_` on (R886). -/
def Device.txqDrop (d : Device) (xfer from_ : Nat) : Device :=
  let es := (List.range d.txqDepth).map fun i => d.bytes (txqEntry (d.ring.txHead + i)) 128
  let keep := es.filter fun e => !(leAt e 2 2 == xfer && leAt e 0 1 / 16 == d.ringAddr && decide (from_ ≤ leAt e 4 4))
  let d := iter keep.length (fun i d => d.setBytes (txqEntry (d.ring.txHead + i)) (keep.getD i [])) d
  d.setTxq keep.length

/-- A transfer being sent ends: its fragments leave the queue. -/
def Device.txEnd (d : Device) (x : RingTx) : Device :=
  let d := d.txqDrop x.xfer 0
  { d with ring := { d.ring with txs := d.ring.txs.filter fun y => y.cid != x.cid } }

/-- A transfer fails: event 502 with the code, and its command completes (R886). -/
def Device.txFail (d : Device) (x : RingTx) (code : Nat) : Device := ((d.txEnd x).raise 502 [(code, 8)]).complete x.cid code []

/-- The REMOTE cause follows the remote bits of RING_FAULT that SAFE_RING_MASK selects (R965, R968). -/
def Device.remoteCause (d : Device) (fault : Nat) : Device :=
  let hit := Nat.land (withBit fault d.ringAddr false) (d.fld Fld.safeRingMaskMask) != 0
  if hit == d.fldBit Fld.safeActiveActive 13 then d
  else
    let d := d.setActive 13 hit
    if !hit then d
    else
      let d := (d.setFldBit Fld.safeCauseSeen 13 true).safeLow
      if d.fld Fld.safeCtlRingAct = 1 then d.enterDss 13 else d

/-- RING_STATUS follows the directions and the master. -/
def Device.ringStatus (d : Device) (cand : Nat) : Device :=
  let e := d.ring.dirs[0]
  let w := d.ring.dirs[1]
  let m := ringMaster cand
  let d := (d.setFlag Fld.ringStatusUp (e.up || w.up)).setFlag Fld.ringStatusMaster (m == some d.ringAddr && d.ringOn)
  let d := (d.setFlag Fld.ringStatusEOrigin e.origin).setFlag Fld.ringStatusWOrigin w.origin
  let d := (d.setFlag Fld.ringStatusEBroken e.broken).setFlag Fld.ringStatusWBroken w.broken
  (d.setFlag Fld.ringStatusMasterValid m.isSome).setFld Fld.ringStatusMasterAddr (m.getD 0)

/-- Everything that follows the words of the ring: the RING_ registers with events 496, 498 and 503, the REMOTE cause, and the
transfers whose destination is no longer present (R875, R876, R886, R896). A ring out of service carries nothing (R867). -/
def Device.ringRefresh (d : Device) : Device :=
  let d := if d.ringOn then d else
    { d with ring := { d.ring with dirs := d.ring.dirs.map fun x => { RingDir.reset with measured := x.measured } } }
  let (p, c, f) := d.ringWords
  let oldP := d.fld Fld.ringPresentPresent
  let oldF := d.fld Fld.ringFaultFault
  let oldM := if d.flag Fld.ringStatusMasterValid then some (d.fld Fld.ringStatusMasterAddr) else none
  let d := ((d.setFld Fld.ringPresentPresent p).setFld Fld.ringPresentCand c).setFld Fld.ringFaultFault f
  let d := d.ringStatus c
  let d := if oldF = f then d else d.raise 496 [(f, 16)]
  let d := if oldM = ringMaster c then d else d.raise 498 [((ringMaster c).getD 0xFFFF, 16)]
  let d := if oldP = p then d else d.raise 503 [(p, 16)]
  let d := d.remoteCause f
  (d.ring.txs.filter fun x => !bitOf p x.dst).foldl (fun d x => d.txFail x 0xB6) d

/-! ### Slots (R868, R869, R873) -/

/-- The K-codes: K28.5 at a slot's start, K28.0 as fill, K28.7 before a marker, K28.3 before a trigger. -/
def kSos : Nat := 0x1BC
/-- Fill. -/
def kFill : Nat := 0x11C
/-- Tick marker. -/
def kMarker : Nat := 0x1FC
/-- Trigger sequence. -/
def kTrigger : Nat := 0x17C

/-- CRC-16 of the WCRC field. -/
def wcrc (bs : List Byte) : Nat := crcMsb 16 0x1021 0xFFFF bs
/-- CRC-8 of the CHK field (R870). -/
def chk8 (bs : List Byte) : Nat := crcMsb 8 0x07 0 bs

/-- The symbols of a slot: `head` is symbols 1 to 9, `body` symbols 12 to 83; PCRC is `pcrc`. -/
def slotSymbols (head body pcrc : List Byte) : List Nat :=
  kSos :: (head ++ leBytes 2 (wcrc head) ++ body ++ pcrc).map (·.toNat) ++ List.replicate 8 kFill

/-- Body of an entry of the transmit queue: ADDR, FLAGS, XFER_ID, FRAG, PAYLOAD. -/
def entryBody (e : List Byte) : List Byte := e.take 8 ++ (e.drop 16).take 64

/-- A queue entry that holds a body ("T7 layout" table). -/
def bodyEntry (b : List Byte) : List Byte := padTo 128 (b.take 8 ++ List.replicate 8 0 ++ (b.drop 8).take 64)

/-- The direction by which a slot for `dst` travels (R884). -/
def Device.ringRoute (d : Device) (dst : Nat) : Option (Fin 2) :=
  let e := d.ring.dirs[0]
  let w := d.ring.dirs[1]
  let pe := e.present.getLsbD dst
  let pw := w.present.getLsbD dst
  if !e.broken && pe then some 0
  else if !w.broken && pw then some 1
  else if e.broken && w.broken && pw then some 0
  else if e.broken && w.broken && pe then some 1
  else none

/-- The transfer that an entry of the transmit queue belongs to. -/
def Device.txOf (d : Device) (e : List Byte) : Option RingTx := d.ring.txs.find? fun x => x.xfer == leAt e 2 2 && x.dst == leAt e 0 1 % 16

/-- The direction of the head of the transmit queue: the one its transfer asks for, else R884. -/
def Device.entryRoute (d : Device) (e : List Byte) : Option (Fin 2) :=
  match d.txOf e with
  | some x => if x.dirReq = 1 then some 0 else if x.dirReq = 2 then some 1 else d.ringRoute x.dst
  | none => d.ringRoute (leAt e 0 1 % 16)

/-- Change a transfer being sent. -/
def Device.modTx (d : Device) (cid : Nat) (f : RingTx → RingTx) : Device :=
  { d with ring := { d.ring with txs := d.ring.txs.map fun x => if x.cid = cid then f x else x } }

/-- What goes into a free slot on direction `k`: control and ack slots first, then the transmit queue; after 8 insertions in a row
one free slot passes (R884). The result is KIND and body, none where the slot stays free. -/
def Device.ringInsert (d : Device) (k : Fin 2) : Option (Nat × List Byte) × Device :=
  let x := d.ring.dirs[k]
  if 8 ≤ x.run then (none, d.modDir k fun x => { x with run := 0 })
  else
    match x.queue with
    | b :: t => (some ((b.headD 0).toNat, b.drop 1), d.modDir k fun x => { x with queue := t, run := x.run + 1 })
    | [] =>
      let e := d.bytes (txqEntry d.ring.txHead) 128
      if d.txqDepth ≠ 0 ∧ d.entryRoute e = some k then
        let d := match d.txOf e with
          | some y => d.modTx y.cid fun y => { y with sent := max y.sent (leAt e 4 4 + 1), used := k.val + 1 }
          | none => d
        let d := d.setTxq (d.txqDepth - 1)
        let d := { d with ring := { d.ring with txHead := (d.ring.txHead + 1) % 1024 } }
        (some (1, entryBody e), d.modDir k fun x => { x with run := x.run + 1 })
      else (none, d.modDir k fun x => { x with run := 0 })

/-- Symbols 1 to 9 of a slot that leaves on direction `k` (R873): KIND `kind` with HEAD `h` as received, ORIGIN, HOPS, and the words as
received; the origin writes its own ORIGIN and HEAD, and each device its own bits. -/
def Device.ringHead (d : Device) (k : Fin 2) (kind : Nat) (h : Bool) (origin hops present cand fault : Nat) : List Byte :=
  let x := d.ring.dirs[k]
  let a := d.ringAddr
  let own := d.ownBits
  let word := fun (v : Nat) (b : Bool) => withBit (if x.origin && x.head then 0 else v) a b
  leBytes 1 (kind + 4 * natOf (if x.origin then x.head else h)) ++ leBytes 1 (if x.origin then a else origin) ++ leBytes 1 hops ++
    leBytes 2 (word present own.1) ++ leBytes 2 (word cand own.2.1) ++ leBytes 2 (word fault own.2.2)

/-- A slot leaves on direction `k` (R873): `kind`, ORIGIN, HOPS and the words as received, and the body of a slot that is not free,
with its PCRC. -/
def Device.ringEmit (d : Device) (k : Fin 2) (kind origin hops present cand fault : Nat) (body pcrc : List Byte) : Device :=
  let ins := if kind % 4 = 0 then d.ringInsert k else (none, d)
  let free := kind % 4 = 0 ∧ ins.1.isNone
  let (kd, hp, bd, pc) := match ins.1 with
    | some (q, b) => (q, 0, padTo 72 b, leBytes 4 (crc32c (padTo 72 b)))
    | none => if free then (0, hops, List.replicate 72 0, leBytes 4 (crc32c (List.replicate 72 0))) else (kind % 4, hops, body, pcrc)
  ins.2.emit (.ringSend k (slotSymbols (d.ringHead k (kd % 4) (bitOf kind 2) origin hp present cand fault) bd pc))

/-! ### Origins and breaks (R872, R889) -/

/-- The origin rules at a valid slot with HEAD `h` and ORIGIN `o`. -/
def Device.originRule (d : Device) (k : Fin 2) (h : Bool) (o : Nat) : Device :=
  let a := d.ringAddr
  d.modDir k fun x =>
    if x.origin then
      if h && o != a then { x with origin := false, head := false }
      else if !h && decide (o < a) then { x with origin := false, head := false }
      else { x with head := false }
    else if h && o == a then { x with origin := true, head := false }
    else x

/-- A direction is broken, or healed: event 497 (R889, R896). -/
def Device.ringBreak (d : Device) (k : Fin 2) (b : Bool) : Device :=
  if (d.ring.dirs[k]).broken = b then d
  else (d.modDir k fun x => { x with broken := b }).raise 497 [(2 * k.val + natOf (!b), 4)]

/-- Put a control or ack slot in line on a direction. -/
def Device.ringQueue (d : Device) (k : Fin 2) (b : List Byte) : Device := d.modDir k fun x => { x with queue := x.queue ++ [b] }

/-- A slot body: ADDR, FLAGS, XFER_ID, FRAG and PAYLOAD. -/
def slotBody (src dst flags xfer frag : Nat) (payload : List Byte) : List Byte :=
  leBytes 1 (16 * (src % 16) + dst % 16) ++ leBytes 1 flags ++ leBytes 2 xfer ++ leBytes 4 frag ++ padTo 64 payload

/-- An ack slot: FLAGS 0 carries NEXT in FRAG, 1 rejects with a code, 2 is the final ack with the receiver's turn. -/
def Device.ringAck (d : Device) (dst flags xfer next : Nat) (payload : List Byte) : Device :=
  match d.ringRoute dst with
  | some k => d.ringQueue k (2 :: slotBody d.ringAddr dst flags xfer next payload)
  | none => d

/-! ### Sending (R883, R886) -/

/-- Fragments of a transfer: 0 to ceil(DATA_LEN / 64). -/
def RingTx.count (x : RingTx) : Nat := (x.len + 63) / 64 + 1

/-- Firmware queues the next fragment of a transfer, where the window of 64 and the queue allow it. A source that cannot be read
ends the transfer as R732 says. -/
def Device.txFragment (d : Device) (x : RingTx) : Device :=
  let i := x.queued
  if x.count ≤ i ∨ x.acked + 64 ≤ i ∨ 1024 ≤ d.txqDepth then d
  else
    let n := min 64 (x.len - 64 * (i - 1))
    let (a, d) := if i = 0 then (⟨0, 0, leBytes 4 x.len ++ leBytes 4 x.remote ++ leBytes 4 x.tag⟩, d) else d.fwRead (x.src + 64 * (i - 1)) n
    if a.code ≠ 0 then ((d.txEnd x).raise 502 [(if a.code = 3 then 0x87 else 0x86, 8)]).completeBus x.cid a
    else
      let flags := natOf (i == 0) + 2 * natOf (i + 1 == x.count)
      let d := d.setBytes (txqEntry (d.ring.txHead + d.txqDepth)) (bodyEntry (slotBody d.ringAddr x.dst flags x.xfer i a.data))
      (d.setTxq (d.txqDepth + 1)).modTx x.cid fun y => { y with queued := i + 1 }

/-- Firmware queues what the windows allow of every transfer. -/
def Device.txPump (d : Device) : Device :=
  d.ring.txs.foldl (fun d x =>
    iter 64 (fun _ (d : Device) => match d.ring.txs.find? fun y => y.cid = x.cid with | some y => d.txFragment y | none => d) d) d

/-- Sending restarts from fragment `next` (R886). -/
def Device.txRestart (d : Device) (x : RingTx) (next : Nat) : Device :=
  (d.txqDrop x.xfer next).modTx x.cid fun y => { y with sent := next, queued := next, resent := y.resent + (y.sent - next) }

/-! ### A slot arrives (R869, R872 to R875) -/

/-- A slot whose contents are addressed to this device, or that must go no further: what it leaves here, and whether it goes on. -/
def Device.slotArrive (d : Device) (k : Fin 2) (kind hops : Nat) (body : List Byte) (good : Bool) : Bool × Device :=
  let src := leAt body 0 1 / 16
  let dst := leAt body 0 1 % 16
  let a := d.ringAddr
  if kind = 3 then
    if src = a then (false, d) else (false, d.ringQueue (otherDir k) (3 :: body))
  else if kind = 0 then (false, d)
  else if hops = 15 ∨ src = a then (false, d)
  else if dst = a then
    (false, if good then { d with ring := { d.ring with inbox := d.ring.inbox ++ [BitVec.ofNat 8 kind :: body] } } else d)
  else (true, d)

/-- A slot arrives on direction `k`: symbols 1 to 87. -/
def Device.ringSlot (d : Device) (k : Fin 2) (sym : List Byte) : Device :=
  if !d.ringOn then d
  else
    let kind := leAt sym 0 1
    let origin := leAt sym 1 1 % 16
    let hops := leAt sym 2 1 % 16
    let p := leAt sym 3 2
    let c := leAt sym 5 2
    let f := leAt sym 7 2
    let body := (sym.drop 11).take 72
    let pcrc := (sym.drop 83).take 4
    if leAt sym 9 2 ≠ wcrc (sym.take 9) then
      let d := d.incFld Fld.ringErrCrc
      d.emit (.ringSend k (slotSymbols (d.ringHead k 0 (bitOf kind 2) origin ((hops + 1) % 16) p c f) body pcrc))
    else
      let d := (d.ringBreak k false).originRule k (bitOf kind 2) origin
      let d := d.modDir k fun x =>
        { x with up := true, present := BitVec.ofNat 16 p, cand := BitVec.ofNat 16 c, fault := BitVec.ofNat 16 f }
      let (on_, d) := d.slotArrive k (kind % 4) hops body (leOf pcrc == crc32c body)
      let d := d.ringRefresh
      (d.ringEmit k (if on_ then kind else kind / 4 * 4) origin ((hops + 1) % 16) p c f body pcrc).txPump

/-- No valid slot has arrived on direction `k` for 3.072 µs (R872): the device becomes its origin with HEAD = 1 and emits its own
slot train, one slot each time. -/
def Device.ringBroken (d : Device) (k : Fin 2) : Device :=
  if !d.ringOn then d
  else
    let d := d.ringBreak k true
    let d := d.modDir k fun x => { x with origin := true, head := true, up := false, present := 0, cand := 0, fault := 0 }
    let d := d.ringRefresh
    (d.ringEmit k 4 d.ringAddr 0 0 0 0 [] []).txPump

end Sys2Proof.Machine
end

