-- ==== Sys2Proof/Machine/RingCmds.lean ====
section
/-! DEFINITION. Commands of the Yelaval ring: slots, markers, triggers, transfers, and Heartwood's RING_CFG and RING_SEND
(R869 to R896). -/

namespace Sys2Proof.Machine

/-! ### Slots and directions -/

/-- RING_SLOT_RECEIVE: symbols 1 to 87 of a slot (R868). -/
def execRingSlotReceive (dir : Fin 2) (symbols : List Byte) (s : State) : Host.Outcome State Fault Refusal :=
  actOn s fun d => if symbols.length = 87 then d.ringSlot dir symbols else d

/-- RING_DIRECTION_BROKEN. -/
def execRingDirectionBroken (dir : Fin 2) (s : State) : Host.Outcome State Fault Refusal := actOn s fun d => d.ringBroken dir

/-! ### Link delay (R880) -/

/-- RING_LINKDLY of a direction. -/
def Fld.linkDly (k : Fin 2) : Fld := if k = 0 then Fld.ringLinkdlyEIn else Fld.ringLinkdlyWIn

/-- Ingress link delay of a direction: 4.0 ns where never measured. -/
def Device.linkDelay (d : Device) (k : Fin 2) : Nat := if (d.ring.dirs[k]).measured then d.fld (Fld.linkDly k) else 32

/-- A measurement of an input lane ends; with the reverse lane down the last value stays. -/
def Device.echo (d : Device) (k : Fin 2) (flight : Nat) (up : Bool) : Device :=
  if !d.ringOn || !up then d
  else
    let d := (d.setFld (Fld.linkDly k) (min 0xFFFF flight)).modDir k fun x => { x with measured := true }
    if 64 < flight then d.raise 500 [(k.val, 4)] else d

/-- ECHO_MEASURE: `flight` in units of 0.125 ns. -/
def execEchoMeasure (dir : Fin 2) (flight : Nat) (up : Bool) (s : State) : Host.Outcome State Fault Refusal :=
  actOn s fun d => d.echo dir flight up

/-! ### Markers (R870, R871, R877 to R881, R893) -/

/-- The data symbols of a marker before CHK. -/
def markerBytes (src turn due : Nat) : List Byte := leBytes 1 src ++ leBytes 8 turn ++ leBytes 2 due

/-- Send a sequence on a direction: its K-code, its data symbols and CHK. -/
def Device.sendSequence (d : Device) (k : Fin 2) (code : Nat) (bs : List Byte) : Device :=
  d.emit (.ringSend k (code :: bs.map (·.toNat) ++ [chk8 bs]))

/-- The master announces its next tick on both directions (R878). -/
def Device.markerEmit (d : Device) (due : Nat) : Device :=
  if !d.ringOn || !d.flag Fld.ringStatusMaster || !d.flag Fld.turnCtlRun then d
  else
    let b := markerBytes d.ringAddr ((d.turnCount + 1) % 2 ^ 64) due
    let d := { d with ring := { d.ring with announced := some (80 * d.now + due) } }
    (d.sendSequence 0 kMarker b).sendSequence 1 kMarker b

/-- TICK_MARKER_EMIT. -/
def execTickMarkerEmit (due : BitVec 16) (s : State) : Host.Outcome State Fault Refusal := actOn s fun d => d.markerEmit due.toNat

/-- The device takes its ticks from markers: the ring source governs, the generator runs, and it is not master (R877, R881). -/
def Device.follows (d : Device) : Bool :=
  d.fld Fld.turnStatusSrcCur == 2 && d.flag Fld.turnCtlRun && !d.flag Fld.ringStatusMaster

/-- The REFCLK edge nearest to an instant in units of 0.125 ns; exactly halfway, the earlier one (R881). -/
def nearestEdge (i : Int) : Int := (i + 39) / 80

/-- A follower places the tick that a marker announces: arrival at `phase` after the REFCLK edge `now`, in units of 0.125 ns; one whose
instant has passed comes with the next edge (R893). -/
def Device.placeTick (d : Device) (k : Fin 2) (turn : BitVec 64) (due phase : Nat) : Device :=
  let i : Int := (80 * d.now + phase + due : Nat) - (d.linkDelay k : Nat)
  let d := d.wr Reg.ringTickOfs (((i - 80 * nearestEdge i) % 65536).toNat)
  let d := d.setFlag Fld.ringStatusTickFollow true
  let late := i < 80 * (d.now : Int)
  let d := { d with turn := { d.turn with ringTurn := some turn, ringEdge := if late then d.now + 1 else (nearestEdge i).toNat } }
  if late then d.raise 499 [(1, 4)] else d

/-- A marker arrives. It is dropped where CHK fails or SRC is this device, else forwarded with DUE reduced; the first copy for a turn
acts. -/
def Device.markerReceive (d : Device) (k : Fin 2) (src : Nat) (turn : BitVec 64) (due chk phase held : Nat) : Device :=
  if !d.ringOn then d
  else if chk8 (markerBytes src turn.toNat due) ≠ chk then d.incFld Fld.ringErrCrc
  else if src = d.ringAddr then d
  else
    let out : Int := (due : Int) - (d.linkDelay k : Nat) - held
    let d := d.sendSequence k kMarker (markerBytes src turn.toNat (out % 65536).toNat)
    if d.ring.marker = some turn then d
    else
      let d := { d with ring := { d.ring with marker := some turn } }
      if d.follows then d.placeTick k turn due phase else d

/-- TICK_MARKER_RECEIVE. -/
def execTickMarkerReceive (dir : Fin 2) (src : Fin 16) (turn : BitVec 64) (due : BitVec 16) (chk : BitVec 8) (phase : Fin 80)
    (held : Nat) (s : State) : Host.Outcome State Fault Refusal :=
  actOn s fun d => d.markerReceive dir src.val turn due.toNat chk.toNat phase.val held

/-- The instant of a turn passes without a marker: no tick, RING_ERR.MISS and event 499 (R881). -/
def Device.markerMissed (d : Device) : Device :=
  if !d.ringOn || !d.follows || d.turn.ringTurn.isSome then d
  else ((d.setFlag Fld.ringStatusTickFollow false).incFld Fld.ringErrMiss).raise 499 [(0, 4)]

/-- MARKER_MISSED. -/
def execMarkerMissed (s : State) : Host.Outcome State Fault Refusal := actOn s Device.markerMissed

/-! ### Triggers (R799, R802, R806, R871, R882) -/

/-- The data symbols of a trigger sequence before CHK. -/
def triggerBytes (src seq : Nat) (aligned : Bool) (tick : Nat) : List Byte :=
  leBytes 1 src ++ leBytes 1 seq ++ leBytes 1 (natOf aligned) ++ leBytes 8 tick

/-- A ring trigger reaches the Scribe engine: ALIGNED latches at the tick it names, or at the next one where that has passed or ADOPT
is 0. -/
def Device.ringScribe (d : Device) (aligned : Bool) (tick : Nat) : Device :=
  if !d.flag Fld.scribeCtlRingInEn then d
  else if !aligned then d.trigger 3 d.now false none
  else if !d.flag Fld.turnCtlAdopt then d.trigger 3 d.now true none
  else if d.turnCount < tick then d.trigger 3 d.now true (some tick)
  else ((d.trigger 3 d.now true none).setFlag Fld.scribeStatusLate true).raise 509 [(1, 4)]

/-- A trigger sequence arrives: dropped, forwarded, and acted on once (R871). -/
def Device.triggerReceive (d : Device) (k : Fin 2) (src seq : Nat) (aligned : Bool) (tick chk : Nat) : Device :=
  let b := triggerBytes src seq aligned tick
  if !d.ringOn then d
  else if chk8 b ≠ chk then d.incFld Fld.ringErrCrc
  else if src = d.ringAddr then d
  else
    let d := d.sendSequence k kTrigger b
    if (src, seq) ∈ d.ring.seen then d
    else
      let d := { d with ring := { d.ring with seen := ((src, seq) :: d.ring.seen).take 128 } }
      d.ringScribe aligned tick

/-- RING_TRIGGER. -/
def execRingTrigger (dir : Fin 2) (src : Fin 16) (seq : BitVec 8) (aligned : Bool) (tick : BitVec 64) (chk : BitVec 8) (s : State) :
    Host.Outcome State Fault Refusal :=
  actOn s fun d => d.triggerReceive dir src.val seq.toNat aligned tick.toNat chk.toNat

/-! ### Receiving transfers (R885) -/

/-- The oldest body of kind `kind` that was delivered, taken off the list. -/
def Device.takeBody (d : Device) (kind : Nat) : Option (List Byte) × Device :=
  let hit := fun (b : List Byte) => leAt b 0 1 == kind
  match d.ring.inbox.find? hit with
  | some b => (some (b.drop 1), { d with ring := { d.ring with inbox := d.ring.inbox.eraseP hit } })
  | none => (none, d)

/-- The transfer being received from a sender under an XFER_ID. -/
def Device.rxOf (d : Device) (src xfer : Nat) : Option RingRx := d.ring.rxs.find? fun r => r.src == src && r.xfer == xfer

/-- Store a transfer being received. -/
def Device.setRx (d : Device) (r : RingRx) : Device :=
  { d with ring := { d.ring with rxs := (d.ring.rxs.filter fun x => !(x.src == r.src && x.xfer == r.xfer)) ++ [r] } }

/-- An accepted fragment enters the receive queue; the 16th since the last ack is acknowledged. -/
def Device.rxAccept (d : Device) (r : RingRx) (body : List Byte) : Device :=
  let d := d.setBytes (rxqEntry (d.ring.rxHead + d.rxqDepth)) (bodyEntry body)
  let d := d.setRxq (d.rxqDepth + 1)
  let r := { r with next := r.next + 1, since := r.since + 1 }
  if r.since < 16 then d.setRx r else (d.setRx { r with since := 0 }).ringAck r.src 0 r.xfer r.next []

/-- A data slot is served: fragment 0 is judged, later ones are accepted in order only. -/
def Device.fragment (d : Device) (body : List Byte) : Device :=
  let src := leAt body 0 1 / 16
  let xfer := leAt body 2 2
  let frag := leAt body 4 4
  let r := (d.rxOf src xfer).getD ⟨src, xfer, leAt body 8 4, leAt body 12 4, 0, 0⟩
  let lim := d.fld Fld.ringRxLenLen
  if frag < r.next then d
  else if r.next < frag then d.ringAck src 0 xfer r.next []
  else if frag = 0 ∧ (!d.fldBit Fld.ringRxSrcmaskMask src ∨ lim < r.len ∨ lim < r.remote + r.len) then d.ringAck src 1 xfer 0 [0xB4]
  else if 1024 ≤ d.rxqDepth then d
  else d.rxAccept r body

/-- FRAGMENT_RECEIVE. -/
def execFragmentReceive (s : State) : Host.Outcome State Fault Refusal :=
  actOn s fun d => if !d.ringOn then d else
    match d.takeBody 1 with
    | (some b, d) => d.fragment b
    | (none, d) => d

/-- RING_RXQ_POP: firmware has copied the head's data to RING_RX_BASE + REMOTE_OFFSET in Bench memory, and pops it. -/
def Device.rxqPop (d : Device) : Device :=
  if d.rxqDepth = 0 then d.setFlag Fld.ringRxqStatusUnderflow true
  else
    let e := d.bytes (rxqEntry d.ring.rxHead) 128
    let frag := leAt e 4 4
    let d := match d.rxOf (leAt e 0 1 / 16) (leAt e 2 2) with
      | some r =>
        if frag = 0 ∨ !d.fwRuns then d
        else
          let at_ := 64 * d.fld Fld.ringRxBaseBase + r.remote + 64 * (frag - 1)
          (d.fwWrite (benchBase + at_) (((e.drop 16).take 64).take (r.len - 64 * (frag - 1)))).2
      | none => d
    let d := d.setRxq (d.rxqDepth - 1)
    { d with ring := { d.ring with rxHead := (d.ring.rxHead + 1) % 1024 } }

/-- RING_RXQ_POP. -/
def execRingRxqPop (s : State) : Host.Outcome State Fault Refusal := actOn s Device.rxqPop

/-- A push of the transmit queue counts an entry written in T7 (R217). -/
def Device.txqPush (d : Device) : Device :=
  if 1024 ≤ d.txqDepth then d.setFlag Fld.ringTxqStatusOverflow true else d.setTxq (d.txqDepth + 1)

/-- RING_TXQ_PUSH. -/
def execRingTxqPush (s : State) : Host.Outcome State Fault Refusal := actOn s Device.txqPush

/-- A write of RING_RX_DONE: the final ack with the turn counter, and event 501. -/
def Device.rxDone (d : Device) (v : Nat) : Device :=
  let src := bitsOf v 16 4
  let xfer := bitsOf v 0 16
  match d.rxOf src xfer with
  | some r =>
    let d := { d with ring := { d.ring with rxs := d.ring.rxs.filter fun x => !(x.src == src && x.xfer == xfer) } }
    (d.ringAck src 2 xfer r.next (leBytes 4 (d.rd Reg.turnCountLo))).raise 501 [(xfer, 16)]
  | none => d

/-- RING_RX_DONE. -/
def execRingRxDone (data : Word) (s : State) : Host.Outcome State Fault Refusal := actOn s fun d => d.rxDone data.toNat

/-! ### Acks and timeouts of transfers being sent (R886, R888) -/

/-- The DEST block of RING_SEND. -/
def RingTx.result (x : RingTx) (turn : Nat) : List Byte :=
  leBytes 2 x.xfer ++ leBytes 1 x.used ++ [0] ++ leBytes 4 x.resent ++ leBytes 4 turn ++ leBytes 4 0

/-- The transfer ends with its final ack: DEST and OUT_LEN. -/
def Device.txDone (d : Device) (x : RingTx) (turn : Nat) : Device :=
  match d.cmd x.cid with
  | some c => (d.txEnd x).completeDest x.cid (c.f 0x20 8) (x.result turn)
  | none => d.txEnd x

/-- A progress ack: the acknowledged count rises, and sending restarts where NEXT lies below the fragments sent. -/
def Device.txAck (d : Device) (x : RingTx) (next : Nat) : Device :=
  let y := if x.acked < next then { x with acked := next, timeouts := 0 } else x
  let d := d.modTx x.cid fun _ => y
  if next < y.sent then d.txRestart y next else d

/-- An ack slot is served. -/
def Device.ackServe (d : Device) (body : List Byte) : Device :=
  let src := leAt body 0 1 / 16
  match d.ring.txs.find? fun x => x.xfer == leAt body 2 2 && x.dst == src with
  | some x =>
    if leAt body 1 1 = 2 then d.txDone x (leAt body 8 4)
    else if leAt body 1 1 = 1 then d.txFail x (leAt body 8 1)
    else (d.txAck x (leAt body 4 4)).txPump
  | none => d

/-- ACK_RECEIVE. -/
def execAckReceive (s : State) : Host.Outcome State Fault Refusal :=
  actOn s fun d => if !d.ringOn then d else
    match d.takeBody 2 with
    | (some b, d) => d.ackServe b
    | (none, d) => d

/-- The acknowledged count of a transfer has not advanced for 50 µs: the eighth time in a row ends it. -/
def Device.txTimeout (d : Device) (xfer : Nat) : Device :=
  match d.ring.txs.find? fun x => x.xfer == xfer with
  | some x =>
    if 7 ≤ x.timeouts then d.txFail x 0xB3
    else
      let y := { x with timeouts := x.timeouts + 1 }
      ((d.modTx x.cid fun _ => y).txRestart y y.acked).txPump
  | none => d

/-- RETRANSMIT_TIMEOUT. -/
def execRetransmitTimeout (xfer : BitVec 16) (s : State) : Host.Outcome State Fault Refusal :=
  actOn s fun d => d.txTimeout xfer.toNat

/-! ### RING_CFG and RING_SEND (R887, R888) -/

/-- The RING_CONFIG record's contents take effect: RING_CTL and the receive window. -/
def Device.ringLoad (d : Device) (b : List Byte) : Device :=
  let d := d.setFld Fld.ringCtlAddr (leAt b 0 1)
  let d := (d.setFlag Fld.ringCtlEn (bitOf (leAt b 1 1) 0)).setFlag Fld.ringCtlCand (bitOf (leAt b 1 1) 1)
  let d := (d.wr Reg.ringRxBase (leAt b 4 4)).wr Reg.ringRxLen (leAt b 8 4)
  (d.wr Reg.ringRxSrcmask (leAt b 12 2)).ringRefresh

/-- An address is present from another device. -/
def Device.ringTaken (d : Device) (a : Nat) : Bool :=
  a != d.ringAddr && ((d.ring.dirs[0]).present.getLsbD a || (d.ring.dirs[1]).present.getLsbD a)

/-- The code of a RING_CFG SET source. -/
def Device.ringCfgCode (d : Device) (b : List Byte) : Nat :=
  if b.length ≠ 16 ∨ 15 < leAt b 0 1 ∨ 3 < leAt b 1 1 ∨ leAt b 2 2 ≠ 0 ∨ leAt b 14 2 ≠ 0 then 0xB5
  else if leAt b 4 4 % 64 ≠ 0 ∨ benchSize < leAt b 4 4 + leAt b 8 4 ∨ benchSize ≤ leAt b 4 4 ∨ 0x7FFFFF < leAt b 8 4 then 0xB5
  else if d.ringTaken (leAt b 0 1) then 0xB2
  else 0

/-- RING_CFG SET: the registers, then the record. -/
def Device.cmdRingCfg (d : Device) (c : HwdCmd) : Device :=
  let (a, d) := d.fwRead (c.f 0x10 8) (c.f 0x18 4)
  if a.code ≠ 0 then d.completeBus c.cid a
  else if d.ringCfgCode a.data ≠ 0 then d.complete c.cid (d.ringCfgCode a.data) []
  else
    let (code, d) := (d.ringLoad a.data).recordWrite 0x0210 a.data
    d.complete c.cid code (if code = 0 then leBytes 4 0 else [])

/-- RING_CFG_SET. -/
def execRingCfgSet (cid : Nat) (s : State) : Host.Outcome State Fault Refusal :=
  hwdRow cid 0x61 (fun c => c.f 0x08 1 == 1) (fun c d => d.cmdRingCfg c) s

/-- RING_CFG MEASURE: an ECHO is sent on each direction for the input lane of the other. -/
def Device.cmdRingMeasure (d : Device) (c : HwdCmd) : Device :=
  if !d.ringOn then d.complete c.cid 0xB0 []
  else
    let b : List Byte := 3 :: slotBody d.ringAddr d.ringAddr 1 0 0 []
    ((d.ringQueue 0 b).ringQueue 1 b).complete c.cid 0 (leBytes 4 0)

/-- RING_CFG_MEASURE. -/
def execRingCfgMeasure (cid : Nat) (s : State) : Host.Outcome State Fault Refusal :=
  hwdRow cid 0x61 (fun c => c.f 0x08 1 == 2) (fun c d => d.cmdRingMeasure c) s

/-- The code of a RING_SEND head (R888). -/
def Device.ringSendCode (d : Device) (b : List Byte) (srcLen : Nat) : Nat :=
  if !d.ringOn || !d.flag Fld.ringStatusUp then 0xB0
  else if srcLen < 17 ∨ 15 < leAt b 0 1 ∨ 2 < leAt b 1 1 ∨ leAt b 2 2 ≠ 0 ∨ leAt b 12 4 = 0 ∨ 0x400000 < leAt b 12 4 ∨
      srcLen ≠ 16 + leAt b 12 4 then 0xB5
  else if leAt b 1 1 = 0 ∧ (d.ringRoute (leAt b 0 1)).isNone then 0xB1
  else 0

/-- RING_SEND: the transfer begins, and completes at its final ack or failure. -/
def Device.cmdRingSend (d : Device) (c : HwdCmd) : Device :=
  let (a, d) := d.fwRead (c.f 0x10 8) (min 16 (c.f 0x18 4))
  let code := d.ringSendCode a.data (c.f 0x18 4)
  if a.code ≠ 0 then d.completeBus c.cid a
  else if c.f 0x28 4 < 16 then d.complete c.cid 0x81 []
  else if code ≠ 0 then d.complete c.cid code []
  else
    let b := a.data
    let x : RingTx := ⟨c.cid, leAt b 0 1, leAt b 1 1, (d.ring.xfers + 1) % 2 ^ 16, c.f 0x10 8 + 16, leAt b 12 4, leAt b 8 4,
      leAt b 4 4, 0, 0, 0, 0, 0, 0⟩
    let d := { d with ring := { d.ring with xfers := x.xfer, txs := d.ring.txs ++ [x] } }
    (d.stageCmd c.cid 1).txPump

/-- RING_SEND. -/
def execRingSend (cid : Nat) (s : State) : Host.Outcome State Fault Refusal :=
  hwdRow cid 0x62 (fun c => c.f 0x08 1 == 1) (fun c d => d.cmdRingSend c) s

end Sys2Proof.Machine
end

