-- ==== Sys2Proof/Machine/BootCmds.lean ====
section
/-! DEFINITION. The boot ROM, command-ready, and autoload (R735 to R738, R757, R944 to R949). -/

namespace Sys2Proof.Machine

/-! ### BOOT (R735) -/

/-- The boot ROM halts: BOOT_FAIL and event 457 with the step. -/
def Device.bootFail (d : Device) (step : Nat) : Device :=
  { ((d.setFlag Fld.hwdStatusBootFail true).raise 457 [(step, 4)]) with hwd := { d.hwd with boot := 3 } }

/-- A copy is read and checked: whether it is accepted, and its bytes. -/
def Device.bootCheck (d : Device) (copy : Nat) : Bool × List Byte × Device :=
  let (a, d) := d.readCopy (copy * 0x1000000) 0x1000000
  (a.code == 0 && d.copyCode a.data == 0, a.data, d)

/-- Firmware of an accepted copy starts. -/
def Device.bootInto (d : Device) (copy : Nat) (bs : List Byte) : Device :=
  let len := leAt bs 0x0C 4
  let d := (d.setFld Fld.hwdStatusBootCopy copy).setFld Fld.hwdFwVersionVersion (leAt bs 0x04 4)
  let d := (d.setFld Fld.hwdSvnSvn (leAt bs 0x08 4)).setFld Fld.hwdRollbackCounter d.rollback
  { d with hwd := { d.hwd with boot := 2, copyLen := len, fwHash := Config.sha384 (bs.take (0x100 + len)) } }

/-- The boot ROM's steps, once Grain channel D and the resident store are ready; the OTP check needs neither. -/
def Device.bootRom (d : Device) : Device :=
  if d.warm || d.hwd.boot != 1 || d.safety.test == 2 then d
  else if !d.flag Fld.secStatusOtpOk then d.bootFail 1
  else if !d.flag Fld.devReadyAon || !d.flag Fld.devReadyGrainD || !d.flag Fld.devReadyResident then d
  else
    let d := d.findHead
    let pref := match d.recordRead 0x0002 with | some (_, p) => leAt p 0 1 % 2 | none => 0
    let (ok, bs, d) := d.bootCheck pref
    if ok then d.bootInto pref bs
    else
      let (ok, bs, d) := d.bootCheck (1 - pref)
      if ok then ((d.setFlag Fld.hwdStatusFallback true).raise 453 [(1 - pref, 1)]).bootInto (1 - pref) bs
      else d.bootFail 4

/-- BOOT. -/
def execBoot (s : State) : Host.Outcome State Fault Refusal := actOn s Device.bootRom

/-! ### COMMAND_READY (R736 to R738, R757, R772, R866, R937, R970) -/

/-- The recorded ACT image of a target, where all of its chunks are live. -/
def Device.actRecorded (d : Device) (t : Nat) : Option (List Byte) :=
  let slots := d.journal
  (List.range 12).foldl (fun (r : Option (List Byte)) j =>
    match r, liveRecord slots d.grain.jhead (actKeyOf t j) with
    | some bs, some (_, _, p) => some (bs ++ padTo 52 p)
    | _, _ => none) (some [])

/-- An ACT takes the contents of an image. -/
def Device.actLoad (d : Device) (t : Nat) (img : List Byte) : Device :=
  let d := iter 16 (fun r d =>
    (d.wr (Reg.actRgnBase t r) (Nat.land (leAt img (8 * r) 4) 0xFFFFF001)).wr (Reg.actRgnLimit t r)
      (Nat.land (leAt img (8 * r + 4) 4) 0xFFFFF000)) d
  iter 62 (fun i d =>
    (d.wr (Reg.actEntKey t (i + 2)) (Nat.land (leAt img (128 + 8 * i) 4) 0x81FF003F)).wr (Reg.actEntPerm t (i + 2))
      (leAt img (132 + 8 * i) 4)) d

/-- The "Default grants" table: LIMIT of region 0 and the KEYs from entry 2 on. -/
def defaultGrants (t : Nat) : Option (Nat × List Nat) :=
  if t = 1 then some (0x007FF000, [0x80010000, 0x80020020, 0x8010003D])
  else if t = 2 then some (0x0011F000, [0x80010000, 0x80020020])
  else if t = 6 then some (0x00FFF000, [0x80010000, 0x80020020, 0x8010003D])
  else none

/-- The default grants of a target are installed; every other region and entry stays at its reset value. -/
def Device.actDefault (d : Device) (t : Nat) : Device :=
  match defaultGrants t with
  | none => d
  | some (limit, keys) =>
    let d := (d.wr (Reg.actRgnBase t 0) 1).wr (Reg.actRgnLimit t 0) limit
    keys.zipIdx.foldl (fun d x => (d.wr (Reg.actEntKey t (x.2 + 2)) x.1).wr (Reg.actEntPerm t (x.2 + 2)) 0x00010001) d

/-- The priorities take the recorded values: true where the record is absent. -/
def Device.priRestore (d : Device) : Bool × Device :=
  match d.recordRead 0x0180 with
  | none => (true, d)
  | some (_, p) =>
    (false, iter 8 (fun t d => (d.wr (Reg.bmxPriLo t) (leAt p (5 * t) 4)).wr (Reg.bmxPriHi t) (leAt p (5 * t + 4) 1 % 16)) d)

/-- Restore of every ACT and priority, defaults where records lack, the grants of bound slots, and the record of the result; then
ACT_RESTORED. -/
def Device.actRestore (d : Device) : Device :=
  let r := iter 8 (fun t (x : Nat × Device) =>
    match x.2.actRecorded t with
    | some img => (x.1, x.2.actLoad t img)
    | none => (x.1 + 2 ^ t, x.2.actDefault t)) (0, d)
  let (noPri, d) := r.2.priRestore
  let d := if r.1 = 0 ∧ noPri = false then d else (d.setFlag Fld.hwdStatusDefaultGrants true).raise 454 [(r.1, 8)]
  let d := d.forSlots allSlots fun n d =>
    match (d.slot n).binding with
    | some (p, v) => d.grantSlot n p v
    | none => d
  let d := (iter 8 (fun t d => d.actRecord t) d).recordChanged 0x0180 d.priImage
  d.setFlag Fld.bmxCtlActRestored true

/-- An autoload that a warm reset abandoned is recorded; where none will run, DEV_READY says so (R940, R944, R949). -/
def Device.autoAtReady (d : Device) : Device :=
  let warm := decide (5 ≤ d.fld Fld.devBootCauseCause)
  let d := if warm && d.flag Fld.devAutoloadRunning then
      ((d.setFlag Fld.devAutoloadAbandoned true).setFlag Fld.devAutoloadDone true).setFlag Fld.devAutoloadRunning false
    else d
  if warm || d.fld Fld.devStrapBootSel == 0 then d.setFlag Fld.devReadyAutoload true else d

/-- Firmware reports command-ready. The loader's job ring lies where firmware puts it, which the spec leaves open: a free value. -/
def Device.commandReady (d : Device) : Device :=
  if d.warm || d.hwd.boot != 2 || d.flag Fld.hwdStatusCmdReady then d
  else
    let d := (d.setFlag Fld.hwdStatusCmdReady true).setFlag Fld.devReadyHwd true
    let d := d.raise 452 [(d.fld Fld.hwdStatusBootCopy, 1)]
    let svn := d.fld Fld.hwdSvnSvn
    let d := if d.rollback < svn then ((d.recordWrite 0x0001 (leBytes 4 svn)).2).setFld Fld.hwdRollbackCounter svn else d
    let (base, d) := d.free
    let d := d.setFld Fld.ldrJqBaseBase base
    let d := d.setFld Fld.secMinEndorseSerial (match d.recordRead 0x0200 with | some (_, p) => leAt p 0 4 | none => 0)
    let d := match d.recordRead 0x0210 with
      | some (_, p) => d.ringLoad p
      | none => d
    ((d.safeRelease 0x3E).actRestore).autoAtReady

/-- COMMAND_READY. -/
def execCommandReady (s : State) : Host.Outcome State Fault Refusal := actOn s Device.commandReady

/-! ### AUTOLOAD (R944 to R949) -/

/-- Internal address of the directory that BOOT_SEL names. -/
def autoDirectory (bootSel : Nat) : Nat := if bootSel = 3 then 0x01FF0000 else 0x00FF0000

/-- The directory keeps the rules of R946. -/
def autoValid (h es : List Byte) : Bool :=
  h.take 4 == ascii "GDNA" && leAt h 4 1 == 1 && decide (leAt h 5 1 ≤ 16) && leAt h 7 1 == 0 &&
    ((h.drop 0x10).take 44).all (· == 0) &&
    (List.range (leAt h 5 1)).all (fun i =>
      let e := (es.drop (64 * i)).take 64
      ((e.drop 6).take 2).all (· == 0) && ((e.drop 0x14).take 44).all (· == 0)) &&
    leAt h 0x3C 4 == crc32c (h.take 0x3C ++ es)

/-- Autoload has ended. -/
def Device.autoDone (d : Device) : Device :=
  let d := (d.setFlag Fld.devAutoloadRunning false).setFlag Fld.devAutoloadDone true
  { (d.setFlag Fld.devReadyAutoload true) with hwd := { d.hwd with auto := none } }

/-- Firmware reads the directory and begins, or finds it not valid. -/
def Device.autoStart (d : Device) : Device :=
  let a := autoDirectory (d.fld Fld.devStrapBootSel)
  let d := d.setFlag Fld.devAutoloadRunning true
  let bad := fun (d : Device) => (d.setFlag Fld.devAutoloadDirBad true).autoDone
  if d.torn (a / 0x10000) then bad d
  else
    let (h, d) := d.fwRead a 64
    let n := min 16 (leAt h.data 5 1)
    let (e, d) := d.fwRead (a + 64) (64 * n)
    if h.code ≠ 0 ∨ e.code ≠ 0 ∨ !autoValid h.data e.data then bad d
    else
      let es := (List.range n).map fun i => (e.data.drop (64 * i)).take 64
      { (d.setFld Fld.devAutoloadCount n) with hwd :=
        { d.hwd with auto := some { header := h.data, entries := es, next := 0, loading := none, armed := [], phase := 0, results := [] } } }

/-- An entry of the directory fails with a code. -/
def Device.autoFail (d : Device) (e code : Nat) : Device :=
  (d.setFld (Fld.devAutoloadErrCode (e / 4) (e % 4)) code).setFldBit Fld.devAutoloadFailed e true

/-- The entry's member 0 and its members. -/
def autoSlots (e : List Byte) : List (Fin 16) :=
  if leAt e 0 1 = 0 then [slotOf (leAt e 1 1)] else groupSlots (leAt e 0 1) (leAt e 1 1)

/-- Steps 1 to 3 of an entry: the code with which one of them ended it, or 0 where its load job is placed. -/
def Device.autoLoad (d : Device) (i : Nat) (e : List Byte) : Nat × Device :=
  let n := slotOf (leAt e 1 1)
  if 3 < leAt e 0 1 ∨ 15 < leAt e 1 1 ∨ 1 < leAt e 2 1 ∨ leAt e 3 1 = 0 ∨ 16 < leAt e 3 1 then (0x81, d)
  else
    let (c, d) := if leAt e 0 1 = 0 then (0, d) else d.joinGroup (leAt e 0 1) n
    if c ≠ 0 then (c, d)
    else
      let (c, d) := d.bindSlot n (if leAt e 2 1 = 0 then 0 else 1) (leAt e 3 1) true
      if c ≠ 0 then (c, d)
      else
        let mask := (autoSlots e).foldl (fun m (n : Fin 16) => m + 2 ^ n.val) 0
        (0, ((d.actSettle 4).placeJob i (jobEntry 1 1 mask 0 (leAt e 8 8) (leAt e 0x10 4) 0 0)).2)

/-- Steps 4 and 5 of an entry: its first activation is armed, and its idle settings are written. -/
def Device.autoArm (d : Device) (i : Nat) (e : List Byte) : Nat × Device :=
  let n := slotOf (leAt e 1 1)
  let (c, d) := d.swapMask ((autoSlots e).foldl (fun m (n : Fin 16) => m + 2 ^ n.val) 0) 0 false 0 (some i)
  if c ≠ 0 then (c, d)
  else (0, (d.setFlag (Fld.pwrSlotAutoRetain n) (bitOf (leAt e 4 1) 1)).setFld (Fld.pwrSlotIdleTurns n) (leAt e 5 1))

/-- Keep the state of autoload. -/
def Device.setAuto (d : Device) (j : AutoJob) : Device := { d with hwd := { d.hwd with auto := some j } }

/-- The code with which an operation of an entry has ended, taken from the results. -/
def AutoJob.take (j : AutoJob) (e : Nat) : Option (Nat × AutoJob) :=
  match j.results.find? fun r => r.1 = e with
  | some r => some (r.2, { j with results := j.results.erase r })
  | none => none

/-- After the last entry: the turn settings and RUN (R947), but under BOOT_SEL 0b01 nothing. -/
def Device.autoTurn (d : Device) (h : List Byte) : Device :=
  let d := d.wr Reg.turnOvrPolicy (leAt h 0x0C 4)
  let d := d.turnPeriodWrite (leAt h 8 4)
  d.turnCtlWrite (withBit (withBits (d.rd Reg.turnCtl) 1 2 (leAt h 6 1)) 0 true)

/-- Every armed activation that succeeded is followed by a release where its entry asks for one. -/
def Device.autoReleases (d : Device) (j : AutoJob) : Device :=
  let r := j.entries.zipIdx.foldl (fun (x : List Nat × Device) e =>
    if bitOf (leAt e.1 4 1) 0 && !x.2.fldBit Fld.devAutoloadFailed e.2 then
      let (code, done, d) := x.2.request5 (slotOf (leAt e.1 1 1)) .release (some e.2)
      if done then (x.1, if code = 0 then d else d.autoFail e.2 code) else (x.1 ++ [e.2], d)
    else x) ([], d)
  r.2.setAuto { j with armed := r.1, phase := 2 }

/-- One step of autoload, where the results so far allow one. -/
def Device.autoOnce (d : Device) : Device :=
  match d.hwd.auto with
  | none => d
  | some j =>
    match j.loading with
    | some e =>
      match j.take e with
      | none => d
      | some (code, j) =>
        let j := { j with loading := none }
        if code ≠ 0 then (d.autoFail e code).setAuto j
        else
          let (c, d) := d.autoArm e ((j.entries[e]?).getD [])
          if c ≠ 0 then (d.autoFail e c).setAuto j else d.setAuto { j with armed := j.armed ++ [e] }
    | none =>
      if j.phase = 0 then
        match j.entries[j.next]? with
        | some e =>
          if 16 ≤ d.fld Fld.ldrJqStatusDepth then d
          else
            let (c, d) := d.autoLoad j.next e
            if c ≠ 0 then (d.autoFail j.next c).setAuto { j with next := j.next + 1 }
            else d.setAuto { j with next := j.next + 1, loading := some j.next }
        | none => if d.fld Fld.devStrapBootSel = 1 then d.autoDone else (d.autoTurn j.header).setAuto { j with phase := 1 }
      else
        match j.armed.findSome? fun e => (j.take e).map fun r => (e, r) with
        | some (e, code, j) =>
          let d := if code = 0 then d else d.autoFail e code
          d.setAuto { j with armed := j.armed.erase e }
        | none => if !j.armed.isEmpty then d else if j.phase = 1 then d.autoReleases j else d.autoDone

/-- Autoload goes as far as the results allow; it starts once ACT_RESTORED is set after a boot of the power-on class. -/
def Device.autoload (d : Device) : Device :=
  if !d.fwRuns || !d.flag Fld.bmxCtlActRestored || d.fld Fld.devStrapBootSel == 0 || decide (5 ≤ d.fld Fld.devBootCauseCause) ||
      d.flag Fld.devAutoloadDone then d
  else
    let d := if d.hwd.auto.isNone then d.autoStart else d
    iter 128 (fun _ d => d.autoOnce) d

/-- AUTOLOAD. -/
def execAutoload (s : State) : Host.Outcome State Fault Refusal := actOn s Device.autoload

end Sys2Proof.Machine
end

