-- ==== Sys2Proof/Machine/DmaCmds.lean ====
section
/-! DEFINITION. Commands of the DMA engines (chapter 13). -/

namespace Sys2Proof.Machine

/-- DMA_TAIL_WRITE (R531, R550, R905). -/
def execDmaTailWrite (slot : Fin 16) (data : Word) (s : State) : Host.Outcome State Fault Refusal :=
  actOn s fun d => d.dmaTail slot data.toNat

/-- DMA_DESCRIPTOR_FETCH (R532, R534). -/
def execDmaDescriptorFetch (slot : Fin 16) (status : Nat) (data : List Byte) (s : State) : Host.Outcome State Fault Refusal :=
  actOn s fun d => d.dmaFetch slot status data

/-- DMA_CHUNK (R532, R538, R548). -/
def execDmaChunk (slot : Fin 16) (s : State) : Host.Outcome State Fault Refusal := actOn s fun d => d.dmaChunk slot

/-- DMA_DESCRIPTOR_DONE (R532 step 4). -/
def execDmaDescriptorDone (slot : Fin 16) (s : State) : Host.Outcome State Fault Refusal :=
  actOn s fun d => if ((d.slot slot).chan).stage = 4 then d.dmaDone slot else d

/-- A write of DMA_CTL with RESUME (R534). -/
def Device.dmaResume (d : Device) (n : Fin 16) : Device := d.setFlag (Fld.dmaStatusHalted n) false

/-- DMA_RESUME. -/
def execDmaResume (slot : Fin 16) (s : State) : Host.Outcome State Fault Refusal := actOn s fun d => d.dmaResume slot

/-- DMA_COMPLETION_TIMEOUT (R521, R534). -/
def execDmaCompletionTimeout (slot : Fin 16) (s : State) : Host.Outcome State Fault Refusal :=
  actOn s fun d => if ((d.slot slot).chan).stage = 3 then d.dmaReadFail slot 3 else d

end Sys2Proof.Machine
end

