-- ==== Sys2Proof/Machine/EngineCmds.lean ====
section
/-! DEFINITION. The security engine's window: the operations of T3 and their ends ("T3 window" and "Engine operations" tables, R784 to
R789). -/

namespace Sys2Proof.Machine

/-- A write of ENG_OP by a TCID: TCID 0x3F may start HASH and RANDOM only. While an operation is in progress a write starts nothing,
and neither does an OP that the table does not list. -/
def Device.engineStart (d : Device) (tcid op : Nat) : Device :=
  if d.sec.engine.isSome || !d.flag Fld.devReadySec || op == 0 || decide (8 < op) then d
  else if tcid = 0x3F ∧ op ≠ 1 ∧ op ≠ 5 then d.setFld Fld.engStatusResult 0xA3
  else ({ d with sec := { d.sec with engine := some (tcid, op) } }).setFlag Fld.engStatusBusy true

/-- ENG_SRC. -/
def Device.engineSrc (d : Device) : Nat := d.fld Fld.engSrcLoSrcLo + 2 ^ 32 * d.fld Fld.engSrcHiSrcHi
/-- ENG_DST. -/
def Device.engineDst (d : Device) : Nat := d.fld Fld.engDstLoDstLo + 2 ^ 32 * d.fld Fld.engDstHiDstHi

/-- The result of an operation with output: 0xA7 where ENG_DST_LEN does not hold it or it cannot be written. -/
def Device.engineOut (d : Device) (out : List Byte) : Nat × Device :=
  if d.fld Fld.engDstLenLen < out.length then (0xA7, d)
  else
    let (a, d) := d.fwWrite d.engineDst out
    (if a.code = 0 then 0 else 0xA7, d)

/-- UNWRAP_IMAGE: a recipient entry of 176 bytes and IMAGE_HASH; the content key goes to the loader (R351, R352). -/
def Device.engineImage (d : Device) (e : List Byte) : Nat × Device :=
  if e.length ≠ 224 then (0xA7, d)
  else if !d.hasKak then (0xA3, d)
  else
    match gcmOpen (d.kek ((e.drop 16).take 96) "GDNI-KEK" (e.drop 176)) ((e.drop 112).take 12) d.keyId ((e.drop 124).take 32)
        ((e.drop 156).take 16) with
    | some key => (0, { d with sec := { d.sec with loaderKey := key } })
    | none => (0xA4, d)

/-- RECORD_KEY: a TENANT_ID and IMAGE_HASH; the record key goes to the Scribe engine (R773). -/
def Device.engineRecord (d : Device) (src : List Byte) : Nat × Device :=
  if src.length ≠ 64 then (0xA7, d)
  else
    match d.tskSlot (src.take 16) with
    | some i => (0, { d with sec := { d.sec with scribeKey := recordKeyOf (d.tsk i) (src.drop 16) } })
    | none => (0xA6, d)

/-- ERASE: source byte 0 is 1 for the state key of the TENANT_ID that follows, 2 for all, 3 for decommission (R778). -/
def Device.engineErase (d : Device) (src : List Byte) (verify : Bool) : Nat × Device :=
  if leAt src 0 1 = 1 ∧ src.length = 17 then d.tskDestroy (src.drop 1) verify
  else if leAt src 0 1 = 2 ∧ src.length = 1 then d.tskDestroyAll [] verify
  else if leAt src 0 1 = 3 ∧ src.length = 1 then
    (if verify then (0, d.tskEraseAll.keysErase.mirrorKeys.raise 471 []) else (0xAA, d))
  else (0xA7, d)

/-- What an operation yields on its source. -/
def Device.enginePerform (d : Device) (op : Nat) (src : List Byte) (verify : Bool) : Nat × Device :=
  if op = 1 then d.engineOut (padTo 48 (Config.sha384 src))
  else if op = 2 then
    (if src.length ≠ 240 then 0xA7
     else if Config.ecdsaVerifyDigest (src.take 96) (src.drop 192) ((src.drop 96).take 96) then 0 else 0xA1, d)
  else if op = 3 then d.engineImage src
  else if op = 4 then
    if src.length ≠ 48 then (0xA7, d)
    else if !d.hasIdk then (0xA3, d)
    else
      let (sig, d) := d.idkSignDigest src
      d.engineOut sig
  else if op = 5 then
    let n := d.fld Fld.engDstLenLen
    if n = 0 ∨ 64 < n then (0xA7, d)
    else
      let (r, d) := d.drbg n
      d.engineOut r
  else if op = 6 then
    let (code, _, d) := d.tskImport src verify
    (code, d)
  else if op = 7 then d.engineRecord src
  else d.engineErase src verify

/-- The operation in progress ends: RESULT, and BUSY 0. A source that cannot be read gives 0xA7. -/
def Device.engineDone (d : Device) (verify : Bool) : Device :=
  match d.sec.engine with
  | none => d
  | some (_, op) =>
    let (a, d) := if op = 5 then (⟨0, 0, []⟩, d) else d.fwRead d.engineSrc (d.fld Fld.engSrcLenLen)
    let (code, d) := if a.code ≠ 0 then (0xA7, d) else d.enginePerform op a.data verify
    (({ d with sec := { d.sec with engine := none } }).setFld Fld.engStatusResult code).setFlag Fld.engStatusBusy false

/-- A row of the "Engine operations" table: a write of ENG_OP by a TCID. -/
def engineRow (tcid : Fin 64) (op : Nat) (s : State) : Host.Outcome State Fault Refusal := actOn s fun d => d.engineStart tcid.val op

/-- HASH. -/
def execHash (tcid : Fin 64) (s : State) : Host.Outcome State Fault Refusal := engineRow tcid 1 s
/-- VERIFY. -/
def execVerify (tcid : Fin 64) (s : State) : Host.Outcome State Fault Refusal := engineRow tcid 2 s
/-- UNWRAP_IMAGE. -/
def execUnwrapImage (tcid : Fin 64) (s : State) : Host.Outcome State Fault Refusal := engineRow tcid 3 s
/-- SIGN_ID. -/
def execSignId (tcid : Fin 64) (s : State) : Host.Outcome State Fault Refusal := engineRow tcid 4 s
/-- RANDOM. -/
def execRandom (tcid : Fin 64) (s : State) : Host.Outcome State Fault Refusal := engineRow tcid 5 s
/-- UNWRAP_TSK. -/
def execUnwrapTsk (tcid : Fin 64) (s : State) : Host.Outcome State Fault Refusal := engineRow tcid 6 s
/-- RECORD_KEY. -/
def execRecordKey (tcid : Fin 64) (s : State) : Host.Outcome State Fault Refusal := engineRow tcid 7 s
/-- ENGINE_ERASE: OP 0x08 ERASE. -/
def execEngineErase (tcid : Fin 64) (s : State) : Host.Outcome State Fault Refusal := engineRow tcid 8 s

/-- ENGINE_OPERATION_DONE; `verify` is the outcome of a key store write. -/
def execEngineOperationDone (verify : Bool) (s : State) : Host.Outcome State Fault Refusal := actOn s fun d => d.engineDone verify

end Sys2Proof.Machine
end

