-- ==== Sys2Proof/Machine/FabricCmds.lean ====
section
/-! DEFINITION. Commands of the slot fabric: mailbox actions of the fabric, block memory ports, clock edges, presets and
clears, DDR registers (chapters 04 to 08, 12). -/

namespace Sys2Proof.Machine

/-- IN_POP (R304, R488, R529): serves an IN_POP that the last mailbox clock edge called for. -/
def execInPop (slot : Fin 16) (s : State) : Host.Outcome State Fault Refusal := actOn s fun d => d.mailInPop slot false

/-- OUT_PUSH (R304, R488). -/
def execOutPush (slot : Fin 16) (s : State) : Host.Outcome State Fault Refusal := actOn s fun d => d.mailOutPush slot

/-- OUT_WE (R488). -/
def execOutWe (slot : Fin 16) (s : State) : Host.Outcome State Fault Refusal := actOn s fun d => d.mailOutWe slot

/-- USER_EVENT (R489). -/
def execUserEvent (slot : Fin 16) (s : State) : Host.Outcome State Fault Refusal := actOn s fun d => d.mailUser slot

/-- Whether the block memory is in use as a hard FIFO (R215). -/
def Device.isFifo (d : Device) (n : Fin 16) (b : Nat) : Bool := d.bmNow n b 1 2 == 2

/-- BM_PORT_OPERATION (R203 to R213): serves the port edges of a block memory that is not a FIFO. -/
def execBmPortOperation (slot bm : Fin 16) (s : State) : Host.Outcome State Fault Refusal :=
  actOn s fun d => if d.isFifo slot bm.val then d else d.bmEdge slot bm.val

/-- The edge of a FIFO that waits to be served found its clear input at 1 (R215, R221). -/
def Device.clearDue (d : Device) (n : Fin 16) (b : Nat) : Bool :=
  match d.bmDue n b 0 with
  | some x => (pinsA x).orst
  | none => false

/-- FIFO_OPERATION (R216, R217): serves the edge of a FIFO whose clear input reads 0. -/
def execFifoOperation (slot bm : Fin 16) (s : State) : Host.Outcome State Fault Refusal :=
  actOn s fun d => if d.isFifo slot bm.val && !d.clearDue slot bm.val then d.bmEdge slot bm.val else d

/-- FCLR (R221, R236): serves the edge of a FIFO whose clear input reads 1. -/
def execFclr (slot bm : Fin 16) (s : State) : Host.Outcome State Fault Refusal :=
  actOn s fun d => if d.isFifo slot bm.val && d.clearDue slot bm.val then d.bmEdge slot bm.val else d

/-- DONE_AND_HEALTHY_LATCH (R295). -/
def execDoneAndHealthyLatch (slot : Fin 16) (s : State) : Host.Outcome State Fault Refusal := actOn s fun d => d.latchDone slot

/-- ACTIVE_CLOCK_EDGE (R130, R180): time passes up to the instant. -/
def execActiveClockEdge (instant : Instant) (fall turn : BitVec 64) (pins drv : BitVec 544) (s : State) : Host.Outcome State Fault Refusal :=
  actOn s fun d => (d.passTo instant.num instant.den).clockEdge instant.num instant.den fall turn pins drv

/-- PRESET_OR_CLEAR (R133): time passes up to the instant. -/
def execPresetOrClear (slot : Fin 16) (bank : BankAt) (s : State) : Host.Outcome State Fault Refusal :=
  actOn s fun d => (d.passTo bank.instant.num bank.instant.den).presetClear slot bank

/-- DDR_REGISTER_EDGE (R252, R253): time passes up to the instant. -/
def execDdrRegisterEdge (slot : Fin 16) (clk : Fin 6) (rise : Bool) (bank : BankAt) (s : State) : Host.Outcome State Fault Refusal :=
  actOn s fun d => (d.passTo bank.instant.num bank.instant.den).ddrEdge slot clk.val rise bank

end Sys2Proof.Machine
end

