-- ==== Sys2Proof/Machine/HubCmds.lean ====
section
/-! DEFINITION. Commands of the event hub and the MSI-X engines (chapters 13, 21). -/

namespace Sys2Proof.Machine

/-! ### Event queues (R845, R846) -/

/-- The head record, DEPTH and FULL of queue `q` show in its registers. -/
def Device.mirrorQueue (d : Device) (q : Nat) (l : List EvtRecord) : Device :=
  let r : EvtRecord := l.headD ⟨0, 0, 0, 0⟩
  let d := (((d.wr (Reg.evtQHead q 0) (r.event + r.merge % 256 * 2 ^ 16)).wr (Reg.evtQHead q 1) (r.syn.toNat % 2 ^ 32)).wr
    (Reg.evtQHead q 2) (r.syn.toNat / 2 ^ 32)).wr (Reg.evtQHead q 3) r.turn.toNat
  (d.setFld (Fld.evtQStatusDepth q) l.length).setFlag (Fld.evtQStatusFull q) (decide (l.length = 64))

/-- A lone push: refused at 64 records, with OVERFLOW and a lost record (R846). -/
def pushRecord (l : List EvtRecord) (r : EvtRecord) : Bool × List EvtRecord := if l.length < 64 then (true, l ++ [r]) else (false, l)

/-- One delivery pushes its record onto queue `q`. -/
def State.pushQueue (s : State) (q : Fin 4) (r : EvtRecord) : State :=
  let x := pushRecord s.evq[q] r
  if x.1 then { s with evq := s.evq.set q x.2, dev := s.dev.mirrorQueue q x.2 }
  else { s with dev := (s.dev.setFlag (Fld.evtQStatusOverflow q) true).incFld (Fld.evtQLostCount q) }

/-- The four queues. -/
def allQueues : List (Fin 4) := [0, 1, 2, 3]

/-- The delivery engine delivers one event whose latch is set, and clears the latch (R840, R843, R845). -/
def State.deliver (s : State) : State :=
  match nextLatch s.dev.latches with
  | none => s
  | some x =>
    let s := { s with dev := { s.dev with latches := dropLatch s.dev.latches x.event }.deliverVectors x }
    allQueues.foldl (fun s q => if routeQueue x.route.toNat q.val then s.pushQueue q x.record else s) s

/-- A pop of queue `q`: underflow at depth 0 (R845, R846). -/
def State.popQueue (s : State) (q : Fin 4) : State :=
  match s.evq[q] with
  | [] => { s with dev := s.dev.setFlag (Fld.evtQStatusUnderflow q) true }
  | _ :: t => { s with evq := s.evq.set q t, dev := s.dev.mirrorQueue q t }

/-- The Heartwood external interrupt is asserted: event queue 3 holds a record or has overflowed (R842). -/
def State.hwdInterrupt (s : State) : Bool := !s.evq[(3 : Fin 4)].isEmpty || s.dev.flag (Fld.evtQStatusOverflow 3)

/-- A command that acts on the queues too, with the outputs of the last command gone; a device in power-on reset stays as it is. -/
def actState (s : State) (f : State → State) : Host.Outcome State Fault Refusal :=
  .next (let s := s.mapDev id; if s.dev.por then s else f s)

/-- EVENT_DELIVERY. -/
def execEventDelivery (s : State) : Host.Outcome State Fault Refusal := actState s State.deliver

/-- EVT_QQ_POP. -/
def execEvtQPop (q : Fin 4) (s : State) : Host.Outcome State Fault Refusal := actState s fun s => s.popQueue q

/-! ### MSI-X (R514, R515) -/

/-- Dword `k` of a function's MSI-X table: a vector control starts at 1, masked; the rest at 0. -/
def Device.msixDw (d : Device) (p : Fin 2) (fn k : Nat) : Nat :=
  match (d.ports[p]).msix.find? fun c => c.1 = fn * 256 + k with
  | some c => c.2.toNat
  | none => if k % 4 = 3 then 1 else 0

/-- Store a dword of a function's MSI-X table: address, data and the mask bit are writable. -/
def Device.setMsixDw (d : Device) (p : Fin 2) (fn k v : Nat) : Device :=
  let v := if k % 4 = 3 then v % 2 else if k % 4 = 0 then v / 4 * 4 else v
  d.modPort p fun q => { q with msix := Sparse.put q.msix (fn * 256 + k) (BitVec.ofNat 32 v) }

/-- Pending bit dword `k` of a function's PBA. -/
def Device.pbaDw (d : Device) (p : Fin 2) (fn k : Nat) : Nat :=
  ofBits ((List.range 32).map fun i => decide ((fn, 32 * k + i) ∈ (d.ports[p]).pba))

/-- A vector's message can be sent now (R515): MSI-X enabled and not masked, the vector not masked, Bus Master Enable 1, the link in
L0, and the function outside D3hot. -/
def Device.msixMay (d : Device) (p : Fin 2) (fn v : Nat) : Bool :=
  bitOf (d.cfgDw p fn 0x0B0) 31 && !bitOf (d.cfgDw p fn 0x0B0) 30 && !bitOf (d.msixDw p fn (4 * v + 3)) 0 &&
    d.busMaster p fn && d.inL0 p && !d.inD3 p fn

/-- A pending message is sent where it can be: a posted write of its data (R515, R849). -/
def Device.msixSend (d : Device) (p : Fin 2) (fn v : Nat) : Device :=
  if (fn, v) ∈ (d.ports[p]).pba ∧ d.msixMay p fn v then
    (d.modPort p fun q => { q with pba := q.pba.filter fun x => x != (fn, v) }).emit
      (.hostWrite p fn (d.msixDw p fn (4 * v) + 2 ^ 32 * d.msixDw p fn (4 * v + 1)) (leBytes 4 (d.msixDw p fn (4 * v + 2))))
  else d

/-- MSIX_SEND. -/
def execMsixSend (port : Fin 2) (fn vec : Nat) (s : State) : Host.Outcome State Fault Refusal :=
  actOn s fun d => d.msixSend port fn vec

/-- ACT_DENY_POP (R584, R599). -/
def execActDenyPop (s : State) : Host.Outcome State Fault Refusal := actOn s Device.denyPop

end Sys2Proof.Machine
end

