-- ==== Sys2Proof/Machine/Reset.lean ====
section
/-! DEFINITION. What the resets reach (chapter 24): power-on reset and its release, warm reset, the resets of a port and of a VF. -/

namespace Sys2Proof.Machine

/-! ### Register survival (R14, R936) -/

/-- The register at address `a` after a reset: every field whose Survives entry lacks code `bit` takes its Reset value. -/
def survWord (bit a v : Nat) : Nat :=
  match regSpecAt (a % 2 ^ 40) with
  | none => v
  | some r => r.fields.foldl (fun w f =>
      if bitOf f.surv bit then w else withBits w f.lo f.width (bitsOf (regResetNat (a % 2 ^ 40)) f.lo f.width)) v

/-- A reset whose Survives code is `bit` reaches the registers that satisfy `hit`. -/
def Device.survive (d : Device) (bit : Nat) (hit : Nat → Bool) : Device :=
  d.regs.foldl (fun d c => if hit c.1 then d.wr c.1 (survWord bit c.1 c.2.toNat) else d) d

/-! ### Ports (R523, R525, R503, R115, R852) -/

/-- Some supply of a port is below its falling threshold. -/
def Device.portLow (d : Device) (p : Fin 2) : Bool := bitOf d.power.low.toNat (2 + p.val) || bitOf d.power.low.toNat (4 + p.val)

/-- Something holds a port in reset: its PERST# ball, a low supply, its domain off, or a warm reset. -/
def Device.portHeld (d : Device) (p : Fin 2) : Bool :=
  (d.ports[p]).perst || d.portLow p || !d.fldBit Fld.pwrDomStatusOn (16 + p.val) || d.warm

/-- A port that nothing holds any more starts link training, once AON is ready (R503). -/
def Device.portTrain (d : Device) (p : Fin 2) : Device :=
  if d.portHeld p || !d.flag Fld.devReadyAon || (d.ports[p]).link != .down then d
  else d.modPort p fun q => { q with link := .training }

/-- The slots whose DMA window belongs to a VF of a port. -/
def Device.vfSlots (d : Device) (p : Fin 2) : List (Nat × Fin 16) := d.portChans p

/-- A register of the per-TCID copies of the TCIDs of a port. -/
def portTcidReg (p : Fin 2) (a : Nat) : Bool :=
  decide (2 ^ 40 ≤ a) && (match portOfTcid (a / 2 ^ 40 - 1) with | some (q, _) => q == p | none => false)

/-- Registers of the coalescing vectors of port `p` (R936). -/
def portCoalReg (p : Fin 2) (a : Nat) : Bool :=
  decide (Reg.evtCoalPf p.val 0 ≤ a) && decide (a < Reg.evtCoalPf p.val 0 + 0x1000)

/-- The port's registers that a reset of the port reaches: its own block but PTx_LINK_CFG, and the vectors and per-TCID values of
its functions. -/
def portReg (p : Fin 2) (a : Nat) : Bool :=
  (decide (Reg.ptStatus p.val ≤ a) && decide (a < Reg.ptStatus p.val + 0x10000) && a != Reg.ptLinkCfg p.val) || portCoalReg p a ||
    portTcidReg p a

/-- PTx_STATUS follows the link and the PERST# ball; `speed` and `width` are what training settled. -/
def Device.portStatus (d : Device) (p : Fin 2) (speed width : Nat) : Device :=
  let d := (d.setFlag (Fld.ptStatusLinkUp p) (d.linkUp p)).setFlag (Fld.ptStatusPerst p) (d.ports[p]).perst
  (d.setFld (Fld.ptStatusSpeed p) speed).setFld (Fld.ptStatusWidth p) width

/-- A port is reset (R523): DMA channels stop, configuration space, MSI-X and DOE return to their state after POR release, VFs are
disabled, and the port's registers lose what has no Survives code L. The link goes to `link`; none leaves it. The token count in force
and the turn's charges stand until the next tick, where the defaults govern (R539, R540, R554). -/
def Device.portReset (d : Device) (p : Fin 2) (link : Option Link) : Device :=
  let d := (d.vfSlots p).foldl (fun d x => d.dmaStop x.2) d
  let sp := d.fld (Fld.ptStatusSpeed p)
  let wd := d.fld (Fld.ptStatusWidth p)
  let d := d.modPort p fun q =>
    { Port.reset with perst := q.perst, link := link.getD q.link, stale := q.stale,
                      tokT := q.tokT, charged := q.charged, remLast := q.remLast }
  let d := d.survive 2 (portReg p)
  let d := d.endUnlocks fun u => match portOfTcid u.tcid with | some (q, _) => q == p | none => false
  if d.linkUp p then d.portStatus p sp wd else d.portStatus p 0 0

/-! ### VFs (R523, R524, R852) -/

/-- The slot at member position 0 of a VF's binding. -/
def Device.slotOfVf (d : Device) (p : Fin 2) (v : Nat) : Option (Fin 16) := allSlots.find? fun n => d.chanVf n == some (p, v)

/-- A VF's own state is reset: its channel, configuration space, MSI-X, vectors, unlocks and per-TCID values. -/
def Device.vfReset (d : Device) (p : Fin 2) (v : Nat) : Device :=
  let d := match d.slotOfVf p v with | some n => d.dmaStop n | none => d
  let d := d.modPort p fun q =>
    { q with
      cfg := q.cfg.filter fun c => c.1 / 0x1000 != v
      msix := q.msix.filter fun c => c.1 / 256 != v
      pba := q.pba.filter fun x => x.1 != v }
  let d := d.resetVectors p v
  let d := d.survive 3 fun a => decide (a / 2 ^ 40 = tcidOf p v + 1)
  d.endUnlocks fun u => u.tcid == tcidOf p v

/-- The effects of a VF FLR instant on the VF and on its slot (R524, R662). -/
def Device.vfFlr (d : Device) (p : Fin 2) (v : Nat) : Device :=
  let d := match d.slotOfVf p v with
    | some n => ((d.flushMailbox n false false)).modSlot n fun s => { s with flrHold := true }
    | none => d
  let d := d.vfReset p v
  let d := d.modPort p fun q => { q with flr := if v ∈ q.flr then q.flr else q.flr ++ [v] }
  d.portEvent p 4 [(v, 5)]

/-! ### Power-on reset (R87 to R90, R112, R929, R935) -/

/-- Memory that keeps its contents without power: the resident store array, Grain channel D with its check bytes, the shadow banks,
the OTP, the key store and the passwords. -/
def keepsPower (a : Nat) : Bool :=
  decide (a < 0x2000000) || (decide (0x20100000 ≤ a) && decide (a < 0x20120000)) ||
    (decide (keyGrainCheck 0x8000 ≤ a) && decide (a < keyGrainCheck 0xC000)) ||
    (decide (keyShadow 0 ≤ a) && decide (a < keyShadow 2)) || (decide (keyOtp ≤ a) && decide (a < keyOtp + 0x3000000))

/-- A page write of channel D cut by power loss: each group it covers holds its old value, its new value, or is uncorrectable
(R679). -/
def Device.pageCut (d : Device) : Device :=
  match d.grain.page with
  | none => d
  | some j =>
    if j.ch = 0 then d
    else
      let g0 := j.off / 8
      let gs := (List.range ((j.off + j.data.length + 7) / 8 - g0)).map (g0 + ·)
      let e := (d.grainWrite 1 j.off (j.data.map fun _ => true) j.data).2
      gs.foldl (fun d g =>
        let (x, d) := d.free
        if x % 3 = 0 then d
        else if x % 3 = 1 then d.setGroup 1 g (e.grainData 1 g)
        else
          let (y, d) := d.free
          (d.setGroup 1 g y).setByte (grainCheckKey 1 g) (BitVec.ofNat 8 (checkByte y ^^^ 3))) d

/-- Power-on reset is asserted: everything but non-volatile memory, the VBAT domain, the supplies and the balls takes its state of
power-up. -/
def Device.powerOnReset (d : Device) : Device :=
  let d := (d.pageCut).resPowerLoss
  { Device.reset with
    now := d.now, freeCtr := d.freeCtr, refclk := d.refclk, mem := d.mem.filter fun c => keepsPower c.1, out := d.out
    ports := d.ports.map fun q => { Port.reset with perst := q.perst }
    power :=
      { Device.reset.power with out := d.power.out, low := d.power.low, vbat := d.power.vbat, porst := d.power.porst, psuLow := d.power.psuLow,
                                hibLatch := d.power.hibLatch, wakeLatch := d.power.wakeLatch, minOff := d.power.minOff,
                                brown := d.power.brown }
    sec := { Device.reset.sec with tampered := d.sec.tampered, erasePend := d.sec.erasePend } }

/-- The whole machine under power-on reset; the commands that wait stay. -/
def State.powerOnReset (s : State) : State :=
  { s with evq := Vector.replicate 4 [], mtx := MtxUnit.reset, dev := s.dev.powerOnReset }

/-- The cause that DEV_BOOT_CAUSE records at POR release (R933). -/
def PowerUnit.porCause (p : PowerUnit) : Nat :=
  if p.hibLatch then 4 else if p.brown.getLsbD 0 then 2 else if p.brown.getLsbD 1 then 3 else 1

/-- A reset of cause `c` is recorded. -/
def Device.bootCause (d : Device) (c : Nat) : Device :=
  (d.setFld Fld.devBootCauseCause c).setFldBit Fld.devResetHistSeen (c - 1) true

/-- The port configuration word of a port and the values in force (R504). -/
def Device.portWord (d : Device) (p : Fin 2) : Device :=
  let w := (d.grainRead 1 (0x1FFF0 + 8 * p.val) 8).1.getD []
  if w.length = 8 ∧ leAt w 0 1 = 0x5A ∧ leAt w 4 4 = crc32c (w.take 4) then
    let sp := bitsOf (leAt w 1 1) 1 3
    let wd := bitsOf (leAt w 1 1) 4 4
    let d := d.setFlag (Fld.ptLinkCfgFromWord p) true
    let d := d.setFld (Fld.ptLinkCfgMaxSpeed p) (if sp = 0 ∨ 5 < sp then 5 else sp)
    let d := d.setFld (Fld.ptLinkCfgMaxWidth p) (if wd = 1 ∨ wd = 2 ∨ wd = 4 then wd else 8)
    (d.setFlag (Fld.ptLinkCfgSris p) (bitOf (leAt w 1 1) 0)).setFlag (Fld.ptLinkCfgL1ssDis p) (bitOf (leAt w 2 1) 0)
  else d

/-- POR release (R62, R87, R504, R627, R649, R769, R787, R933, R951). `supplies` gives the supplies in window, by the bit numbers of
SAFE_SUPPLY, and `classes` the classes of the bank supplies. -/
def Device.porRelease (d : Device) (smbAddr bootSel : Nat) (wrstLow : Bool) (supplies classes : Nat) : Device :=
  let d := if d.sec.erasePend then { d.tamperErase with sec := { d.sec with erasePend := false } } else d
  let c := d.power.porCause
  let d := { d with por := false }
  let d := (d.setFld Fld.devStrapSmbAddr smbAddr).setFld Fld.devStrapBootSel bootSel
  let d := (d.bootCause c).setFld Fld.devBootCausePorCause c
  let miss := Nat.xor (Nat.land supplies 0xFFFF007F) 0xFFFF007F
  let miss := Nat.lor miss (Nat.land d.power.low.toNat 0xFFFF007F)
  let d := { d with power := { d.power with hibLatch := false, brown := 0, out := BitVec.ofNat 32 miss } }
  let good := Nat.xor miss 0xFFFF007F
  let d := ((d.setFld Fld.safeSupplyInWindow good).setFld Fld.safeSupplyVccioIn (good / 2 ^ 16)).supplyActive
  let d := (d.wr Reg.safeVccioClass classes).setFlag Fld.safeStatusRbLow true
  let d := (d.otpRead).setFlag Fld.secStatusTampered d.sec.tampered
  let d := if d.flag Fld.secStatusOtpOk then d
    else ((d.setActive 12 true).setFldBit Fld.safeCauseSeen 12 true).enterDss 12
  let d := ((((d.recallStart).benchZeroStart.portWord 0).portWord 1).portStatus 0 0 0).portStatus 1 0 0
  let d := { d with hwd := { d.hwd with boot := 1 } }
  if wrstLow then { d with warm := true, power := { d.power with causes := 1 }, hwd := { d.hwd with boot := 0 } } else d

/-! ### Warm reset (R929, R931, R935) -/

/-- A warm reset asserts (R45, R452, R525, R587, R628, R662, R705, R828, R851, R891, R921): the device side. -/
def Device.warmReset (d : Device) : Device :=
  let d := { d.benchWriteBackAll with warm := true }
  let d := d.portReset 0 (some .down)
  let d := d.portReset 1 (some .down)
  let d := ((d.survive 1 fun _ => true).portStatus 0 0 0).portStatus 1 0 0
  let d := (d.resBufClear).endUnlocks fun _ => true
  let d := d.forSlots allSlots fun n d =>
    (d.setFlag (Fld.pwrSlotWakePend n) false).modSlot n fun s =>
      { s with swap := none, pend5 := none, pend7 := none, resume5 := false, wakeAuto := false, idleAuto := false, sweepCmd := none
               flrHold := false, bindOn := false, emptyOff := false
               copying := match s.copying with | some (true, _) => some (true, none) | _ => none }
  let d := d.setFlag Fld.pwrStatusHibPend false
  let d := (d.setFld Fld.ringTxqStatusDepth 0).setFlag Fld.ringTxqStatusFull false
  let d := (d.setFld Fld.ringRxqStatusDepth 0).setFlag Fld.ringRxqStatusFull false
  { d with
    latches := [], denials := []
    scribe := { d.scribe with immDue := [], alignTick := none, captures := [], restores := [], resumes := [] }
    hwd := { d.hwd with cmds := [], skips := [], boot := 0, auto := none, pmp := Vector.replicate 16 PmpEntry.reset }
    loader := { d.loader with job := none, jqHead := 0, owners := [], aborts := [] }
    grain := { d.grain with waiters := [] }
    ring := { d.ring with inbox := [], txs := [], rxs := [], txHead := 0, rxHead := 0,
                           dirs := d.ring.dirs.map fun x => { x with queue := [] } }
    power := { d.power with hib := none }
    sec := { d.sec with engine := none, loaderKey := [], scribeKey := [] }
    smb := { writes := 0, status := 0, reading := false, readCode := 0, readData := [] }
    jtag := { d.jtag with axBusy := false } }

/-- The whole machine under a warm reset. -/
def State.warmReset (s : State) : State :=
  { s with evq := Vector.replicate 4 [], mtx := MtxUnit.reset, dev := s.dev.warmReset }

end Sys2Proof.Machine
end

