-- ==== Sys2Proof/Machine/ResetCmds.lean ====
section
/-! DEFINITION. Commands of power-on and warm reset, of readiness, and of the links and functions of the host ports (chapters 03, 13,
24). -/

namespace Sys2Proof.Machine

/-! ### Power-on reset -/

/-- Power-on reset can end (R69, R87, R924): it is held, PORST_N is high, the VCCINT and VCCAUX monitors have released, and PSU_EN is not
low. -/
def Device.porOver (d : Device) : Bool := d.por && d.power.porst && d.power.low.toNat % 4 == 0 && !d.power.psuLow

/-- POR_RELEASE (R69, R87). -/
def execPorRelease (smbAddr bootSel : Fin 4) (balls : ResetBalls) (supplies classes : Word) (s : State) :
    Host.Outcome State Fault Refusal :=
  act s fun d =>
    let d := { d with power := { d.power with porst := d.power.porst || balls.porst } }
    if d.porOver then d.porRelease smbAddr.val bootSel.val balls.wrstLow supplies.toNat classes.toNat else d

/-- With VBAT invalid and VCCAUX gone, the VBAT domain has no power: its latches are lost (R75, R117, R788). -/
def Device.vbatCheck (d : Device) : Device :=
  if d.power.vbat || !bitOf d.power.low.toNat 1 then d
  else
    { d with
      power := { d.power with psuLow := false, hibLatch := false, wakeLatch := false, minOff := 0 }
      sec := { d.sec with tampered := false, erasePend := false } }

/-- A brown-out monitor asserts, VCCAUX where `aux` holds: a STORE in progress completes from VHOLD, then power-on reset is asserted
(R90, R112); its monitor holds the reset until it releases (R87). -/
def State.brownOut (s : State) (aux : Bool) : State :=
  let d := s.dev
  let d := if d.por then d else d.storeEnd
  let b : BitVec 2 := if aux then 2 else 1
  let low := d.power.low ||| b.setWidth 32
  let s := ({ s with dev := { d with power := { d.power with brown := d.power.brown ||| b, low := low } } } : State).powerOnReset
  { s with dev := s.dev.vbatCheck }

/-- BROWN_OUT. -/
def execBrownOut (aux : Bool) (s : State) : Host.Outcome State Fault Refusal := .next ((s.mapDev id).brownOut aux)

/-- PORST_N_ASSERT (R88). -/
def execPorstNAssert (s : State) : Host.Outcome State Fault Refusal :=
  .next ((s.mapDev fun d => { d with power := { d.power with porst := false } }).powerOnReset)

/-! ### Warm reset -/

/-- WARM_RESET: it asserts where WRST_N qualifies (`pin`), or a write of DEV_RESET_CMD or the safety plane has called for it (R931,
R952). -/
def execWarmReset (pin : Bool) (s : State) : Host.Outcome State Fault Refusal :=
  actState s fun s =>
    let c : BitVec 3 := s.dev.power.causes ||| (if pin then 1 else 0)
    if c = 0 then s else ({ s with dev := { s.dev with power := { s.dev.power with causes := c } } } : State).warmReset

/-- The hold of a warm reset ends (R931, R933, R974): the cause is recorded, a lockstep reset repeats the lockstep test, the boot ROM
starts, and both ports retrain. -/
def Device.warmEnd (d : Device) : Device :=
  if !d.warm then d
  else
    let c := if d.power.causes.getLsbD 0 then 5 else if d.power.causes.getLsbD 1 then 6 else 7
    let d := d.bootCause c
    let d := if d.fldBit Fld.safeActiveActive 4 then { d with safety := { d.safety with test := 2 } } else d
    let d :=
      { d with
        warm := false
        power := { d.power with causes := 0 }
        hwd := { d.hwd with boot := 1 } }
    (d.portTrain 0).portTrain 1

/-- WARM_RESET_END. -/
def execWarmResetEnd (s : State) : Host.Outcome State Fault Refusal := actOn s Device.warmEnd

/-- A write of DEV_RESET_CMD (R932): any other KEY is ignored. -/
def Device.devReset (d : Device) (v : Nat) : Device :=
  if bitsOf v 16 16 = 0x5752 ∧ bitOf v 0 then { d with power := { d.power with causes := d.power.causes ||| 2 } } else d

/-- DEV_RESET_CMD. -/
def execDevResetCmd (data : Word) (s : State) : Host.Outcome State Fault Refusal := actOn s fun d => d.devReset data.toNat

/-! ### Readiness (R940, R942, R973, R503) -/

/-- FUNCTION_READY: 0 AON, 1 GRAIN_D, 2 the key store read. -/
def Device.functionReady (d : Device) (f : Nat) : Device :=
  if f = 0 then
    if d.flag Fld.devReadyAon then d
    else
      let d := d.setFlag Fld.devReadyAon true
      let d := if d.flag Fld.secStatusOtpOk then d else (d.raise 466 []).raise 489 []
      (d.portTrain 0).portTrain 1
  else if f = 1 then
    if d.fldBit Fld.pwrDomStatusOn 19 then (d.setFlag Fld.grnStatusDReady true).setFlag Fld.devReadyGrainD true else d
  else ((d.setFlag Fld.secStatusKsReady true).setFlag Fld.devReadySec true).mirrorKeys

/-- FUNCTION_READY. -/
def execFunctionReady (function : Fin 3) (s : State) : Host.Outcome State Fault Refusal :=
  actOn s fun d => d.functionReady function.val

/-! ### Ports -/

/-- The inbound requests of port `p` that satisfy `hit` are discarded, with the transactions they wait for (R523). -/
def State.dropInbound (s : State) (p : Fin 2) (hit : PortReq → Bool) : State :=
  let gone := s.mtx.reqs.filter fun r => r.port == p && hit r
  let ids := gone.map (·.serial)
  { s with mtx :=
    { s.mtx with
      reqs := s.mtx.reqs.filter fun r => !(r.port == p && hit r)
      waiting := s.mtx.waiting.filter fun e => !(e.txn.master.val == p.val && ids.contains e.req)
      queues := s.mtx.queues.map fun q => q.filter fun e => !(e.txn.master.val == p.val && ids.contains e.req) } }

/-- What acts on a port as PERST# does (R115, R523, R898): nothing more where the port is held already. -/
def Device.portAssert (d : Device) (p : Fin 2) (held : Bool) : Device :=
  if held then d.portReset p (some .down) else (d.portEvent p 2 []).portReset p (some .down)

/-- PERST# of a port is asserted. -/
def State.perstAssert (s : State) (p : Fin 2) : State :=
  let held := s.dev.portHeld p
  let s := s.dropInbound p fun _ => true
  { s with dev := (s.dev.modPort p fun q => { q with perst := true }).portAssert p held }

/-- PERST_ASSERT. While power-on reset is held only the ball's level is noted. -/
def execPerstAssert (port : Fin 2) (s : State) : Host.Outcome State Fault Refusal :=
  let s := s.mapDev id
  .next (if s.dev.por then s.mapDev fun d => d.modPort port fun q => { q with perst := true } else s.perstAssert port)

/-- PERST_DEASSERT (R503, R954). -/
def execPerstDeassert (port : Fin 2) (s : State) : Host.Outcome State Fault Refusal :=
  act s fun d =>
    let d := d.modPort port fun q => { q with perst := false }
    if d.por then d else (d.portStatus port (d.fld (Fld.ptStatusSpeed port)) (d.fld (Fld.ptStatusWidth port))).portTrain port

/-- A reset of the port that comes over its link or as PF0 FLR: event `e`, then the reset. -/
def State.linkReset (s : State) (p : Fin 2) (e : Nat) (syn : List (Nat × Nat)) (link : Option Link) : State :=
  if !s.dev.linkUp p then s
  else
    let s := s.dropInbound p fun _ => true
    { s with dev := (s.dev.portEvent p e syn).portReset p link }

/-- HOT_RESET (R523). -/
def execHotReset (port : Fin 2) (s : State) : Host.Outcome State Fault Refusal :=
  actState s fun s => s.linkReset port 3 [(0, 4)] (some .training)

/-- LINK_DOWN (R523). -/
def execLinkDown (port : Fin 2) (s : State) : Host.Outcome State Fault Refusal :=
  actState s fun s => s.linkReset port 1 [] (some .training)

/-- PF0_FLR (R523). -/
def execPf0Flr (port : Fin 2) (s : State) : Host.Outcome State Fault Refusal :=
  actState s fun s => s.linkReset port 3 [(1, 4)] none

/-- What training at a speed leaves in PF0's capabilities (R502): equalisation complete with its three phases at each speed from 8.0 GT/s
up to it, and the margining receiver ready from 16.0 GT/s up. -/
def Device.equalised (d : Device) (p : Fin 2) (sp : Nat) : Device :=
  let d := if 3 ≤ sp then d.setCfgDw p 0 0x080 (withBits (d.cfgDw p 0 0x080) 17 4 15) else d
  let d := if 4 ≤ sp then d.setCfgDw p 0 0x1DC (withBits (d.cfgDw p 0 0x1DC) 0 4 15) else d
  let d := if 5 ≤ sp then d.setCfgDw p 0 0x20C (withBits (d.cfgDw p 0 0x20C) 0 4 15) else d
  d.setCfgDw p 0 0x234 (withBit (d.cfgDw p 0 0x234) 16 (decide (4 ≤ sp)))

/-- Training ends in L0 (R502, R504, R544): speed and width within the port's settings in force. -/
def Device.linkTrained (d : Device) (p : Fin 2) (speed width : Nat) : Device :=
  if (d.ports[p]).link != .training || d.portHeld p then d
  else
    let sp := min speed (d.fld (Fld.ptLinkCfgMaxSpeed p))
    let wd := min width (d.fld (Fld.ptLinkCfgMaxWidth p))
    let d := (d.modPort p fun q => { q with link := .l0 }).equalised p sp
    (d.portStatus p sp wd).portEvent p 0 [(sp, 3), (wd, 4)]

/-- LINK_UP. -/
def execLinkUp (port : Fin 2) (speed : Fin 8) (width : Fin 16) (s : State) : Host.Outcome State Fault Refusal :=
  actOn s fun d => d.linkTrained port speed.val width.val

/-- Speed or width changes without link down (R544). -/
def Device.linkChanged (d : Device) (p : Fin 2) (speed width : Nat) : Device :=
  if !d.linkUp p then d
  else
    let sp := min speed (d.fld (Fld.ptLinkCfgMaxSpeed p))
    let wd := min width (d.fld (Fld.ptLinkCfgMaxWidth p))
    ((d.equalised p sp).portStatus p sp wd).portEvent p 9 [(sp, 3), (wd, 4)]

/-- LINK_SPEED_CHANGE. -/
def execLinkSpeedChange (port : Fin 2) (speed : Fin 8) (width : Fin 16) (s : State) : Host.Outcome State Fault Refusal :=
  actOn s fun d => d.linkChanged port speed.val width.val

/-- The link states of ASPM, in the order of the command's operand. -/
def aspmLink (k : Nat) : Link := if k = 0 then .l0 else if k = 1 then .l0s else if k = 2 then .l1 else if k = 3 then .l11 else .l12

/-- ASPM_STATE_CHANGE (R502, R504, R900): the L1 substates exist only where L1SS_DIS is 0. -/
def execAspmStateChange (port : Fin 2) (state : Fin 5) (s : State) : Host.Outcome State Fault Refusal :=
  actOn s fun d =>
    if d.linkUp port && !(decide (3 ≤ state.val) && d.flag (Fld.ptLinkCfgL1ssDis port)) then
      d.modPort port fun q => { q with link := aspmLink state.val }
    else d

/-! ### VFs -/

/-- A VF FLR: nothing separate while the port is held (R955). -/
def State.vfFlr (s : State) (p : Fin 2) (v : Nat) : State :=
  if s.dev.portHeld p || !s.dev.vfEnabled p v then s
  else
    let s := s.dropInbound p fun r => r.fn == v
    { s with dev := s.dev.vfFlr p v }

/-- VF_FLR. -/
def execVfFlr (port : Fin 2) (vf : Nat) (s : State) : Host.Outcome State Fault Refusal := actState s fun s => s.vfFlr port vf

/-- VF_FLR_READY: 1 ms after the FLR instant (R524). -/
def execVfFlrReady (port : Fin 2) (vf : Nat) (s : State) : Host.Outcome State Fault Refusal :=
  actOn s fun d => d.modPort port fun q => { q with flr := q.flr.filter fun v => v != vf }

/-- VF Enable is set (R508, R544): VFs 1 to NumVFs, at most 16. -/
def Device.vfEnable (d : Device) (p : Fin 2) : Device :=
  if d.flag (Fld.ptStatusVfEn p) then d
  else
    let n := min 16 (d.cfgDw p 0 0x170 % 2 ^ 16)
    let d := d.setCfgDw p 0 0x168 (withBit (d.cfgDw p 0 0x168) 0 true)
    let d := (d.setFlag (Fld.ptStatusVfEn p) true).setFld (Fld.ptStatusNumVfs p) n
    d.portEvent p 10 [(n, 5)]

/-- VF_ENABLE_SET. -/
def execVfEnableSet (port : Fin 2) (s : State) : Host.Outcome State Fault Refusal :=
  actOn s fun d => if d.portHeld port then d else d.vfEnable port

/-- VF Enable is cleared (R523, R852): the VFs that were enabled are reset, and their bindings stay (R466). -/
def State.vfDisable (s : State) (p : Fin 2) : State :=
  if !s.dev.flag (Fld.ptStatusVfEn p) then s
  else
    let s := s.dropInbound p fun r => r.fn != 0
    let d := iter (s.dev.fld (Fld.ptStatusNumVfs p)) (fun i d => d.vfReset p (i + 1)) s.dev
    let d := d.setCfgDw p 0 0x168 (withBit (d.cfgDw p 0 0x168) 0 false)
    let d := (d.setFlag (Fld.ptStatusVfEn p) false).setFld (Fld.ptStatusNumVfs p) 0
    let d := d.modPort p fun q => { q with flr := [] }
    { s with dev := d.portEvent p 10 [(0, 5)] }

/-- VF_ENABLE_CLEARED. -/
def execVfEnableCleared (port : Fin 2) (s : State) : Host.Outcome State Fault Refusal := actState s fun s => s.vfDisable port

end Sys2Proof.Machine
end

