-- ==== Sys2Proof/Machine/PortCmds.lean ====
section
/-! DEFINITION. Configuration requests, completions and link errors of the host ports, and the DOE mailbox (R503 to R509, R516, R517,
R519 to R521, R546). The register layout of the capabilities is PRESUMED from PCI Express 5.0 (assumption log 11). -/

namespace Sys2Proof.Machine

/-! ### Error responses (R519, R520, R555) -/

/-- An error response to a request of a function: AER, PTx_ERR_LOG and port event 5; `kind` is 0 Unsupported Request, 1 Completer
Abort, 2 poisoned write. The Completer Abort and Unsupported Request of a request with a completion are advisory; `header` is that of
the request's TLP. -/
def Device.errorResponse (d : Device) (p : Fin 2) (fn kind addr : Nat) (posted : Bool) (header : Nat) : Device :=
  let log := if d.fnEnabled p fn then fn else 0
  let d := d.aerUncorrectable p log (if kind = 0 then 20 else if kind = 1 then 15 else 12) (!posted && decide (kind ≠ 2))
    (some header)
  let d := if d.flag (Fld.ptErrLogValid p) then d else
    ((d.wr (Reg.ptErrLog p) (2 ^ 31 + kind * 256 + tcidOf p fn % 64)).wr (Reg.ptErrAddrLo p) (addr % 2 ^ 32)).wr (Reg.ptErrAddrHi p)
      (addr / 2 ^ 32 % 256)
  d.portEvent p 5 [(kind, 4), (tcidOf p fn, 6)]

/-! ### DOE (R516, R517) -/

/-- An answer stands in the read mailbox of a port. -/
def Device.doeAnswer (d : Device) (p : Fin 2) (dw : List Word) : Device :=
  (d.modPort p fun q => { q with doeOut := dw, doeIn := [] }).emit (.doeObject p dw)

/-- The DOE Discovery response: protocol `i` of two, DOE Discovery and CMA/SPDM. -/
def doeDiscovery (i : Nat) : List Word :=
  [0x00000001, 3, if i = 0 then 0x01000001 else if i = 1 then 0x00010001 else 0x0000FFFF]

/-- A data object arrives: vendor and type, length in dwords, payload. Until command-ready, while an object is served, and while an
answer waits, the mailbox is busy and the object is discarded; a malformed object sets DOE Error. -/
def Device.doeReceive (d : Device) (p : Fin 2) (dw : List Word) : Device :=
  let q := d.ports[p]
  let hd := (dw.headD 0).toNat
  if !d.linkUp p || !d.flag Fld.hwdStatusCmdReady || !q.doeIn.isEmpty || !q.doeOut.isEmpty then d
  else if dw.length < 2 ∨ 1024 < dw.length ∨ (dw.getD 1 0).toNat % 2 ^ 18 ≠ dw.length ∨ hd % 2 ^ 16 ≠ 1 ∨ 1 < bitsOf hd 16 8 then
    d.modPort p fun q => { q with doeErr := true }
  else
    let d := (d.portEvent p 11 []).modPort p fun q => { q with doeIn := dw }
    if bitsOf hd 16 8 = 0 then d.doeAnswer p (doeDiscovery ((dw.getD 2 0).toNat % 256)) else d

/-- DOE_OBJECT. -/
def execDoeObject (port : Fin 2) (dw : List Word) (s : State) : Host.Outcome State Fault Refusal :=
  actOn s fun d => d.doeReceive port dw

/-- DOE Abort: the mailbox is empty and its error is gone. -/
def Device.doeAbort (d : Device) (p : Fin 2) : Device :=
  d.modPort p fun q => { q with doeStage := [], doeIn := [], doeOut := [], doeErr := false }

/-- DOE_ABORT. -/
def execDoeAbort (port : Fin 2) (s : State) : Host.Outcome State Fault Refusal :=
  actOn s fun d => if d.linkUp port then d.doeAbort port else d

/-- DOE Status: Busy, Error, Data Object Ready. -/
def Device.doeStatus (d : Device) (p : Fin 2) : Nat :=
  let q := d.ports[p]
  natOf (!d.flag Fld.hwdStatusCmdReady || !q.doeIn.isEmpty) + 4 * natOf q.doeErr + 2 ^ 31 * natOf (!q.doeOut.isEmpty)

/-! ### Configuration space (R503, R506 to R509) -/

/-- A configuration dword as it reads. -/
def Device.cfgRead (d : Device) (p : Fin 2) (fn a : Nat) : Nat :=
  if a = 0x060 then d.cfgDw p fn a % 2 ^ 16 + (d.fld (Fld.ptStatusSpeed p) + 16 * d.fld (Fld.ptStatusWidth p)) * 2 ^ 16
  else if fn = 0 ∧ a = 0x29C then d.doeStatus p
  else if fn = 0 ∧ a = 0x2A4 then ((d.ports[p]).doeOut.headD 0).toNat
  else d.cfgDw p fn a

/-- The bytes that four byte enables select. -/
def enMask (en : Nat) : Nat := (List.range 4).foldl (fun m i => if bitOf en i then m + 255 * 256 ^ i else m) 0

/-- A configuration dword after a write of the enabled bytes. -/
def Device.cfgStore (d : Device) (p : Fin 2) (fn a en v : Nat) : Device :=
  let old := d.cfgDw p fn a
  let m := Nat.land (cfgMask fn a) (enMask en)
  let new := Nat.lor (Nat.land old (Nat.xor 0xFFFFFFFF m)) (Nat.land v m)
  let clr := Nat.land (Nat.land (cfgW1c a) (enMask en)) v
  let new := Nat.land new (Nat.xor 0xFFFFFFFF clr)
  if new = old then d else d.setCfgDw p fn a new

/-- The DOE registers of PF0: GO sends the object written so far, Abort empties the mailbox, a write of the read mailbox takes its
dword. -/
def Device.doeRegister (d : Device) (p : Fin 2) (a v : Nat) : Device :=
  if a = 0x298 then
    if bitOf v 0 then d.doeAbort p
    else if bitOf v 31 then
      let dw := (d.ports[p]).doeStage
      (d.modPort p fun q => { q with doeStage := [] }).doeReceive p dw
    else d
  else if a = 0x2A0 then d.modPort p fun q => { q with doeStage := (q.doeStage ++ [BitVec.ofNat 32 v]).take 1025 }
  else d.modPort p fun q => { q with doeOut := q.doeOut.drop 1 }

/-- A configuration write to an enabled function: VF Enable, Initiate FLR, the DOE registers, and every other dword. A channel that
its VF's Bus Master Enable stops returns its balance (R538). -/
def State.cfgWrite (s : State) (p : Fin 2) (fn a en v : Nat) : State :=
  if fn = 0 ∧ (a = 0x298 ∨ a = 0x2A0 ∨ a = 0x2A4) then { s with dev := s.dev.doeRegister p a v }
  else
    let d := s.dev.cfgStore p fn a en v
    let d := if a = 0x004 ∧ fn ≠ 0 then (match d.slotOfVf p fn with | some n => d.returnBalance n | none => d) else d
    let s := { s with dev := d }
    if a = 0x058 ∧ bitOf en 1 ∧ bitOf v 15 then (if fn = 0 then s.linkReset p 3 [(1, 4)] none else s.vfFlr p fn)
    else if fn = 0 ∧ a = 0x168 ∧ bitOf en 0 then
      (if bitOf v 0 then { s with dev := s.dev.vfEnable p } else s.vfDisable p)
    else s

/-- A configuration request. A function that does not exist answers Unsupported Request; its TLP header, which the command does not
carry, is a free value. -/
def State.configRequest (s : State) (p : Fin 2) (fn a : Nat) (write : Bool) (en v tag : Nat) : State :=
  if !s.dev.linkUp p then s
  else if !s.dev.fnEnabled p fn then
    { s with dev := (s.dev.free.2.errorResponse p fn 0 a false s.dev.free.1).emit (.completion p fn tag 1 []) }
  else if write then
    let s := { s with dev := s.dev.emit (.completion p fn tag 0 []) }
    s.cfgWrite p fn a en v
  else { s with dev := s.dev.emit (.completion p fn tag 0 (leBytes 4 (s.dev.cfgRead p fn a))) }

/-- CONFIG_REQUEST. -/
def execConfigRequest (port : Fin 2) (fn : Nat) (dw : Fin 1024) (write : Bool) (en : BitVec 4) (data : Word) (tag : Nat) (s : State) :
    Host.Outcome State Fault Refusal :=
  actState s fun s => s.configRequest port fn (4 * dw.val) write en.toNat data.toNat tag

/-! ### Completions and link errors (R521, R546) -/

/-- A completion arrives for a function: it serves the channel that waits, is discarded after a channel reset, or is unexpected.
`status` is 0 success, 1 Unsupported Request, 2 poisoned, 4 Completer Abort. -/
def Device.completionIn (d : Device) (p : Fin 2) (fn status : Nat) (data : List Byte) : Device :=
  if !d.linkUp p then d
  else if fn ∈ (d.ports[p]).stale then d.modPort p fun q => { q with stale := q.stale.erase fn }
  else
    match (d.slotOfVf p fn).filter fun n => (d.slot n).chan.stage == 3 with
    | some n => if status = 0 then d.dmaData n data else d.dmaReadFail n status
    | none => d.free.2.aerUncorrectable p (if d.fnEnabled p fn then fn else 0) 16 true (some d.free.1)

/-- COMPLETION_RECEIVED. -/
def execCompletionReceived (port : Fin 2) (fn status : Nat) (data : List Byte) (s : State) : Host.Outcome State Fault Refusal :=
  actOn s fun d => d.completionIn port fn status data

/-- The Correctable Error Status bit of an error: 0 receiver, 1 bad TLP, 2 bad DLLP, 3 replay timer, 4 replay rollover. -/
def linkErrorBit (k : Nat) : Nat := if k = 0 then 0 else if k = 1 then 6 else if k = 2 then 7 else if k = 3 then 12 else 8

/-- DATA_LINK_ERROR. -/
def execDataLinkError (port : Fin 2) (kind : Fin 5) (s : State) : Host.Outcome State Fault Refusal :=
  actOn s fun d => if d.portHeld port then d else d.aerCorrectable port 0 (linkErrorBit kind.val) false

end Sys2Proof.Machine
end

