-- ==== Sys2Proof/Machine/PowerCmds.lean ====
section
/-! DEFINITION. Commands of supplies, power domains, device states and hibernate (chapters 03 and 23), and the end of a STORE. -/

namespace Sys2Proof.Machine

/-! ### Supplies (R90 to R92, R113 to R117, R965, R968)

A supply is named by its bit number of SAFE_SUPPLY: 0 VCCINT, 1 VCCAUX, 2 and 3 AVCC of port A and B, 4 and 5 AVTT, 6 VCCRING,
16 + n VCCIO_n; 7 names VBAT, which has thresholds only. -/

/-- Set a bit of a word. -/
def setBitOf (w : BitVec 32) (i : Nat) (b : Bool) : BitVec 32 := BitVec.ofNat 32 (withBit w.toNat i b)

/-- The supply has a window. -/
def hasWindow (k : Nat) : Bool := decide (k < 7) || decide (16 ≤ k)

/-- A supply reads in window, or out of it. -/
def Device.supplyRead (d : Device) (k : Nat) (b : Bool) : Device :=
  let d := { d with power := { d.power with out := setBitOf d.power.out k (!b) } }
  if 16 ≤ k then d.setFldBit Fld.safeSupplyVccioIn (k - 16) b else d.setFldBit Fld.safeSupplyInWindow k b

/-- A supply leaves its window (R91, R92). -/
def Device.supplyOut (d : Device) (k : Nat) : Device :=
  let d := d.supplyRead k false
  let syn := [(k, 16)]
  if k ≤ 1 then (d.setActive 6 true).detectDevice 6 486 syn
  else if k ≤ 5 then (d.setActive 8 true).signal 8 486 syn
  else if k = 6 then (d.setActive 9 true).signal 9 486 syn
  else
    let n := slotOf k
    let d := (d.setFld (Fld.safeVccioClassClass n) 0).setActive 7 d.ioOut
    if (d.slot n).st = .empty then d else d.detectSlot 7 486 syn n faultSupply

/-- SUPPLY_OUT_OF_WINDOW. -/
def execSupplyOutOfWindow (supply : Fin 32) (s : State) : Host.Outcome State Fault Refusal :=
  actOn s fun d => if hasWindow supply.val then d.supplyOut supply.val else d

/-- A supply returns to its window; `vclass` is the class of a bank supply. -/
def Device.supplyIn (d : Device) (k vclass : Nat) : Device :=
  let d := d.supplyRead k true
  (if 16 ≤ k then d.setFld (Fld.safeVccioClassClass (k - 16)) vclass else d).supplyActive

/-- SUPPLY_IN_WINDOW. -/
def execSupplyInWindow (supply : Fin 32) (vclass : Fin 4) (s : State) : Host.Outcome State Fault Refusal :=
  actOn s fun d => if hasWindow supply.val then d.supplyIn supply.val vclass.val else d

/-- The port of a port supply. -/
def supplyPort (k : Nat) : Fin 2 := if k % 2 = 0 then 0 else 1

/-- A level is at or above its thresholds again, or below. -/
def Device.setLow (d : Device) (k : Nat) (b : Bool) : Device := { d with power := { d.power with low := setBitOf d.power.low k b } }

/-- VBAT falls below 1.500 V: the domain is invalid and PSU_EN high-Z (R90). In hibernate, the board's pull-up then enables the main
supplies, and the start that follows is a power-on reset (R116); the latches stay while VCCAUX powers the domain (R117). -/
def Device.vbatLost (d : Device) : Device :=
  let d := (d.setLow 7 true)
  let d := { d with power := { d.power with vbat := false } }
  let d := if d.power.psuLow then { d with power := { d.power with psuLow := false, hibLatch := false, wakeLatch := false, brown := 0 } }
    else d
  d.vbatCheck

/-- A supply falls below its falling assertion threshold (R90, R93, R113 to R117). A bank whose VCCIO_n is gone is high-Z (R85, R89), and
what its slot's fabric reads from its balls changes. -/
def State.supplyFalling (s : State) (k : Nat) : State :=
  if k = 0 then s.brownOut false
  else if k = 7 then { s with dev := s.dev.vbatLost }
  else if s.dev.por then { s with dev := s.dev.setLow k true }
  else if k = 1 then { s with dev := s.dev.powerFail }
  else if k ≤ 5 then
    let p := supplyPort k
    let held := s.dev.portHeld p
    let s := s.dropInbound p fun _ => true
    { s with dev := (s.dev.setLow k true).portAssert p held }
  else if k = 6 then { s with dev := (s.dev.setLow k true).ringRefresh }
  else { s with dev := (s.dev.flushEdges.setLow k true).settleAll }

/-- SUPPLY_FALLING_ASSERTION: for VCCAUX the threshold of 1.620 V. -/
def execSupplyFallingAssertion (supply : Fin 32) (s : State) : Host.Outcome State Fault Refusal :=
  .next (if hasWindow supply.val || supply.val == 7 then (s.mapDev id).supplyFalling supply.val else s.mapDev id)

/-- A supply rises above its rising release threshold. -/
def Device.supplyRising (d : Device) (k : Nat) : Device :=
  let d := d.setLow k false
  let d := if k = 7 then { d with power := { d.power with vbat := true } } else d
  if d.por then d else if 2 ≤ k ∧ k ≤ 5 then d.portTrain (supplyPort k) else if k = 6 then d.ringRefresh
  else if 16 ≤ k then d.settleAll else d

/-- SUPPLY_RISING_RELEASE. -/
def execSupplyRisingRelease (supply : Fin 32) (s : State) : Host.Outcome State Fault Refusal :=
  act s fun d => if hasWindow supply.val || supply.val == 7 then d.supplyRising supply.val else d

/-- VHOLD arms or disarms autostore (R90, R106). -/
def Device.armStore (d : Device) (b : Bool) : Device := ((d.setFlag Fld.grnStatusArmed b).hibAdvance).grainOffAdvance

/-- AUTOSTORE_ARM. -/
def execAutostoreArm (armed : Bool) (s : State) : Host.Outcome State Fault Refusal := actOn s fun d => d.armStore armed

/-! ### STORE ends, and the limit on ARMED (R645, R910, R912) -/

/-- A STORE ends; a HIBERNATE or a power-off of the GRAIN domain that waits for it goes on. -/
def Device.storeFinish (d : Device) : Device :=
  if d.grain.store.isNone then d
  else
    let d := d.storeEnd
    let d := if d.power.grainOff = 2 then { d with power := { d.power with grainOff := 3 } } else d
    match d.power.hib with
    | some j =>
      if j.stage = 2 then ({ d with power := { d.power with hib := some ⟨j.cid, 3⟩ } }).complete j.cid 0 [] else d
    | none => d

/-- STORE_DONE. -/
def execStoreDone (s : State) : Host.Outcome State Fault Refusal := actOn s Device.storeFinish

/-- ARMED has stayed 0 for 100 ms (R912): a waiting HIBERNATE ends with 0x60, a waiting power-off of GRAIN is abandoned. -/
def Device.armedTimeout (d : Device) : Device :=
  if d.flag Fld.grnStatusArmed then d
  else
    let d := match d.power.hib with
      | some j =>
        if j.stage = 1 then
          ({ d with power := { d.power with hib := none, wakeLatch := false } }.setFlag Fld.pwrStatusHibPend false).complete j.cid 0x60 []
        else d
      | none => d
    if d.power.grainOff = 1 then
      ({ d with power := { d.power with grainOff := 0 } }.setFldBit Fld.pwrDomCtlOff 3 false).raise 423 []
    else d

/-- STORE_ARMED_TIMEOUT. -/
def execStoreArmedTimeout (s : State) : Host.Outcome State Fault Refusal := actOn s Device.armedTimeout

/-! ### Domains (R897 to R899, R928) -/

/-- Domain `16 + j` is off: PWR_DOM_STATUS, what it holds, and event 511. -/
def Device.domainOff (d : Device) (j : Nat) : Device :=
  let d := d.setFldBit Fld.pwrDomStatusOn (16 + j) false
  let d :=
    if j = 2 then ((d.setFlag Fld.devReadyBench false).setFlag Fld.benchStatusReady false).benchZero
    else if j = 3 then
      let d := (d.recallStart.setFlag Fld.grnStatusDReady false).setFlag Fld.devReadyGrainD false
      let d := (d.clearMem (grainBase 0) 0x40000).clearMem (grainCheckKey 0 0) 0x8000
      { d with power := { d.power with grainOff := 0 } }
    else if j = 4 then (d.setFlag Fld.devReadyResident false).resBufClear
    else if j = 5 then d.ringRefresh
    else d
  d.raise 511 [(3, 4), (16 + j, 16)]

/-- The machine when domain `16 + j` is off: a port acts as under PERST#. -/
def State.domainOff (s : State) (j : Nat) : State :=
  if j ≤ 1 then
    let p := supplyPort j
    let held := s.dev.portHeld p
    let s := s.dropInbound p fun _ => true
    { s with dev := (s.dev.domainOff j).portAssert p held }
  else { s with dev := s.dev.domainOff j }

/-- The domain can be off now (R898). -/
def Device.domainIdle (d : Device) (j : Nat) : Bool :=
  if j = 2 then
    d.benchBusy == 0 && d.bench.lines.all (fun x => x.owner.isNone) && d.loader.job.isNone && d.scribe.captures.isEmpty &&
      d.scribe.restores.isEmpty
  else if j = 3 then d.power.grainOff == 3
  else if j = 4 then !d.resBusy
  else true

/-- Heartwood requests the power-off of domain `16 + j`; PORTA, PORTB and RING go off at once. -/
def State.domainRequestOff (s : State) (tcid j : Nat) : State :=
  if tcid ≠ 0x3E ∨ s.dev.fldBit Fld.pwrDomCtlOff j then s
  else
    let s := { s with dev := s.dev.setFldBit Fld.pwrDomCtlOff j true }
    if !s.dev.fldBit Fld.pwrDomStatusOn (16 + j) then s
    else if j ≤ 1 ∨ j = 5 then s.domainOff j
    else if j = 3 then
      { s with dev := ({ s.dev with power := { s.dev.power with grainOff := 1 } }).grainOffAdvance }
    else s

/-- DOMAIN_POWER_OFF. -/
def execDomainPowerOff (tcid : Fin 64) (domain : Fin 6) (s : State) : Host.Outcome State Fault Refusal :=
  actState s fun s => s.domainRequestOff tcid.val domain.val

/-- DOMAIN_OFF_DONE: what the power-off waited for has ended. -/
def execDomainOffDone (domain : Fin 6) (s : State) : Host.Outcome State Fault Refusal :=
  actState s fun s =>
    let j := domain.val
    if s.dev.fldBit Fld.pwrDomCtlOff j && s.dev.fldBit Fld.pwrDomStatusOn (16 + j) && s.dev.domainIdle j then s.domainOff j else s

/-- Domain `16 + j` is powered on again (R899): its function becomes ready as its own chapter gives. -/
def Device.domainOn (d : Device) (j : Nat) : Device :=
  let d := d.setFldBit Fld.pwrDomCtlOff j false
  let d := if j = 3 then { d with power := { d.power with grainOff := 0 } } else d
  if d.fldBit Fld.pwrDomStatusOn (16 + j) then d
  else
    let d := (d.setFldBit Fld.pwrDomStatusOn (16 + j) true).raise 511 [(2, 4), (16 + j, 16)]
    if j ≤ 1 then d.portTrain (supplyPort j)
    else if j = 2 then d.benchZeroStart
    else if j = 3 then d.recallStart
    else if j = 5 then d.ringRefresh
    else d

/-- DOMAIN_POWER_ON. -/
def execDomainPowerOn (tcid : Fin 64) (domain : Fin 6) (s : State) : Host.Outcome State Fault Refusal :=
  actOn s fun d => if tcid.val = 0x3E then d.domainOn domain.val else d

/-- A write of PWR_DOM_CTL: every bit written 1 asks for off, every bit written 0 for on. -/
def State.domCtlWrite (s : State) (tcid v : Nat) : State :=
  (List.range 6).foldl (fun s j =>
    if tcid ≠ 0x3E then s
    else if bitOf v j then s.domainRequestOff tcid j
    else if s.dev.fldBit Fld.pwrDomCtlOff j then { s with dev := s.dev.domainOn j } else s) s

/-! ### RUN and DOZE (R900, R925) -/

/-- The DOZE conditions, apart from both cores waiting in WFI for 10 µs, which the command asserts. -/
def Device.dozeOk (d : Device) : Bool :=
  let portIdle := fun (p : Fin 2) =>
    let l := (d.ports[p]).link
    l == .l1 || l == .l11 || l == .l12 || !d.linkUp p || !d.fldBit Fld.pwrDomStatusOn (16 + p.val)
  d.flag Fld.pwrCtlDozeEn && (allSlots.all fun n => !((d.slot n).st == .running && (d.slot n).power == .on)) && portIdle 0 && portIdle 1 &&
    d.loader.job.isNone && d.scribe.captures.isEmpty && d.scribe.restores.isEmpty && d.grain.store.isNone && !d.resBusy &&
    d.ring.txs.isEmpty && d.ring.rxs.isEmpty

/-- DEV_STATE changes, with event 511. -/
def Device.setDoze (d : Device) (b : Bool) : Device :=
  if d.flag Fld.pwrStatusDevState = b then d else (d.setFlag Fld.pwrStatusDevState b).raise 511 [(natOf b, 4)]

/-- DOZE_ENTRY. -/
def execDozeEntry (s : State) : Host.Outcome State Fault Refusal := actOn s fun d => if d.dozeOk then d.setDoze true else d

/-- DOZE_EXIT. -/
def execDozeExit (s : State) : Host.Outcome State Fault Refusal := actOn s fun d => d.setDoze false

/-! ### Hibernate (R910, R911, R924) -/

/-- A WAKE_N low that qualifies (R911): latched from the acceptance of HIBERNATE on, and while PSU_EN is low. -/
def Device.wake (d : Device) : Device :=
  if d.power.vbat && (d.power.hib.isSome || d.power.psuLow) then { d with power := { d.power with wakeLatch := true } } else d

/-- WAKE. -/
def execWake (s : State) : Host.Outcome State Fault Refusal := act s Device.wake

/-- HIBERNATE_PSU_OFF (R910 step 5). With VBAT invalid PSU_EN stays high-Z, and what follows is a power-on reset (R74, R116, R117). -/
def execHibernatePsuOff (s : State) : Host.Outcome State Fault Refusal :=
  actState s fun s =>
    match s.dev.power.hib with
    | some j =>
      if j.stage = 3 then
        let d := s.dev
        let m := max 1 (d.fld Fld.pwrHibMinOffMs)
        ({ s with dev := { d with power := { d.power with minOff := m, hibLatch := d.power.vbat, psuLow := d.power.vbat } } } : State).powerOnReset
      else s
    | none => s

/-- PSU_EN rises: MIN_OFF_MS has passed and a wake is latched (R911). -/
def execPsuEnRise (s : State) : Host.Outcome State Fault Refusal :=
  act s fun d =>
    if d.power.psuLow && d.power.wakeLatch then { d with power := { d.power with psuLow := false, wakeLatch := false } } else d

end Sys2Proof.Machine
end

