-- ==== Sys2Proof/Machine/ScribeCmds.lean ====
section
/-! DEFINITION. Commands of the Scribe engine that do not come through Heartwood (chapter 20). -/

namespace Sys2Proof.Machine

/-- SCRIBE_CTL.FIRE (R799). -/
def Device.scribeFire (d : Device) : Device := d.trigger 1 d.now (d.flag Fld.scribeCtlMode) none

/-- A falling edge on SCRIBE_IO: a trigger while IO_IN_EN is set, unless the device drives the ball or released it less than 40 ns ago
(R799, R801). -/
def Device.scribeIo (d : Device) : Device :=
  if !d.flag Fld.scribeCtlIoInEn || decide (d.now < d.scribe.deafTill) then d else d.trigger 2 d.now (d.flag Fld.scribeCtlMode) none

/-- The third REFCLK edge after the oldest IMMEDIATE trigger whose latch is still to come (R803). -/
def Device.immediateLatch (d : Device) : Device :=
  match d.scribe.immDue with
  | [] => d
  | t :: rest => ({ d with scribe := { d.scribe with immDue := rest.filter fun u => u != t } }).latchAll

/-- A write of SCRIBE_ACK (R808). -/
def Device.scribeAck (d : Device) : Device := d.setFlag Fld.scribeStatusUnread false

/-- SCRIBE_FIRE. -/
def execScribeFire (s : State) : Host.Outcome State Fault Refusal := actOn s Device.scribeFire

/-- SCRIBE_IO_TRIGGER. -/
def execScribeIoTrigger (s : State) : Host.Outcome State Fault Refusal := actOn s Device.scribeIo

/-- SNAPSHOT_LATCH. -/
def execSnapshotLatch (s : State) : Host.Outcome State Fault Refusal := actOn s Device.immediateLatch

/-- SCRIBE_ACK. -/
def execScribeAck (s : State) : Host.Outcome State Fault Refusal := actOn s Device.scribeAck

/-- CAPTURE_READ_DONE (R814 to R816). -/
def execCaptureReadDone (cid : Nat) (s : State) : Host.Outcome State Fault Refusal := actOn s fun d =>
  (((d.endStopped).captureEnd cid).endStarts).dmaUnstall

/-- RESTORE_WRITE_DONE (R822, R823). -/
def execRestoreWriteDone (cid : Nat) (s : State) : Host.Outcome State Fault Refusal := actOn s fun d =>
  (d.restoreWritten cid).dmaUnstall

end Sys2Proof.Machine
end

