-- ==== Sys2Proof/Machine/StoreCmds.lean ====
section
/-! DEFINITION. Commands of the Grain store and of the resident store controller (chapters 16, 17). -/

namespace Sys2Proof.Machine

/-! ### STORE and RECALL -/

/-- A write of GRN_STORE_CMD (R647). -/
def Device.storeCmdWrite (d : Device) (v : Nat) : Device := if bitOf v 0 then d.storeRequest.2 else d

/-- STORE_CMD. -/
def execStoreCmd (data : Word) (s : State) : Host.Outcome State Fault Refusal := actOn s fun d => d.storeCmdWrite data.toNat

/-- RECALL_DONE (R649, R650): nothing ends while the GRAIN domain is off. -/
def execRecallDone (s : State) : Host.Outcome State Fault Refusal :=
  actOn s fun d => if d.fldBit Fld.pwrDomStatusOn 19 then d.recallEnd else d

/-- POWER_FAIL_AUTOSTORE (R647, R648, R676). -/
def execPowerFailAutostore (s : State) : Host.Outcome State Fault Refusal := actOn s Device.powerFail

/-- The power-fail cause has ended (R648): writes to channel S are served again and a later power-fail STORE may start. -/
def Device.powerFailEnd (d : Device) : Device := { d with grain := { d.grain with pfail := false, pfStored := false } }

/-- POWER_FAIL_END. -/
def execPowerFailEnd (s : State) : Host.Outcome State Fault Refusal := actOn s Device.powerFailEnd

/-! ### Page writes -/

/-- A write of GRN_PGWR by a TCID (R653 to R655): its span is judged as a T2 write of that master and TCID. -/
def Device.pageWrite (d : Device) (tcid v : Nat) : Device :=
  if !bitOf v 31 then d
  else
    let ch := bitsOf v 18 1
    let off := bitsOf v 0 18
    let len := bitsOf v 19 7
    if d.grain.page.isSome ∨ len = 0 ∨ 64 < len ∨ grainSize ch ≤ off ∨ (ch = 0 ∧ grainSize 0 < off + len) then
      d.pageStart tcid ch off len false
    else
      let n := if ch = 1 then min len (64 - off % 64) else len
      let r := d.judgeSpan (masterOfTcid tcid) tcid 2 (grainBase ch + off) n true
      r.2.pageStart tcid ch off len (!r.1)

/-- PAGE_WRITE. -/
def execPageWrite (tcid : Fin 64) (data : Word) (s : State) : Host.Outcome State Fault Refusal :=
  actOn s fun d => d.pageWrite tcid.val data.toNat

/-- PAGE_WRITE_DONE (R655). -/
def execPageWriteDone (s : State) : Host.Outcome State Fault Refusal := actOn s Device.pageEnd

/-! ### Unlocks and passwords -/

/-- The named unlock of a TCID ends (R662); GRN_OP_RESULT records the relock. -/
def Device.relock (d : Device) (tcid ch region : Nat) (write : Bool) : Device :=
  (d.endUnlocks fun u => u == ⟨tcid, ch, region, write⟩).grainOpResult tcid 0

/-- Every unlock of a TCID ends (R662). -/
def Device.relockAll (d : Device) (tcid : Nat) : Device := (d.endUnlocks fun u => u.tcid == tcid).grainOpResult tcid 0

/-- A write of GRN_UNLOCK_CMD by a TCID (R660, R662): ALL and RELOCK end unlocks, otherwise it is an attempt. -/
def Device.unlockCmd (d : Device) (tcid v : Nat) : Device :=
  let ch := bitsOf v 0 1
  let region := bitsOf v 1 3
  let write := bitOf v 4
  if bitOf v 6 then d.relockAll tcid
  else if bitOf v 5 then d.relock tcid ch region write
  else d.grainUnlock tcid ch region write

/-- GRN_UNLOCK (R660, R661). -/
def execGrnUnlock (tcid : Fin 64) (ch : Fin 2) (region : Fin 8) (write : Bool) (s : State) : Host.Outcome State Fault Refusal :=
  actOn s fun d => d.grainUnlock tcid.val ch.val region.val write

/-- RELOCK (R662). -/
def execRelock (tcid : Fin 64) (ch : Fin 2) (region : Fin 8) (write : Bool) (s : State) : Host.Outcome State Fault Refusal :=
  actOn s fun d => d.relock tcid.val ch.val region.val write

/-- RELOCK_ALL (R662). -/
def execRelockAll (tcid : Fin 64) (s : State) : Host.Outcome State Fault Refusal :=
  actOn s fun d => d.relockAll tcid.val

/-- UNLOCK_TIMEOUT (R662): while MS is not 0, an unlock whose TCID has made no access for that time ends. -/
def execUnlockTimeout (tcid : Fin 64) (ch : Fin 2) (region : Fin 8) (write : Bool) (s : State) :
    Host.Outcome State Fault Refusal :=
  actOn s fun d =>
    if d.fld Fld.grnUnlockTimeoutMs = 0 then d else d.endUnlocks fun u => u == ⟨tcid.val, ch.val, region.val, write⟩

/-- A write of GRN_PW_SET by a TCID: TARGET bit 0 CH, bits 3 to 1 REGION, bit 4 KIND (R663). -/
def Device.pwSetWrite (d : Device) (tcid v : Nat) : Device := d.passwordSet tcid (bitsOf v 0 1) (bitsOf v 1 3) (bitOf v 4)

/-- PW_SET (R663). -/
def execPwSet (tcid : Fin 64) (ch : Fin 2) (region : Fin 8) (write : Bool) (s : State) : Host.Outcome State Fault Refusal :=
  actOn s fun d => d.passwordSet tcid.val ch.val region.val write

/-- GRAIN_PATROL (R658). -/
def execGrainPatrol (s : State) : Host.Outcome State Fault Refusal :=
  actOn s fun d => if d.fldBit Fld.pwrDomStatusOn 19 then d.grainPatrol else d

/-! ### Resident store -/

/-- BUF_CLEAR (R694), which RES_CMD refuses in ISC mode (R710). -/
def Device.bufClearCmd (d : Device) : Device :=
  if d.flag Fld.resStatusIscMode then d.resResult 3 0x79 false 0 else d.resBufClear

/-- A write of RES_CMD (R692 to R695): an OP that the table does not list is refused with BAD_OP (0x72). -/
def Device.resCmdWrite (d : Device) (v : Nat) : Device :=
  let op := bitsOf v 0 3
  if op = 1 then d.resProgram.2
  else if op = 2 then (d.eraseSector (bitsOf v 8 9) false).2
  else if op = 3 then d.bufClearCmd
  else d.resResult op (if d.resBusy then 0x70 else if d.flag Fld.resStatusIscMode then 0x79 else 0x72) false 0

/-- PROGRAM (R692). -/
def execProgram (s : State) : Host.Outcome State Fault Refusal := actOn s fun d => d.resProgram.2

/-- ERASE (R693). -/
def execErase (sector : Fin 512) (s : State) : Host.Outcome State Fault Refusal :=
  actOn s fun d => (d.eraseSector sector.val false).2

/-- BUF_CLEAR. -/
def execBufClear (s : State) : Host.Outcome State Fault Refusal := actOn s Device.bufClearCmd

/-- SUSPEND (R697, R700): a read of the busy bank has waited until the operation could stop. -/
def execSuspend (s : State) : Host.Outcome State Fault Refusal := actOn s Device.resSuspend

/-- RESUME (R698). -/
def execResume (s : State) : Host.Outcome State Fault Refusal := actOn s Device.resResume

/-- TORN_SCAN (R702). -/
def execTornScan (s : State) : Host.Outcome State Fault Refusal :=
  actOn s fun d => if d.fldBit Fld.pwrDomStatusOn 20 then d.tornScan else d

end Sys2Proof.Machine
end

