-- ==== Sys2Proof/Machine/TurnCmds.lean ====
section
/-! DEFINITION. Commands of the tick generator, the slot mailboxes and the automatic actions of a turn (chapters 08, 12,
13, 23). -/

namespace Sys2Proof.Machine

/-- TURN_TICK: a tick of the internal source, or of a ring follower that holds a marker (R291, R292). -/
def execTurnTick (s : State) : Host.Outcome State Fault Refusal := actOn s Device.turnTick

/-- TURN_IN_EDGE (R285, R286). -/
def execTurnInEdge (s : State) : Host.Outcome State Fault Refusal := actOn s Device.turnInEdge

/-- TRIAL_REVERT (R432). -/
def execTrialRevert (slot : Fin 16) (s : State) : Host.Outcome State Fault Refusal := actOn s fun d => d.trialRevert slot

/-- IDLE_RETAIN (R904), judged at member 0 of the slot's group. -/
def execIdleRetain (slot : Fin 16) (s : State) : Host.Outcome State Fault Refusal :=
  actOn s fun d => d.idleRetain (d.member0 slot)

/-- VECTOR_AGE_EXPIRY (R848). -/
def execVectorAgeExpiry (port : Fin 2) (fn vec : Nat) (s : State) : Host.Outcome State Fault Refusal :=
  actOn s fun d => d.vectorExpire port fn vec

/-- TICK_LOSS (R308). -/
def execTickLoss (s : State) : Host.Outcome State Fault Refusal := actOn s Device.tickLoss

/-- TURN_RUN: a write that sets TURN_CTL.RUN (R281). -/
def execTurnRun (s : State) : Host.Outcome State Fault Refusal := actOn s Device.turnStart

/-- TURN_PERIOD_WRITE (R284). -/
def execTurnPeriodWrite (data : Word) (s : State) : Host.Outcome State Fault Refusal :=
  actOn s fun d => d.turnPeriodWrite data.toNat

/-- TURN_SRC_WRITE: a write of TURN_CTL that names SRC and ADOPT (R288). -/
def execTurnSrcWrite (src : Fin 4) (adopt : Bool) (s : State) : Host.Outcome State Fault Refusal :=
  actOn s fun d => d.turnCtlWrite (src.val * 2 + natOf adopt * 8)

/-- TURN_COUNT_LO_READ (R313). -/
def execTurnCountLoRead (tcid : Fin 64) (s : State) : Host.Outcome State Fault Refusal :=
  actOn s fun d =>
    let r := d.turnLoRead tcid.val
    r.2.emit (.resp 0 r.1)

/-- TURN_OVR_CLR (R1022). -/
def execTurnOvrClr (data : Word) (s : State) : Host.Outcome State Fault Refusal :=
  actOn s fun d => d.turnOvrClr data.toNat

/-- MB_IN_PUSH (R526). -/
def execMbInPush (slot : Fin 16) (s : State) : Host.Outcome State Fault Refusal := actOn s fun d => d.mbPush slot

/-- MB_OUT_POP (R527). -/
def execMbOutPop (slot : Fin 16) (s : State) : Host.Outcome State Fault Refusal := actOn s fun d => d.mbPop slot

end Sys2Proof.Machine
end

