-- ==== Sys2Proof/Machine/RegWrite.lean ====
section
/-! DEFINITION. Register accesses: the access codes (R9 to R13, R17 to R20, R1022) and what a write of a register does beyond them. -/

namespace Sys2Proof.Machine

/-! ### Access codes (R10, R18, R1022) -/

/-- A field after a write: `locked` says that its block's LOCK is 1. -/
def fieldAfter (locked : Bool) (f : FieldSpec) (old v : Nat) : Nat :=
  let o := bitsOf old f.lo f.width
  let x := bitsOf v f.lo f.width
  match f.acc with
  | .rw => x
  | .rwl => if locked then o else x
  | .w1c => Nat.land o (Nat.xor (2 ^ f.width - 1) x)
  | .w1s => Nat.lor o x
  | .clr => if x = 0 then o else 0
  | .ro | .wo => o

/-- A register after a write: every field by its own code, reserved bits as they are. -/
def regAfter (locked : Bool) (r : RegSpec) (old v : Nat) : Nat :=
  r.fields.foldl (fun w f => withBits w f.lo f.width (fieldAfter locked f old v)) old

/-- The LOCK field of a block of device control space, by its 64 KiB window. -/
def lockField (block : Nat) : Option Fld :=
  if block = 4 then some Fld.evtCtlLock else if block = 5 then some Fld.bmxCtlLock else if block = 6 then some Fld.safeCtlLock
  else if block = 10 then some Fld.resCtlLock else if block = 13 then some Fld.hwdCtlLock else none

/-- The LOCK of the block that holds an address is 1. -/
def Device.blockLocked (d : Device) (a : Nat) : Bool :=
  decide (0x80000000 ≤ a) && match lockField ((a - 0x80000000) / 0x10000) with | some f => d.flag f | none => false

/-- A write by the access codes alone. -/
def Device.plainWrite (d : Device) (a v : Nat) : Device :=
  match regSpecAt a with
  | some r => d.wr a (regAfter (d.blockLocked a) r (d.rd a) v)
  | none => d

/-! ### Registers with effects of their own -/

/-- The TURN_ block. -/
def Device.writeTurn (d : Device) (a v : Nat) : Device :=
  if a = Reg.turnCtl then d.turnCtlWrite v
  else if a = Reg.turnPeriod then d.turnPeriodWrite v
  else if a = Reg.turnOvrClr then d.turnOvrClr v
  else d.plainWrite a v

/-- The SCRIBE_ block. -/
def Device.writeScribe (d : Device) (a v : Nat) : Device :=
  if a = Reg.scribeAck then d.scribeAck
  else if a = Reg.scribeCtl then
    let d := d.plainWrite a v
    if bitOf v 0 then d.scribeFire else d
  else d.plainWrite a v

/-- The EVT_ block: the VF and SAFE bits of a route are writable where the table says; level outputs follow (R842). -/
def Device.writeEvt (d : Device) (a v : Nat) : Device :=
  let d :=
    if Reg.evtRoute 0 ≤ a ∧ a < Reg.evtRoute 512 then
      let e := (a - Reg.evtRoute 0) / 4
      let old := d.rd a
      let v := if e < 384 ∨ e = 507 ∨ e = 508 ∨ e = 510 then v else withBit v 0 (bitOf old 0)
      d.plainWrite a (if 480 ≤ e ∧ e ≤ 495 then v else withBit v 5 (bitOf old 5))
    else d.plainWrite a v
  d.safeLow.ringRefresh

/-- The SAFE_ block: a cause cleared while it is active is set again (R993). -/
def Device.writeSafe (d : Device) (tcid a v : Nat) : Device :=
  if a = Reg.safeCause then
    let d := d.plainWrite a v
    d.wr a (Nat.lor (d.rd a) (d.rd Reg.safeActive))
  else if a = Reg.safeTest then d.safeTest tcid v
  else if a = Reg.safeCtl then
    let d := d.plainWrite a v
    let d := if bitOf v 1 then d.safeRelease tcid else d
    let d := if bitOf v 2 then (d.dssClear tcid).2 else d
    d.ringRefresh
  else (d.plainWrite a v).ringRefresh

/-- The RING_ block. -/
def Device.writeRing (d : Device) (a v : Nat) : Device :=
  if a = Reg.ringTxqPush then d.txqPush
  else if a = Reg.ringRxqPop then d.rxqPop
  else if a = Reg.ringRxDone then d.rxDone v
  else (d.plainWrite a v).ringRefresh

/-- The GRN_ block: candidates, passwords and results are held for each TCID (R685). -/
def Device.writeGrn (d : Device) (tcid a v : Nat) : Device :=
  if a = Reg.grnStoreCmd then d.storeCmdWrite v
  else if a = Reg.grnUnlockCmd then d.unlockCmd tcid v
  else if a = Reg.grnPwSet then d.pwSetWrite tcid v
  else if a = Reg.grnPgwr then d.pageWrite tcid v
  else if a = Reg.grnUnlockLo ∨ a = Reg.grnUnlockHi ∨ a = Reg.grnPwLo ∨ a = Reg.grnPwHi then d.wr (perTcid tcid a) v
  else d.plainWrite a v

/-- The RES_ block: values below the limits of the table leave the register as it is. -/
def Device.writeRes (d : Device) (a v : Nat) : Device :=
  if a = Reg.resCmd then d.resCmdWrite v
  else if a = Reg.resSuspendCfg ∧ (bitsOf v 8 12 < 50 ∨ bitsOf v 0 8 = 0) then d
  else if a = Reg.resSuspMax ∧ bitsOf v 0 16 < 100 then d
  else d.plainWrite a v

/-- The BENCH_ block: an IDLE_US of 0 and a PERIOD_MS outside 100 to 60,000 leave that field as it is (R609, R612). -/
def Device.writeBench (d : Device) (a v : Nat) : Device :=
  if a = Reg.benchSleepCtl ∧ bitsOf v 8 16 = 0 then d.plainWrite a (withBits v 8 16 (d.fld Fld.benchSleepCtlIdleUs))
  else if a = Reg.benchPatrolCtl ∧ (bitsOf v 1 16 < 100 ∨ 60000 < bitsOf v 1 16) then
    d.plainWrite a (withBits v 1 16 (d.fld Fld.benchPatrolCtlPeriodMs))
  else d.plainWrite a v

/-- The LDR_ block. -/
def Device.writeLdr (d : Device) (a v : Nat) : Device :=
  if a = Reg.ldrJqPush then d.jqPush else if a = Reg.ldrSwapReq then d.swapReqWrite v else d.plainWrite a v

/-- Queue `q` of Heartwood holds nothing and has nothing in progress (R739). -/
def Device.queueIdle (d : Device) (q : Nat) : Bool :=
  d.fld (Fld.hwdQSqStatusDepth q) == 0 && d.fld (Fld.hwdQCqStatusDepth q) == 0 && d.inProgress q == 0

/-- The HWD_ block. -/
def Device.writeHwd (d : Device) (a v : Nat) : Device :=
  let q := (a - Reg.hwdQSqBase 0) / 0x20
  if Reg.hwdQSqBase 0 ≤ a ∧ a < Reg.hwdQSqBase 3 then
    if a = Reg.hwdQPush q then d.sqPush q
    else if a = Reg.hwdQCpop q then d.cqPop q
    else if (a = Reg.hwdQSqBase q ∨ a = Reg.hwdQCqBase q) ∧ !d.queueIdle q then d
    else d.plainWrite a v
  else d.plainWrite a v

/-- The PWR_ block but PWR_DOM_CTL: DOZE_EN 0 ends DOZE. -/
def Device.writePwr (d : Device) (a v : Nat) : Device :=
  let d := d.plainWrite a v
  if d.flag Fld.pwrCtlDozeEn then d else d.setDoze false

/-- The BMX_ block with the access control tables: entries 0 and 1 are hardwired (R582). -/
def Device.writeBmx (d : Device) (a v : Nat) : Device :=
  if a = Reg.actDenyPop then d.denyPop
  else if 0x80051000 ≤ a ∧ 0x100 ≤ a % 0x1000 ∧ a % 0x1000 < 0x110 then d
  else d.plainWrite a v

/-- The slot control window of slot `n` at offset `o`: a VF changes neither VFREQ_EN nor WINSEL; CORR_CLR clears its count. -/
def Device.writeSlc (d : Device) (tcid : Nat) (n : Fin 16) (a o v : Nat) : Device :=
  let vf : Bool := match portOfTcid tcid with | some (_, f) => f != 0 | none => false
  if o = 0x008 then d.slcReq n tcid (bitsOf v 0 3)
  else if o = 0x010 then
    if vf then d.setFlag (Fld.slcCtlSlotEn n) (bitOf v 0) else d.plainWrite a v
  else if 0x100 ≤ o ∧ o < 0x140 then
    let b := (o - 0x100) / 4
    let d := d.plainWrite a v
    let d := if bitOf v 30 then d.wr (Reg.slcBmErraddr n b) 0 else d
    if bitOf v 27 then d.setFld (Fld.slcBmStatusCorrCount n b) 0 else d
  else d.plainWrite a v

/-- The mailbox and DMA windows of slot `n` at offset `o` (R526, R527, R534, R550, R551). -/
def Device.writeWindow (d : Device) (n : Fin 16) (a o v : Nat) : Device :=
  if o = 0x1040 then d.mbPush n
  else if o = 0x1044 then d.mbPop n
  else if o = 0x2000 then
    let d := d.plainWrite a (v % 2)
    (if bitOf v 1 then d.setFlag (Fld.dmaStatusHalted n) false else d).returnBalance n
  else if o = 0x2008 ∨ o = 0x200C ∨ o = 0x2010 then (if d.flag (Fld.dmaCtlEn n) then d else d.plainWrite a v)
  else if a = Reg.dmaTail n then d.dmaTail n v
  else d.plainWrite a v

/-- A write of a register by a TCID, where it touches the device alone. -/
def Device.regWrite (d : Device) (tcid a v : Nat) : Device :=
  if 0x40000000 ≤ a ∧ a < 0x50000000 then
    let n := slotOf ((a - 0x40000000) / 0x1000000)
    let o := (a - 0x40000000) % 0x1000000
    if o < 0x1000 then d.writeSlc tcid n a o v else d.writeWindow n a o v
  else if a = Reg.engOp then d.engineStart tcid (bitsOf v 0 8)
  else if a < 0x80000000 then d.plainWrite a v
  else
    match (a - 0x80000000) / 0x10000 with
    | 0 => if a = Reg.devResetCmd then d.devReset v else d.plainWrite a v
    | 1 => d.writePwr a v
    | 2 => d.writeTurn a v
    | 3 => d.writeScribe a v
    | 4 => d.writeEvt a v
    | 5 => d.writeBmx a v
    | 6 => d.writeSafe tcid a v
    | 8 => d.writeRing a v
    | 9 => d.writeGrn tcid a v
    | 10 => d.writeRes a v
    | 11 => d.writeBench a v
    | 12 => d.writeLdr a v
    | 13 => d.writeHwd a v
    | _ => d.plainWrite a v

/-- A write of a register by a TCID. -/
def State.regWrite (s : State) (tcid a v : Nat) : State :=
  match allQueues.find? fun (q : Fin 4) => a = Reg.evtQPop q.val with
  | some q => s.popQueue q
  | none =>
    if a = Reg.pwrDomCtl then s.domCtlWrite tcid v
    else { s with dev := s.dev.regWrite tcid a v }

/-- A read of a register by a TCID (R8, R313, R685). -/
def Device.regRead (d : Device) (tcid a : Nat) : Nat × Device :=
  if a = Reg.turnCountLo then d.turnLoRead tcid
  else if a = Reg.turnCountHi then d.turnHiRead tcid
  else if a = Reg.grnUnlockStatus then (d.unlockStatus tcid, d)
  else if a = Reg.grnOpResult then (d.rd (perTcid tcid a), d)
  else (d.view a, d)

/-! ### REGISTER_WRITE -/

/-- A granted write of a register: a hole answers a decode error (R36), an access that is not one aligned dword TGTERR (R9), a
function that is not ready NOTREADY (R20). -/
def State.registerWrite (s : State) (tcid a v : Nat) : State :=
  let code :=
    if (regSpecAt (a / 4 * 4)).isNone then 1
    else if a % 4 ≠ 0 then 4
    else match targetOf a with
      | some t => if s.dev.targetReady t a then 0 else 3
      | none => 1
  let s := if code = 0 then s.regWrite tcid a v
    else if code = 1 then { s with dev := s.dev.decodeError (masterOfTcid tcid) tcid a true } else s
  { s with dev := s.dev.emit (.resp code 0) }

/-- REGISTER_WRITE (R10). -/
def execRegisterWrite (tcid : Fin 64) (addr : BitVec 40) (data : Word) (s : State) : Host.Outcome State Fault Refusal :=
  actState s fun s => s.registerWrite tcid.val addr.toNat data.toNat

end Sys2Proof.Machine
end

