-- ==== Sys2Proof/Machine/Matrix.lean ====
section
/-! DEFINITION. The bus matrix at work (chapter 14): issue and credits, arbitration, locked sequences, the judgement of a granted
transaction, what each target does with it, and where its response goes. -/

namespace Sys2Proof.Machine

/-! ### What a target does (step 6 of R563) -/

/-- The TCID that a transaction carries (R38). -/
def txnTcid (x : Txn) : Nat :=
  let m := x.master.val
  if m = 4 then 0x3D else if m = 5 then 0x3F else if m = 2 ∨ m = 3 ∨ m = 6 ∨ m = 7 then 0x3E else x.tcid.val

/-- MB_IN_STAGE or MB_OUT_HEAD of some slot (R513). -/
def stageWindow (a : Nat) : Bool :=
  let o := (a - 0x40000000) % 0x1000000
  decide (0x40000000 ≤ a) && decide (a < 0x50000000) &&
    ((decide (0x1000 ≤ o) && decide (o < 0x1040)) || (decide (0x1080 ≤ o) && decide (o < 0x10C0)))

/-- An access that registers accept (R9, R513). -/
def regSpanOk (a len : Nat) (en : List Bool) : Bool :=
  en.all id && ((len == 4 && a % 4 == 0) ||
    (stageWindow a && (len == 4 || len == 8 || len == 16 || len == 32 || len == 64) && a % len == 0))

/-- Read a span of registers. -/
def Device.regSpanRead (d : Device) (tcid a len : Nat) : List Byte × Device :=
  (List.range (len / 4)).foldl (fun (r : List Byte × Device) i =>
    let (v, d) := r.2.regRead tcid (a + 4 * i)
    (r.1 ++ leBytes 4 v, d)) ([], d)

/-- Write a span of registers. -/
def State.regSpanWrite (s : State) (tcid a : Nat) (data : List Byte) : State :=
  iter (data.length / 4) (fun i s => s.regWrite tcid (a + 4 * i) (leAt data (4 * i) 4)) s

/-- An access to T5 is aligned and of a size it serves (R397). -/
def planeSpanOk (a len : Nat) : Bool := (len == 8 || len == 16 || len == 32) && a % len == 0

/-- Stored byte of T5: bytes 72 to 127 of a frame read 0 (R375, R404). -/
def Device.planeByte (d : Device) (a : Nat) : Byte := if 72 ≤ a % 128 then 0 else d.byte a

/-- A load is writing plane `p` of slot `n`. -/
def Device.loadWrites (d : Device) (n : Fin 16) (p : Nat) : Bool :=
  match d.loader.job with
  | some j => j.op == 1 && decide (n ∈ j.members) && p == d.inact n
  | none => false

/-- A read that reaches its target: response code and data. -/
def Device.targetRead (d : Device) (t m tcid a len : Nat) (en : List Bool) : Nat × List Byte × Device :=
  if t = 0 then
    match d.resReadBlock a len with
    | (some b, d) => (0, b, d)
    | (none, d) => (4, [], d)
  else if t = 1 then
    match d.benchReadBy (m != 2) (a - benchBase) len with
    | (some b, d) => (0, b, d)
    | (none, d) => (4, [], d)
  else if t = 2 then
    let (ch, o) := grainAt a
    let (ok, d) := d.grainJudge tcid ch o len false
    if !ok then (4, [], d)
    else match d.grainRead ch o len with
      | (some b, d) => (0, b, d)
      | (none, d) => (4, [], d)
  else if t = 5 then
    match frameOfOffset ((a - 0x60000000) % 0x400000) with
    | none => (4, [], d)
    | some (r, b, _, _) =>
      let n := slotOf ((a - 0x60000000) / 0x800000)
      let p := (a - 0x60000000) / 0x400000 % 2
      if !planeSpanOk a len || (m == 5 && !(r == 7 && b == 1) && d.pValid n p && bitOf (d.pSec n p) 0) then (4, [], d)
      else (0, (List.range len).map fun i => d.planeByte (a + i), d)
  else if t = 7 then (0, d.bytes a len, d)
  else match if t = 4 then apertureOf a else none with
    | some (n, b) => if d.bmUnready n then (3, [], d) else (0, d.hostBytes n b (a % 0x10000) len, d.noteUse n)
    | none =>
      if regSpanOk a len en then
        let (v, d) := d.regSpanRead tcid a len
        (0, v, d)
      else (4, [], d)

/-- The enabled bytes of a span are stored as they are given. -/
def Device.storeEnabled (d : Device) (a : Nat) (en : List Bool) (data : List Byte) : Device :=
  (data.zip en).zipIdx.foldl (fun d x => if x.1.2 then d.setByte (a + x.2) x.1.1 else d) d

/-- A write of T5 (R397, R399 to R401, R404). -/
def Device.planeWrite (d : Device) (m a len : Nat) (en : List Bool) (data : List Byte) : Nat × Device :=
  match frameOfOffset ((a - 0x60000000) % 0x400000) with
  | none => (4, d)
  | some (r, b, _, _) =>
    let n := slotOf ((a - 0x60000000) / 0x800000)
    let p := (a - 0x60000000) / 0x400000 % 2
    let outside := m == 5 || m == 7
    if !planeSpanOk a len then (4, d)
    else if !en.any id then (0, d)
    else if p == d.act n then (4, d.raiseSlot n 10 [])
    else if outside && (d.loadWrites n p || (r == 7 && b == 1)) then (4, d)
    else
      let keep := (List.range len).map fun i => decide ((a + i) % 128 < 72)
      let d := d.readAhead.storeEnabled a ((en.zip keep).map fun x => x.1 && x.2) data
      (0, if outside then d.setValid n.val p false else d)

/-- A write that reaches its target: response code. -/
def State.targetWrite (s : State) (t m tcid a len : Nat) (en : List Bool) (data : List Byte) : Nat × State :=
  let d := s.dev
  let onDev := fun (r : Bool × Device) => ((if r.1 then 0 else 4 : Nat), { s with dev := r.2 })
  if t = 0 then onDev (d.resWrite (m == 5) tcid a en data)
  else if t = 1 then onDev (d.benchWriteBy m (a - benchBase) en data)
  else if t = 2 then
    let (ch, o) := grainAt a
    let (ok, d) := d.grainJudge tcid ch o len true
    if !ok || (ch == 0 && d.grainPfBlocked) then (4, { s with dev := d }) else onDev (d.grainWrite ch o en data)
  else if t = 5 then
    let (c, d) := d.planeWrite m a len en data
    (c, { s with dev := d })
  else if t = 7 then (0, { s with dev := d.storeEnabled a en data })
  else match if t = 4 then apertureOf a else none with
    | some (n, b) =>
      if d.bmUnready n then (3, s) else if d.hostwinRo n then (4, s)
      else (0, { s with dev := (d.hostWrite n b (a % 0x10000) en data).noteUse n })
    | none => if regSpanOk a len en then (0, s.regSpanWrite tcid a data) else (4, s)

/-! ### Locked sequences (R574 to R578) -/

/-- The target whose lock master `m` holds. -/
def MtxUnit.lockOf (u : MtxUnit) (m : Nat) : Option (Fin 8) :=
  ([0, 1, 2, 3, 4, 5, 6, 7] : List (Fin 8)).find? fun t => u.locks[t].holder == some m

/-- BMX_STATUS shows the lock held, that of the lowest target where two are. -/
def State.mirrorLocks (s : State) : State :=
  let held := ([0, 1, 2, 3, 4, 5, 6, 7] : List (Fin 8)).find? fun t => s.mtx.locks[t].holder.isSome
  let v := match held with
    | some t => 256 + (s.mtx.locks[t].holder.getD 0) * 16 + t.val
    | none => 0
  { s with dev := s.dev.wr Reg.bmxStatus v }

/-- Change the lock of a target. -/
def State.modLock (s : State) (t : Fin 8) (f : MtxLock → MtxLock) : State :=
  State.mirrorLocks { s with mtx := { s.mtx with locks := s.mtx.locks.set t (f (s.mtx.locks[t])) } }

/-- The lock of a target ends. -/
def State.unlockTarget (s : State) (t : Fin 8) : State := s.modLock t fun l => { l with holder := none }

/-- Step 3 of R563: true where the lock rules allow the transaction. A locked transaction after a forced release receives LOCKERR once
(R578); one that its lock's holder addresses to another target receives LOCKERR with event 435 and ends the lock (R577). -/
def State.lockStep (s : State) (t : Fin 8) (x : Txn) : Bool × State :=
  let m := x.master.val
  if (x.lock || x.lockEnd) && (s.mtx.locks[t].broken).contains m then
    (false, s.modLock t fun l => { l with broken := l.broken.filter fun k => k != m })
  else
    match s.mtx.lockOf m with
    | some t' =>
      if x.lock && t' != t then
        let s := s.unlockTarget t'
        (false, { s with dev := s.dev.raise 435 [(m, 4), (t.val, 3)] })
      else (true, s)
    | none => (true, s)

/-- The grant of the first locked transaction of M3 or M5 takes the lock (R574, R575). -/
def State.takeLock (s : State) (t : Fin 8) (x : Txn) : State :=
  let m := x.master.val
  if x.lock && (m == 3 || m == 5) && s.mtx.locks[t].holder.isNone && (s.mtx.lockOf m).isNone &&
      !(s.mtx.locks[t].broken).contains m then s.modLock t fun l => { l with holder := some m }
  else s

/-- The lock ends with LOCK_END, or with any response other than GOOD to its holder (R576, R577). -/
def State.endLock (s : State) (t : Fin 8) (x : Txn) (code : Nat) : State :=
  if s.mtx.locks[t].holder = some x.master.val ∧ (code ≠ 0 ∨ x.lockEnd) then s.unlockTarget t else s

/-! ### The judgement (R563, R585) -/

/-- Step 6, with an integrity error of a read's data on its way back where `fault` is 2. -/
def State.performTxn (s : State) (t : Fin 8) (x : Txn) (fault : Nat) : Nat × List Byte × State :=
  let a := x.addr.toNat
  let m := x.master.val
  if x.write then
    let (c, s) := s.targetWrite t.val m (txnTcid x) a x.len x.en x.data
    (c, [], s)
  else
    let (c, v, d) := s.dev.targetRead t.val m (txnTcid x) a x.len x.en
    if c = 0 ∧ fault = 2 then (6, [], { s with dev := d.integrityError m t.val })
    else (c, v, { s with dev := d })

/-- The judgement of a granted transaction: `fault` is 1 for an integrity error found at the target, 2 for one of the data returned. -/
def State.judge (s : State) (t : Fin 8) (x : Txn) (fault : Nat) : Nat × List Byte × State :=
  let a := x.addr.toNat
  let m := x.master.val
  let tcid := txnTcid x
  let (hit, d) := s.dev.takeInjection m
  let s := { s with dev := d }
  if x.corrupt || fault == 1 || hit then (6, [], { s with dev := s.dev.integrityError m t.val })
  else if (s.dev.decode a).isNone then (1, [], { s with dev := s.dev.decodeError m tcid a x.write })
  else if !s.dev.hasPath m t.val x.write then (2, [], { s with dev := s.dev.deny m tcid t.val a x.write 0 })
  else
    let (free, s) := s.lockStep t x
    if !free then (5, [], s)
    else if !s.dev.actGrants t.val m tcid a x.write then (2, [], { s with dev := s.dev.deny m tcid t.val a x.write 1 })
    else if !s.dev.targetReady t.val a then (3, [], s)
    else s.performTxn t x fault

/-! ### Responses -/

/-- All transactions of a port request have been answered: a completion, or the error response (R519, R594). -/
def Device.portFinish (d : Device) (r : PortReq) : Device :=
  if r.worst = 0 then
    if r.write then d else d.emit (.completion r.port r.fn r.tag 0 (r.data.flatMap (·.2)))
  else
    let d := d.errorResponse r.port r.fn (if r.worst = 1 then 0 else 1) r.addr r.write r.header
    if r.write then d else d.emit (.completion r.port r.fn r.tag (if r.worst = 1 then 1 else 4) [])

/-- A part of a port request is answered. -/
def State.portPart (s : State) (e : MtxEntry) (code : Nat) (data : List Byte) : State :=
  match s.mtx.reqs.find? fun r => r.serial = e.req with
  | none => s
  | some r =>
    let r :=
      { r with
        left := r.left - 1
        worst := if r.worst = 0 then code else r.worst
        data := r.data ++ [(e.txn.addr.toNat, data)] }
    if r.left = 0 then
      { s with mtx := { s.mtx with reqs := s.mtx.reqs.filter fun q => q.serial != r.serial }, dev := s.dev.portFinish r }
    else { s with mtx := { s.mtx with reqs := s.mtx.reqs.map fun q => if q.serial = r.serial then r else q } }

/-- The SMBus bridge receives a response (R752): LAST_STATUS keeps the first one other than GOOD of a WRITE. -/
def SmbUnit.answer (u : SmbUnit) (write : Bool) (code : Nat) (data : List Byte) : SmbUnit :=
  if write then { u with writes := u.writes - 1, status := if u.status = 0 then code else u.status }
  else { u with reading := false, readCode := code, readData := data }

/-- The JTAG access port receives a response (R713). -/
def JtagUnit.answer (u : JtagUnit) (write : Bool) (code : Nat) (data : List Byte) : JtagUnit :=
  { u with
    axBusy := false
    axDone := true
    axRead := !write && code == 0
    axCode := code
    axData := BitVec.ofNat 32 (leOf data) }

/-- The response of a transaction reaches its master (R564, R731, R752, R713). -/
def State.respond (s : State) (e : MtxEntry) (code : Nat) (data : List Byte) : State :=
  let m := e.txn.master.val
  let d := s.dev.emit (.matrix m code data)
  if m < 2 then s.portPart e code data
  else if m = 4 then { s with dev := { d with smb := d.smb.answer e.txn.write code data } }
  else if m = 5 then { s with dev := { d with jtag := d.jtag.answer e.txn.write code data } }
  else if (m = 2 ∨ m = 3) ∧ code ≠ 0 then { s with dev := d.busError m e.txn.addr.toNat code }
  else { s with dev := d }

/-! ### Issue and credits (R560, R565, R568, R569) -/

/-- Transactions of a master in the queue of a target. -/
def MtxUnit.held (u : MtxUnit) (m : Nat) (t : Fin 8) : Nat := (u.queues[t].filter fun e => e.txn.master.val == m).length

/-- Transactions of a master in all queues. -/
def MtxUnit.outstanding (u : MtxUnit) (m : Nat) : Nat :=
  ([0, 1, 2, 3, 4, 5, 6, 7] : List (Fin 8)).foldl (fun n t => n + u.held m t) 0

/-- The most transactions a master has outstanding: 16, and one for the SMBus bridge (R565, R740). -/
def mostOutstanding (m : Nat) : Nat := if m = 4 then 1 else 16

/-- A target port by its number. -/
def targetFin (t : Nat) : Fin 8 := ⟨t % 8, Nat.mod_lt _ (by decide)⟩

/-- The target port answers a transaction that enters no queue; an answer of the locked target ends its holder's sequence (R569, R577). -/
def State.turnAway (s : State) (e : MtxEntry) (code : Nat) (d : Device) : State :=
  let s := { s with dev := d }
  let s := match targetOf e.txn.addr.toNat with
    | some t => s.endLock (targetFin t) e.txn code
    | none => s
  s.respond e code []

/-- A transaction that its master holds is issued where it may be: a step 1 or step 2 failure is answered without entering a queue
(R569); another enters the queue of its target where a credit is left; else its master keeps it. -/
def State.issueOne (s : State) (e : MtxEntry) : State :=
  let m := e.txn.master.val
  let a := e.txn.addr.toNat
  let tcid := txnTcid e.txn
  let wait : State := { s with mtx := { s.mtx with waiting := s.mtx.waiting ++ [e] } }
  if mostOutstanding m ≤ s.mtx.outstanding m then wait
  else
    match s.dev.decode a with
    | none =>
      if e.txn.corrupt then s.turnAway e 6 (s.dev.integrityError m ((targetOf a).getD 0))
      else s.turnAway e 1 (s.dev.decodeError m tcid a e.txn.write)
    | some k =>
      let t := targetFin k
      if !s.dev.hasPath m k e.txn.write then
        if e.txn.corrupt then s.turnAway e 6 (s.dev.integrityError m k)
        else s.turnAway e 2 (s.dev.deny m tcid k a e.txn.write 0)
      else if s.mtx.held m t < 4 then
        { s with mtx := { s.mtx with queues := s.mtx.queues.set t (s.mtx.queues[t] ++ [e]) } }
      else wait

/-- Every master issues what it holds, oldest first, as far as its credits go. -/
def State.pump (s : State) : State :=
  s.mtx.waiting.foldl State.issueOne { s with mtx := { s.mtx with waiting := [] } }

/-- Masters hold transactions of a request for issue. -/
def State.hold (s : State) (req : Nat) (l : List Txn) : State :=
  { s with mtx := { s.mtx with waiting := s.mtx.waiting ++ l.map fun x => ⟨x, false, req⟩ } }

/-! ### Arbitration (R570 to R573) -/

/-- The head of a master's queue at a target port. -/
def MtxUnit.headOf (u : MtxUnit) (t : Fin 8) (m : Nat) : Option MtxEntry := u.queues[t].find? fun e => e.txn.master.val == m

/-- A port wrote something before request `k` that is not yet performed (R740). -/
def MtxUnit.writesBefore (u : MtxUnit) (p k : Nat) : Bool := u.reqs.any fun r => r.port.val == p && r.write && decide (r.serial < k)

/-- The target can accept a transaction now: reads of the resident store stall until a suspension (R697), Bench lines that are busy
(R620), block memories that a capture or restore uses (R230), writes of channel S during a STORE (R646), and pushes of a Heartwood queue behind
earlier posted writes of the port (R740) wait. -/
def State.accepts (s : State) (t : Fin 8) (e : MtxEntry) : Bool :=
  let a := e.txn.addr.toNat
  let d := s.dev
  if t.val = 0 then e.txn.write || !d.resStalls a || d.resChanging a
  else if t.val = 1 then !(d.benchLine ((a - benchBase) / 64)).busy && decide (d.benchBusy < 16)
  else if t.val = 2 then !(e.txn.write && (grainAt a).1 == 0 && d.grain.store.isSome)
  else if t.val = 4 then
    match apertureOf a with
    | some (n, _) => !d.memBusy n
    | none => true
  else if t.val = 6 then
    !(e.txn.write && decide (e.txn.master.val < 2) && ([0, 1, 2].any fun q => a == Reg.hwdQPush q) &&
      s.mtx.writesBefore e.txn.master.val e.req)
  else true

/-- Master `m` can be granted at target `t`: its head waits, no other master holds the lock (R575), and the target accepts it. -/
def State.candidate (s : State) (t : Fin 8) (m : Nat) : Bool :=
  match s.mtx.headOf t m with
  | none => false
  | some e => (s.mtx.locks[t].holder.isNone || s.mtx.locks[t].holder == some m) && s.accepts t e

/-- The priority at which a head is arbitrated (R570, R572). -/
def State.priority (s : State) (t : Fin 8) (m : Nat) : Nat :=
  match s.mtx.headOf t m with
  | some e =>
    if e.aged then 16
    else if m = 8 then s.dev.rd (Reg.bmxPriHi t.val) % 16
    else bitsOf (s.dev.rd (Reg.bmxPriLo t.val)) (4 * m) 4
  | none => 0

/-- The master granted, and whether it won a tie (R570, R571). -/
def State.winner (s : State) (t : Fin 8) : Option (Nat × Bool) :=
  let c := (List.range 9).filter (s.candidate t)
  let top := c.foldl (fun p m => max p (s.priority t m)) 0
  match c.filter fun m => s.priority t m == top with
  | [] => none
  | [m] => some (m, false)
  | l => (((List.range 9).map fun i => (s.mtx.tie[t] + 1 + i) % 9).find? fun m => l.contains m).map fun m => (m, true)

/-- A target port grants one transaction (R563): it leaves its queue, is judged, and is answered; the credit returns. -/
def State.grant (s : State) (t : Fin 8) (fault : Nat) : State :=
  match s.winner t with
  | none => s
  | some (m, tied) =>
    match s.mtx.headOf t m with
    | none => s
    | some e =>
      let u :=
        { s.mtx with
          queues := s.mtx.queues.set t (s.mtx.queues[t].erase e)
          tie := if tied then s.mtx.tie.set t m else s.mtx.tie
          park := s.mtx.park.set t (some m) }
      let (code, data, s) := (State.takeLock { s with mtx := u } t e.txn).judge t e.txn fault
      ((s.endLock t e.txn code).respond e code data).pump

end Sys2Proof.Machine
end

