-- ==== Sys2Proof/Machine/JtagCmds.lean ====
section
/-! DEFINITION. Commands of the TAP: each makes its instruction current and goes through its data register once (chapter 17, R706 to
R714). -/

namespace Sys2Proof.Machine

/-- The instruction that an opcode acts as under the lock bits (R714). -/
def Device.tapActs (d : Device) (op : Nat) : Nat :=
  if d.lockBit 0 && op != 0x09 then 0xFF else if d.lockBit 2 && op == 0x20 then 0xFF else op

/-- What Capture-IR loads ("Capture-IR status bits" table; the two lowest bits are 01, as IEEE 1149.1 asks). -/
def Device.captureIr (d : Device) : Nat :=
  1 + 4 * natOf (d.flag Fld.resStatusIscMode) + 8 * natOf (match d.resident.job with | some j => j.isc | none => false) +
    16 * natOf d.jtag.iscFail + 32 * natOf (d.lockBit 1)

/-- Update-IR makes an instruction current (R706); one that takes control of the balls raises event 429 (R708). -/
def Device.updateIr (d : Device) (op : Nat) : Device :=
  let d := d.emit (.tdo 8 d.captureIr)
  let d := { d with jtag := { d.jtag with ir := d.tapActs op } }
  if d.jtag.ir == 0x00 || d.jtag.ir == 0x0C || d.jtag.ir == 0x0D then d.raise 429 [] else d

/-- An instruction is made current and, where the locks leave it its meaning, does `f`; an instruction that acts as BYPASS captures a 0
in the bypass register. -/
def Device.tap (d : Device) (op : Nat) (f : Device → Device) : Device :=
  let d := d.updateIr op
  if d.jtag.ir = op then f d else d.emit (.tdo 1 0)

/-- A pass through the bypass register. -/
def Device.tapBypass (d : Device) : Device := d.emit (.tdo 1 0)

/-- A pass through the boundary-scan register: `levels` is what Capture-DR finds, `cells` what is shifted in. -/
def Device.boundaryScan (d : Device) (levels cells : BitVec 1573) : Device :=
  let d := d.emit (.tdo 1573 levels.toNat)
  { d with jtag := { d.jtag with bscan := cells } }

/-- EXTEST (R707, R708). -/
def execExtest (levels cells : BitVec 1573) (s : State) : Host.Outcome State Fault Refusal :=
  actOn s fun d => d.tap 0x00 fun d => d.boundaryScan levels cells

/-- SAMPLE_PRELOAD (R707). -/
def execSamplePreload (levels cells : BitVec 1573) (s : State) : Host.Outcome State Fault Refusal :=
  actOn s fun d => d.tap 0x01 fun d => d.boundaryScan levels cells

/-- IDCODE (R66, R706). -/
def execIdcode (s : State) : Host.Outcome State Fault Refusal :=
  actOn s fun d => d.tap 0x09 fun d => d.emit (.tdo 32 0x2316C0B5)

/-- HIGHZ (R708). -/
def execHighz (s : State) : Host.Outcome State Fault Refusal := actOn s fun d => d.tap 0x0C Device.tapBypass

/-- CLAMP (R708). -/
def execClamp (s : State) : Host.Outcome State Fault Refusal := actOn s fun d => d.tap 0x0D Device.tapBypass

/-- BYPASS. -/
def execBypass (s : State) : Host.Outcome State Fault Refusal := actOn s fun d => d.tap 0xFF Device.tapBypass

/-! ### In-system programming (R709 to R712, R714, R720) -/

/-- ISC_ENABLE and Run-Test/Idle: ISC mode, but not under ISP_LOCK. -/
def Device.iscEnable (d : Device) : Device := if d.lockBit 1 then d else d.iscMode true

/-- ISC_ENABLE. -/
def execIscEnable (s : State) : Host.Outcome State Fault Refusal :=
  actOn s fun d => d.tap 0x10 fun d => d.tapBypass.iscEnable

/-- ISC_DISABLE: ISC mode ends. -/
def execIscDisable (s : State) : Host.Outcome State Fault Refusal :=
  actOn s fun d => d.tap 0x11 fun d => d.tapBypass.iscMode false

/-- ISC_NOOP. -/
def execIscNoop (s : State) : Host.Outcome State Fault Refusal := actOn s fun d => d.tap 0x12 Device.tapBypass

/-- ISC_ADDRESS_SHIFT. -/
def execIscAddressShift (addr : BitVec 25) (s : State) : Host.Outcome State Fault Refusal :=
  actOn s fun d => d.tap 0x13 fun d => { d with jtag := { d.jtag with iscAddr := addr } }

/-- ISC_DATA_SHIFT. -/
def execIscDataShift (data : BitVec 2048) (s : State) : Host.Outcome State Fault Refusal :=
  actOn s fun d => d.tap 0x14 fun d => { d with jtag := { d.jtag with iscData := data } }

/-- The ISC address advances. -/
def Device.iscAdvance (d : Device) (n : Nat) : Device :=
  { d with jtag := { d.jtag with iscAddr := d.jtag.iscAddr + BitVec.ofNat 25 n } }

/-- An ISC program or erase: refused with 0x71 under ISP_LOCK; it acts in ISC mode, while the RESIDENT domain is on. -/
def Device.iscOperate (d : Device) (op : Nat) (f : Device → Device) : Device :=
  if d.lockBit 1 then d.resResult op 0x71 true 0
  else if d.flag Fld.resStatusIscMode && d.fldBit Fld.pwrDomStatusOn 20 then f d
  else d

/-- ISC_PROGRAM in Run-Test/Idle. -/
def Device.iscProgram (d : Device) : Device :=
  d.iscOperate 1 fun d =>
    ((d.programPage (d.jtag.iscAddr.toNat / 256) (leBytes 256 d.jtag.iscData.toNat) true).2).iscAdvance 0x100

/-- ISC_PROGRAM. -/
def execIscProgram (s : State) : Host.Outcome State Fault Refusal :=
  actOn s fun d => d.tap 0x15 fun d => d.tapBypass.iscProgram

/-- ISC_ERASE. -/
def execIscErase (s : State) : Host.Outcome State Fault Refusal :=
  actOn s fun d => d.tap 0x16 fun d => d.tapBypass.iscOperate 2 fun d => (d.eraseSector (d.jtag.iscAddr.toNat / 0x10000) true).2

/-- ISC_READ at Capture-DR: 16 bytes, all zero with Capture-IR bit 4 where the sector is TORN or under change, and under ISP_LOCK. -/
def Device.iscReads (d : Device) : Device :=
  let a := d.jtag.iscAddr.toNat / 16 * 16
  let d :=
    if d.lockBit 1 || d.torn (a / 0x10000) || d.resChanging a then
      { d with jtag := { d.jtag with iscRead := 0, iscFail := true } }
    else
      let d := if d.resStalls a then d.resSuspend else d
      { d with jtag := { d.jtag with iscRead := BitVec.ofNat 128 (leOf (d.bytes a 16)) } }
  (d.emit (.tdo 128 d.jtag.iscRead.toNat)).iscAdvance 0x10

/-- ISC_READ. -/
def execIscRead (s : State) : Host.Outcome State Fault Refusal := actOn s fun d => d.tap 0x17 Device.iscReads

/-! ### MATRIX_ACCESS (R713, R714, R942) -/

/-- What Capture-DR loads: DONE, the response code, and the data of a completed read; before AON is ready, code 3. -/
def Device.captureAx (d : Device) : Nat :=
  let u := d.jtag
  let w := u.axReg.toNat % 2 ^ 73
  let w := if u.axRead then withBits w 0 32 u.axData.toNat else w
  let code := if d.flag Fld.devReadyAon then u.axCode else 3
  w + 2 ^ 73 * natOf u.axDone + 2 ^ 74 * (code % 8)

/-- The transaction of an Update-DR. -/
def axTxn (data : BitVec 80) : Txn :=
  let w := bitOf data.toNat 72
  { master := 5, tcid := 0x3F, id := 0, addr := BitVec.ofNat 40 (bitsOf data.toNat 32 40 / 4 * 4), write := w, lock := false,
    lockEnd := false, len := 4, en := List.replicate 4 true, data := if w then leBytes 4 data.toNat else [], corrupt := false }

/-- Capture-DR and Update-DR of MATRIX_ACCESS. -/
def State.axScan (s : State) (data : BitVec 80) : State :=
  let d := s.dev.emit (.tdo 80 s.dev.captureAx)
  let d := { d with jtag := { d.jtag with axReg := data } }
  if d.jtag.axBusy || !d.flag Fld.devReadyAon then { s with dev := d }
  else
    let d := { d with jtag := { d.jtag with axBusy := true, axDone := false, axRead := false, axCode := 0 } }
    (State.hold { s with dev := d } 0 [axTxn data]).pump

/-- MATRIX_ACCESS. -/
def execMatrixAccess (data : BitVec 80) (s : State) : Host.Outcome State Fault Refusal :=
  actState s fun s =>
    let d := s.dev.updateIr 0x20
    if d.jtag.ir = 0x20 then State.axScan { s with dev := d } data else { s with dev := d.tapBypass }

/-! ### TRST_N (R595, R706, R721, R929) -/

/-- The TAP is reset: IDCODE is current, ISC mode ends after the operation in progress, M5's locks are released, and what M5 has in
flight is discarded (R587). -/
def State.tapReset (s : State) : State :=
  let s := match s.mtx.lockOf 5 with
    | some t => s.unlockTarget t
    | none => s
  let mine := fun (e : MtxEntry) => e.txn.master != 5
  let d := s.dev.iscMode false
  { s with
    mtx := { s.mtx with queues := s.mtx.queues.map fun q => q.filter mine, waiting := s.mtx.waiting.filter mine }
    dev := { d with jtag := { d.jtag with ir := 9, axBusy := false, axDone := false, axRead := false, axCode := 0 } } }

/-- TRST_N. -/
def execTrstN (s : State) : Host.Outcome State Fault Refusal := actState s State.tapReset

end Sys2Proof.Machine
end

