-- ==== Sys2Proof/Machine/Measure.lean ====
section
/-! DEFINITION. Measurements and QUOTE (R780, R781). -/

namespace Sys2Proof.Machine

/-- The value of block 4: hashes, lock byte and flags. -/
def Device.measureLocks (d : Device) : List Byte :=
  d.rdOctets (Reg.secVendorHash 0) 12 ++ d.opHash ++ leBytes 1 (d.fld Fld.secLocksInForce) ++
    leBytes 1 (natOf (d.flag Fld.secStatusTampered) + 2 * natOf (d.flag Fld.secStatusOtpWeak))

/-- The value of the block of slot `n`. -/
def Device.measureSlot (d : Device) (n : Fin 16) : List Byte :=
  let s := d.slot n
  let b := match d.bindingOf n with | some (p, v) => 128 * p.val + v % 32 | none => 0
  (if d.pValid n (d.act n) then padTo 48 (d.pHash n (d.act n)) else List.replicate 48 0) ++ leBytes 4 (d.pSec n (d.act n)) ++
    leBytes 1 (stateCode s.st) ++ leBytes 1 (natOf s.active + 2 * natOf (d.pValid n 0) + 4 * natOf (d.pValid n 1)) ++ leBytes 1 b ++
    leBytes 1 (4 * s.gkind + s.gmember)

/-- Type and value of measurement block `i` ("Measurements" table). -/
def Device.measureValue (d : Device) (i : Nat) : Nat × List Byte :=
  if i = 1 then (0x00, padTo 48 Config.bootRomHash)
  else if i = 2 then (0x01, padTo 48 d.hwd.fwHash)
  else if i = 3 then (0x87, leBytes 4 (d.rd Reg.hwdSvn))
  else if i = 4 then (0x82, d.measureLocks)
  else (0x82, d.measureSlot (slotOf (i - 5)))

/-- Measurement block `i` in the SPDM format: index, specification 0x01, size, type, value size, value. -/
def Device.measureBlock (d : Device) (i : Nat) : List Byte :=
  let v := d.measureValue i
  leBytes 1 i ++ [1] ++ leBytes 2 (v.2.length + 3) ++ leBytes 1 v.1 ++ leBytes 2 v.2.length ++ v.2

/-- The blocks that a mask selects, in ascending index. -/
def quoteIndices (mask : Nat) : List Nat := ((List.range 20).map (· + 1)).filter fun i => bitOf mask i

/-- The QUOTE record without its signature. -/
def Device.quoteBody (d : Device) (src : List Byte) : List Byte :=
  let ids := quoteIndices (leAt src 32 4)
  ascii "GDNQ" ++ [1] ++ leBytes 1 ids.length ++ [0, 0] ++ leBytes 8 d.turnCount ++ src.take 32 ++ d.serial ++
    ids.flatMap d.measureBlock

end Sys2Proof.Machine
end

