-- ==== Sys2Proof/Machine/KeyCmds.lean ====
section
/-! DEFINITION. KEY_IMPORT, KEY_DESTROY and ATTEST (R775 to R781). -/

namespace Sys2Proof.Machine

/-- A security subfunction: its source is read, `need` bytes of DEST must fit (0xA7), and `f` gives the code, the output and the
device. -/
def Device.keyCmd (d : Device) (c : HwdCmd) (need : Nat) (f : List Byte → Device → Nat × List Byte × Device) : Device :=
  let (a, d) := d.fwRead (c.f 0x10 8) (min 512 (c.f 0x18 4))
  if a.code ≠ 0 then d.completeBus c.cid a
  else if c.f 0x28 4 < need then d.complete c.cid 0xA7 []
  else
    let (code, out, d) := f a.data d
    if code ≠ 0 then d.complete c.cid code []
    else if out.isEmpty then d.complete c.cid 0 (leBytes 4 0)
    else d.completeDest c.cid (c.f 0x20 8) out

/-- A subfunction without output. -/
def noOutput (r : Nat × Device) : Nat × List Byte × Device := (r.1, [], r.2)

/-- The command carries SUBOP `k`. -/
def subop (k : Nat) (c : HwdCmd) : Bool := c.f 0x08 1 == k

/-- OP_KEY_SET. -/
def execOpKeySet (cid : Nat) (verify : Bool) (s : State) : Host.Outcome State Fault Refusal :=
  hwdRow cid 0x50 (subop 1) (fun c d => d.keyCmd c 0 fun src d => noOutput (d.opKeySet src verify)) s

/-- LOCK_SET. -/
def execLockSet (cid : Nat) (verify : Bool) (s : State) : Host.Outcome State Fault Refusal :=
  hwdRow cid 0x50 (subop 2) (fun c d => d.keyCmd c 0 fun src d => noOutput (d.lockSet src verify)) s

/-- TSK_IMPORT: TENANT_ID to DEST. -/
def execTskImport (cid : Nat) (verify : Bool) (s : State) : Host.Outcome State Fault Refusal :=
  hwdRow cid 0x50 (subop 3) (fun c d => d.keyCmd c 16 fun src d => d.tskImport src verify) s

/-- ENDORSE_MIN: the record needs Grain channel D. -/
def execEndorseMin (cid : Nat) (s : State) : Host.Outcome State Fault Refusal :=
  hwdRow cid 0x50 (subop 4) (fun c d =>
    d.keyCmd c 0 fun src d => if d.flag Fld.devReadyGrainD then noOutput (d.endorseMin src) else (0x87, [], d)) s

/-- TSK_DESTROY. -/
def execTskDestroy (cid : Nat) (verify : Bool) (s : State) : Host.Outcome State Fault Refusal :=
  hwdRow cid 0x51 (subop 1) (fun c d => d.keyCmd c 0 fun src d => noOutput (d.tskDestroy src verify)) s

/-- TSK_DESTROY_ALL. -/
def execTskDestroyAll (cid : Nat) (verify : Bool) (s : State) : Host.Outcome State Fault Refusal :=
  hwdRow cid 0x51 (subop 2) (fun c d => d.keyCmd c 0 fun src d => noOutput (d.tskDestroyAll src verify)) s

/-- DECOMMISSION. -/
def execDecommission (cid : Nat) (verify : Bool) (s : State) : Host.Outcome State Fault Refusal :=
  hwdRow cid 0x51 (subop 3) (fun c d => d.keyCmd c 0 fun src d => noOutput (d.decommission src verify)) s

/-- A subfunction that takes no source. -/
def noSource (src : List Byte) (d : Device) (r : Nat × List Byte × Device) : Nat × List Byte × Device :=
  if src.isEmpty then r else (0xA7, [], d)

/-- GET_CERT: the certificate chain, with or without an IDK (R783). -/
def execGetCert (cid : Nat) (s : State) : Host.Outcome State Fault Refusal :=
  hwdRow cid 0x52 (subop 1) (fun c d =>
    d.keyCmd c Config.certChain.length fun src d => noSource src d (0, Config.certChain, d)) s

/-- GET_KA: 208 bytes; it needs the IDK and the KAK. -/
def Device.getKa (d : Device) : Nat × List Byte × Device :=
  if d.hasIdk && d.hasKak then
    let (out, d) := d.keyAgreement
    (0, out, d)
  else (0xA3, [], d)

/-- GET_KA. -/
def execGetKa (cid : Nat) (s : State) : Host.Outcome State Fault Refusal :=
  hwdRow cid 0x52 (subop 2) (fun c d => d.keyCmd c 208 fun src d => noSource src d d.getKa) s

/-- QUOTE (R781): the record with its signature. -/
def Device.quote (d : Device) (src : List Byte) (destLen : Nat) : Nat × List Byte × Device :=
  let body := d.quoteBody src
  if src.length ≠ 64 ∨ destLen < body.length + 96 then (0xA7, [], d)
  else if !d.hasIdk then (0xA3, [], d)
  else
    let (sig, d) := d.idkSign body
    (0, body ++ sig, d)

/-- QUOTE. -/
def execQuote (cid : Nat) (s : State) : Host.Outcome State Fault Refusal :=
  hwdRow cid 0x52 (subop 3) (fun c d => d.keyCmd c 0 fun src d => d.quote src (c.f 0x28 4)) s

end Sys2Proof.Machine
end

