-- ==== Sys2Proof/Machine/Pmp.lean ====
section
/-! DEFINITION. Physical memory protection of the Heartwood cores (R729): 16 entries with a granularity of 64 bytes, as the RISC-V
privileged architecture defines them. The cores run in machine mode, which an entry binds only while its lock bit is set. -/

namespace Sys2Proof.Machine

/-- The first address of an entry's TOR range ends here, or the next one's starts: the entry's address with the granularity's low bits
off. -/
def PmpEntry.top (e : PmpEntry) : Nat := 4 * (e.addr.toNat / 16 * 16)

/-- Size of a NAPOT range: 8 bytes doubled for each trailing 1 of the address, of which the granularity makes the lowest three 1. -/
def PmpEntry.napotSize (e : PmpEntry) : Nat :=
  let a := Nat.lor e.addr.toNat 7
  2 ^ (3 + (((List.range 33).find? fun i => !bitOf a i).getD 32))

/-- Entry `i` covers a core address. -/
def HwdUnit.pmpCovers (u : HwdUnit) (i : Fin 16) (a : Nat) : Bool :=
  let e := u.pmp[i]
  match e.mode with
  | .off => false
  | .tor =>
    let low := if i.val = 0 then 0 else (u.pmp[slotOf (i.val - 1)]).top
    decide (low ≤ a) && decide (a < e.top)
  | .napot => a / e.napotSize == 4 * e.addr.toNat / e.napotSize

/-- What an access does. -/
inductive PmpUse where
  | read | write | fetch
  deriving DecidableEq, Repr

/-- An entry's permission for a use. -/
def PmpEntry.permits (e : PmpEntry) : PmpUse → Bool
  | .read => e.read
  | .write => e.write
  | .fetch => e.exec

/-- The PMP lets an access of a core through: the lowest entry that covers it decides where it is locked; else nothing binds machine
mode. -/
def HwdUnit.pmpAllows (u : HwdUnit) (a : Nat) (use : PmpUse) : Bool :=
  match allSlots.find? fun i => u.pmpCovers i a with
  | some i => !(u.pmp[i]).lock || (u.pmp[i]).permits use
  | none => true

/-- A core writes the configuration byte of entry `i`: a locked entry stays, mode NA4, which the granularity leaves out, keeps the mode,
and W without R is no permission. -/
def HwdUnit.pmpCfgWrite (u : HwdUnit) (i : Fin 16) (v : Nat) : HwdUnit :=
  let e := u.pmp[i]
  if e.lock then u
  else
    let m := bitsOf v 3 2
    let mode := if m = 0 then PmpMode.off else if m = 1 then .tor else if m = 3 then .napot else e.mode
    let e' : PmpEntry := { e with mode := mode, lock := bitOf v 7, read := bitOf v 0, write := bitOf v 0 && bitOf v 1, exec := bitOf v 2 }
    { u with pmp := u.pmp.set i e' }

/-- A core writes the address of entry `i`: a locked entry stays, and so does the one below a locked TOR entry. -/
def HwdUnit.pmpAddrWrite (u : HwdUnit) (i : Fin 16) (v : Word) : HwdUnit :=
  let e := u.pmp[i]
  let next := u.pmp[slotOf (i.val + 1)]
  if e.lock || (decide (i.val < 15) && next.lock && next.mode == .tor) then u
  else { u with pmp := u.pmp.set i { e with addr := v } }

/-- The PMP lets a transaction of a core reach the matrix; one that it stops is an access fault of the core, and no response exists. -/
def Device.pmpPasses (d : Device) (x : Txn) : Bool :=
  let a := x.addr.toNat
  if x.master = 2 then d.hwd.pmpAllows a .fetch
  else if x.master = 3 then d.hwd.pmpAllows a (if x.write then .write else .read)
  else true

end Sys2Proof.Machine
end

