-- ==== Sys2Proof/Machine/MatrixCmds.lean ====
section
/-! DEFINITION. Commands of the bus matrix, inbound requests of the host ports, and the SMBus bridge (chapters 13, 14, 18). -/

namespace Sys2Proof.Machine

/-! ### Arbitration rows -/

/-- Transactions of masters that no other row issues arrive at the matrix: M2, M3, M6, M7 and M8 (R38). -/
def arrivals (l : List Txn) : List Txn :=
  l.filter fun x => x.master == 2 || x.master == 3 || x.master == 6 || x.master == 7 || x.master == 8

/-- A transaction carries what its master carries (R38): one of M8 the TCID of a VF that owns a DMA channel. -/
def Device.carries (d : Device) (x : Txn) : Bool :=
  x.master != 8 || allSlots.any fun n => match d.chanVf n with | some (p, v) => tcidOf p v == x.tcid.val | none => false

/-- MATRIX_GRANT (R563): transactions arrive, those of the cores where their PMP lets them (R729), and the target port then grants one. -/
def execMatrixGrant (target : Fin 8) (arrive : List Txn) (fault : Fin 3) (s : State) : Host.Outcome State Fault Refusal :=
  actState s fun s => ((s.hold 0 ((arrivals arrive).filter fun x => s.dev.carries x && s.dev.pmpPasses x)).pump).grant target fault.val

/-- The head of a master's queue has waited 256 matrix cycles (R572); it does not age while another master holds the lock (R575). -/
def State.age (s : State) (t : Fin 8) (m : Nat) : State :=
  match s.mtx.headOf t m with
  | none => s
  | some e =>
    if s.mtx.locks[t].holder.isNone || s.mtx.locks[t].holder == some m then
      let q := listMod s.mtx.queues[t] (s.mtx.queues[t].idxOf e) fun e => { e with aged := true }
      { s with mtx := { s.mtx with queues := s.mtx.queues.set t q } }
    else s

/-- ARBITER_AGEING. -/
def execArbiterAgeing (target : Fin 8) (master : Fin 9) (s : State) : Host.Outcome State Fault Refusal :=
  actState s fun s => s.age target master.val

/-- A lock has been held for 64 matrix cycles (R578). -/
def State.forceLock (s : State) (t : Fin 8) : State :=
  match s.mtx.locks[t].holder with
  | none => s
  | some m =>
    let s := s.modLock t fun l => { holder := none, broken := l.broken ++ [m] }
    { s with dev := (s.dev.incFld Fld.bmxLockForcedCount).raise 436 [(m, 4), (t.val, 3)] }

/-- LOCK_FORCED_RELEASE. -/
def execLockForcedRelease (target : Fin 8) (s : State) : Host.Outcome State Fault Refusal := actState s fun s => s.forceLock target

/-! ### Inbound requests (R509 to R514, R519, R520, R524) -/

/-- Base address of a 64-bit BAR of a port: of PF0's BAR0, VF BAR0 or VF BAR2. -/
def Device.barBase (d : Device) (p : Fin 2) (dw mask : Nat) : Nat :=
  Nat.land (d.cfgDw p 0 dw) mask + d.cfgDw p 0 (dw + 4) * 2 ^ 32

/-- The enabled function, BAR and offset that a host address falls in: BAR 0, or 2 for a VF's block memory apertures. -/
def Device.claim (d : Device) (p : Fin 2) (a : Nat) : Option (Nat × Nat × Nat) :=
  let b0 := d.barBase p 0x010 0xFC000000
  let v0 := d.barBase p 0x184 0xFFFF0000
  let v2 := d.barBase p 0x18C 0xFFF00000
  let f0 := (a - v0) / 0x10000 + 1
  let f2 := (a - v2) / 0x100000 + 1
  if b0 ≤ a ∧ a < b0 + 0x4000000 then some (0, 0, a - b0)
  else if v0 ≤ a ∧ f0 ≤ 16 ∧ d.fnEnabled p f0 = true then some (f0, 0, (a - v0) % 0x10000)
  else if v2 ≤ a ∧ f2 ≤ 16 ∧ d.fnEnabled p f2 = true then some (f2, 2, (a - v2) % 0x100000)
  else none

/-- The ranges of a function's BAR: first offset, end, and internal address of the first (R510, R511, R497). -/
def Device.barRanges (d : Device) (p : Fin 2) (fn bar : Nat) : List (Nat × Nat × Nat) :=
  if fn = 0 then
    [(0, 0x1000000, 0x80000000), (0x1000000, 0x1800000, 0x10000000), (0x1800000, 0x1840000, 0x20000000),
      (0x1840000, 0x1860000, 0x20100000)]
  else
    match d.slotOfVf p fn with
    | none => []
    | some s =>
      if bar = 0 then [(0, 0x3000, 0x40000000 + s.val * 0x1000000)]
      else
        let w := ((d.members s)[d.fld (Fld.slcCtlWinsel s)]?).getD s
        [(0, 0x100000, 0x40100000 + w.val * 0x1000000)]

/-- The internal address of a request, where every byte of it lies in one range and in no hole (R512). -/
def Device.translate (d : Device) (p : Fin 2) (fn bar o len : Nat) : Option Nat :=
  match (d.barRanges p fn bar).find? fun x => decide (x.1 ≤ o) && decide (o < x.2.1) with
  | none => none
  | some (lo, hi, base) =>
    let a := base + (o - lo)
    if o + len ≤ hi ∧ (List.range ((len + 3) / 4)).all (fun i => (d.decode (a + 4 * i)).isSome) = true then some a else none

/-- The internal address that the record of a hole holds: the translated address the request would have had; where no range gives
one, a free value. -/
def Device.holeAddr (d : Device) (p : Fin 2) (fn bar o : Nat) : Nat × Device :=
  match (d.barRanges p fn bar).find? fun x => decide (x.1 ≤ o) && (decide (o < x.2.1) || decide (fn ≠ 0)) with
  | some (lo, _, base) => (base + (o - lo), d)
  | none => d.free

/-- The MSI-X table or PBA that the port itself serves (R514): whether it is the PBA, and the offset in it. -/
def msixPlace (p : Fin 2) (fn bar o len : Nat) : Option (Bool × Nat) :=
  let base := if fn = 0 then 0x0E8000 + 0x10000 * p.val else 0x8000
  let table := if fn = 0 then 0x400 else 0x80
  let pba := base + if fn = 0 then 0x1000 else 0x800
  if bar ≠ 0 then none
  else if base ≤ o ∧ o + len ≤ base + table then some (false, o - base)
  else if pba ≤ o ∧ o + len ≤ pba + 8 then some (true, o - pba)
  else none

/-- A request for the MSI-X region: reads and writes of one or two aligned dwords with every byte enabled; the PBA is read-only. -/
def Device.msixAccess (d : Device) (p : Fin 2) (fn : Nat) (pba : Bool) (o : Nat) (q : MemReq) : Option (List Byte) × Device :=
  if !((q.len == 4 || q.len == 8) && o % q.len == 0 && q.en.all id) then (none, d)
  else if q.write then
    (some [], if pba then d else iter (q.len / 4) (fun i d => d.setMsixDw p fn (o / 4 + i) (leAt q.data (4 * i) 4)) d)
  else
    (some ((List.range (q.len / 4)).flatMap fun i =>
      leBytes 4 (if pba then d.pbaDw p fn (o / 4 + i) else d.msixDw p fn (o / 4 + i))), d)

/-- The matrix transactions of a request, in ascending order, none across a 64-byte boundary (R560, R567). -/
def splitTxns (master : Fin 9) (tcid : Fin 64) (a : Nat) (write : Bool) (en : List Bool) (data : List Byte) : List Txn :=
  (spanBlocks a en.length).map fun b =>
    let k := b.1 - a
    let n := b.2 - b.1
    { master := master, tcid := tcid, id := 0, addr := BitVec.ofNat 40 b.1, write := write, lock := false, lockEnd := false, len := n,
      en := (en.drop k).take n, data := (data.drop k).take n, corrupt := false }

/-- The error response to a request: posted writes are discarded, others receive a completion (R519). -/
def Device.failRequest (d : Device) (p : Fin 2) (fn kind addr : Nat) (q : MemReq) : Device :=
  let posted := q.write && q.memory
  let d := d.errorResponse p fn kind addr posted q.header.toNat
  if posted then d else d.emit (.completion p fn q.tag (if kind = 0 then 1 else 4) [])

/-- An address lies among registers, which serve no request that crosses a 64-byte boundary (R9, R513). -/
def registerSpan (a : Nat) : Bool :=
  targetOf a == some 3 || targetOf a == some 6 || (targetOf a == some 4 && (apertureOf a).isNone)

/-- A request that passed the port's checks is translated and issued, or answered (R510 to R514). -/
def State.issueRequest (s : State) (p : Fin 2) (fn bar o : Nat) (q : MemReq) : State :=
  let d := s.dev
  match msixPlace p fn bar o q.len with
  | some (pba, k) =>
    match d.msixAccess p fn pba k q with
    | (some b, d) => { s with dev := if q.write then d else d.emit (.completion p fn q.tag 0 b) }
    | (none, d) => { s with dev := d.failRequest p fn 1 (0x80000000 + o) q }
  | none =>
    match d.translate p fn bar o q.len with
    | none =>
      let (a, d) := d.holeAddr p fn bar o
      { s with dev := (d.decodeError p.val (tcidOf p fn) a q.write).failRequest p fn 0 a q }
    | some a =>
      if registerSpan a && decide (64 < a % 64 + q.len) then
        { s with dev := (d.judgeSpan p.val (tcidOf p fn) ((targetOf a).getD 0) a q.len q.write).2.failRequest p fn 1 a q }
      else
      let txns := splitTxns ⟨p.val, by omega⟩ ⟨tcidOf p fn % 64, Nat.mod_lt _ (by decide)⟩ a q.write q.en q.data
      let r : PortReq :=
        { serial := s.mtx.next, port := p, fn := fn, tag := q.tag, write := q.write, left := txns.length, worst := 0, addr := a,
          header := q.header.toNat, data := [] }
      (State.hold { s with mtx := { s.mtx with reqs := s.mtx.reqs ++ [r], next := s.mtx.next + 1 } } r.serial txns).pump

/-- An inbound request (R519, R520, R524): a locked or AtomicOp request is answered by the function that its address
names. A write beyond Max Payload Size is a malformed TLP, and a read beyond Max Read Request Size is refused (R513). The address
recorded of a request that no range holds is a free value. -/
def State.inbound (s : State) (p : Fin 2) (q : MemReq) : State :=
  let d := s.dev
  if !d.linkUp p || q.len == 0 then s
  else
    match if q.kind == .other then none else d.claim p q.addr.toNat with
    | none =>
      let (a, d) := d.free
      { s with dev := d.failRequest p 0 0 a q }
    | some (fn, bar, o) =>
      let (a, d) := d.holeAddr p fn bar o
      let fail := fun kind => { s with dev := d.failRequest p fn kind a q }
      if !q.memory then fail 0
      else if (d.ports[p]).flr.contains fn then (if q.write then s else { s with dev := d.emit (.completion p fn q.tag 1 []) })
      else if d.inD3 p fn || !d.memSpace p fn then fail 0
      else if q.write && q.poisoned then { s with dev := d.errorResponse p fn 2 a true q.header.toNat }
      else if q.write && decide (d.mps p < q.len) then { s with dev := d.aerUncorrectable p fn 18 false (some q.header.toNat) }
      else if !q.write && decide (d.mrrs p < q.len) then fail 1
      else s.issueRequest p fn bar o q

/-- INBOUND_REQUEST. -/
def execInboundRequest (port : Fin 2) (req : MemReq) (s : State) : Host.Outcome State Fault Refusal :=
  actState s fun s => s.inbound port req

/-! ### The SMBus bridge (R751 to R756) -/

/-- The 7-bit address of the bridge (R64). -/
def Device.smbAddr (d : Device) : Nat := 0x5C + d.fld Fld.devStrapSmbAddr

/-- CRC-8 of SMBus 3.1: polynomial x^8 + x^2 + x + 1, start 0 (PRESUMED, assumption log 21). -/
def smbPec (l : List Nat) : Nat := crcMsb 8 0x07 0 (l.map fun v => BitVec.ofNat 8 v)

/-- The bridge discards a block write for its PEC (R754). -/
def Device.pecDiscard (d : Device) : Device := ((d.incFld Fld.hwdSmbStatusPecErrs).raise 456 [(0, 4)]).emit .smbusNack

/-- The PEC of a block write allows it: it is right where carried, and carried where PEC_REQ asks for it. -/
def Device.pecOk (d : Device) (cmd : Nat) (bytes : List Byte) (pec : Option Byte) : Bool :=
  match pec with
  | none => !d.flag Fld.hwdSmbCtlPecReq
  | some p => p.toNat == smbPec ([2 * d.smbAddr, cmd, bytes.length] ++ bytes.map BitVec.toNat)

/-- A block write to the bridge, with command code `cmd`: it is not acknowledged before AON is ready, while a WRITE or READ_SETUP is
pending (R753), and where its bytes break a rule (R752). -/
def State.smbBlock (s : State) (cmd : Nat) (bytes : List Byte) (pec : Option Byte) (ok : Bool) (go : State → State) : State :=
  let d := s.dev
  if !d.flag Fld.devReadyAon || decide (0 < d.smb.writes) || d.smb.reading || !ok then { s with dev := d.emit .smbusNack }
  else if !d.pecOk cmd bytes pec then { s with dev := d.pecDiscard }
  else go s

/-- The transactions of a WRITE: one per register for T6, else one (R752). -/
def smbTxns (a : Nat) (data : List Byte) : List Txn :=
  let one := fun (a : Nat) (l : List Byte) =>
    ({ master := 4, tcid := 0x3D, id := 0, addr := BitVec.ofNat 40 a, write := true, lock := false, lockEnd := false, len := l.length,
       en := l.map fun _ => true, data := l, corrupt := false } : Txn)
  if targetOf a = some 6 then (List.range (data.length / 4)).map fun i => one (a + 4 * i) ((data.drop (4 * i)).take 4)
  else [one a data]

/-- The bytes of a WRITE keep the rules of R752. -/
def smbWriteOk (bytes : List Byte) : Bool :=
  let n := bytes.length - 5
  let a := leAt bytes 0 5
  decide (9 ≤ bytes.length) && decide (n ≤ 64) && n % 4 == 0 && (targetOf a == some 6 || decide (a % 64 + n ≤ 64))

/-- WRITE. -/
def execSmbWrite (bytes : List Byte) (pec : Option Byte) (s : State) : Host.Outcome State Fault Refusal :=
  actState s fun s => s.smbBlock 1 bytes pec (smbWriteOk bytes) fun s =>
    let l := smbTxns (leAt bytes 0 5) (bytes.drop 5)
    (State.hold { s with dev := { s.dev with smb := { s.dev.smb with writes := l.length, status := 0 } } } 0 l).pump

/-- The bytes of a READ_SETUP keep the rules of R752. -/
def smbReadOk (bytes : List Byte) : Bool :=
  let n := leAt bytes 5 1
  bytes.length == 6 && decide (4 ≤ n) && decide (n ≤ 64) && n % 4 == 0 && decide (leAt bytes 0 5 % 64 + n ≤ 64)

/-- READ_SETUP. -/
def execReadSetup (bytes : List Byte) (pec : Option Byte) (s : State) : Host.Outcome State Fault Refusal :=
  actState s fun s => s.smbBlock 2 bytes pec (smbReadOk bytes) fun s =>
    let n := leAt bytes 5 1
    let x : Txn :=
      { master := 4, tcid := 0x3D, id := 0, addr := BitVec.ofNat 40 (leAt bytes 0 5), write := false, lock := false,
        lockEnd := false, len := n, en := List.replicate n true, data := [], corrupt := false }
    (State.hold { s with dev := { s.dev with smb := { s.dev.smb with reading := true, readCode := 0, readData := [] } } } 0 [x]).pump

/-- The bridge returns bytes with their PEC: over its address for the write, the command code, its address for the read, and the bytes. -/
def Device.smbReturn (d : Device) (cmd : Nat) (l : List Byte) : Device :=
  if !d.flag Fld.devReadyAon then d.emit .smbusNack
  else
    let a := d.smbAddr
    d.emit (.smbus (l ++ [BitVec.ofNat 8 (smbPec ([2 * a, cmd, 2 * a + 1] ++ l.map BitVec.toNat))]))

/-- READ (R752, R753): count, STATUS and data; a count of 1 and 0xFF while the read is not complete. -/
def execSmbRead (s : State) : Host.Outcome State Fault Refusal :=
  actOn s fun d =>
    if d.smb.reading then d.smbReturn 3 [1, 0xFF]
    else
      let data := if d.smb.readCode = 0 then d.smb.readData else []
      d.smbReturn 3 ([BitVec.ofNat 8 (1 + data.length), BitVec.ofNat 8 d.smb.readCode] ++ data)

/-- LAST_STATUS (R752). -/
def execLastStatus (s : State) : Host.Outcome State Fault Refusal :=
  actOn s fun d => d.smbReturn 4 [if 0 < d.smb.writes then 0xFF else BitVec.ofNat 8 d.smb.status]

/-- ALERT_RESPONSE (R756): while SMB_ALERT_N is asserted, the bridge answers with its own address. -/
def execAlertResponse (s : State) : Host.Outcome State Fault Refusal :=
  actOn s fun d =>
    if d.flag Fld.devReadyAon && d.smbAlert then d.emit (.smbus [BitVec.ofNat 8 (2 * d.smbAddr)]) else d.emit .smbusNack

/-- SMBUS_TIMEOUT (R755): a transaction already issued completes. -/
def execSmbusTimeout (s : State) : Host.Outcome State Fault Refusal :=
  actOn s fun d => (d.incFld Fld.hwdSmbStatusTimeouts).raise 456 [(1, 4)]

end Sys2Proof.Machine
end

