-- ==== Sys2Proof/Machine/SpdmCmds.lean ====
section
/-! DEFINITION. The SPDM 1.2 responder behind the DOE mailbox of each port (R518, R782, R783). Message layouts, algorithm bits and the
transcripts that signatures cover are PRESUMED from DMTF DSP0274 1.2 (assumption log 12). -/

namespace Sys2Proof.Machine

/-- The payload bytes of the object that a port's mailbox holds. -/
def Device.doePayload (d : Device) (p : Fin 2) : List Byte := ((d.ports[p]).doeIn.drop 2).flatMap fun w => leBytes 4 w.toNat

/-- The mailbox holds an SPDM object that firmware serves now. -/
def Device.spdmWaits (d : Device) (p : Fin 2) : Bool :=
  let q := d.ports[p]
  d.linkUp p && d.fwRuns && !q.doeIn.isEmpty && bitsOf (q.doeIn.headD 0).toNat 16 8 == 1

/-- A response leaves as a DOE object, padded to whole dwords. -/
def Device.spdmAnswer (d : Device) (p : Fin 2) (r : List Byte) : Device :=
  let n := (r.length + 3) / 4
  d.doeAnswer p ([0x00010001, BitVec.ofNat 32 (n + 2)] ++ (List.range n).map fun i => BitVec.ofNat 32 (leAt (padTo (4 * n) r) (4 * i) 4))

/-- ERROR with a code: 1 InvalidRequest, 4 UnexpectedRequest, 5 Unspecified, 7 UnsupportedRequest, 0x41 VersionMismatch. -/
def Device.spdmError (d : Device) (p : Fin 2) (code data : Nat) : Device :=
  d.spdmAnswer p ([0x12, 0x7F] ++ leBytes 1 code ++ leBytes 1 data)

/-- Where a connection stands after a response, and its transcripts. -/
def Device.spdmState (d : Device) (p : Fin 2) (k : Nat) (vca cert meas : List Byte) : Device :=
  d.modPort p fun q => { q with spdm := k, spdmVca := vca, spdmCert := cert, spdmMeas := meas }

/-- A request of the responder: its code and version are checked, the connection must stand at `k` or beyond, and `f` answers the
request bytes. -/
def spdmRow (port : Fin 2) (code k : Nat) (f : List Byte → Device → Device) (s : State) : Host.Outcome State Fault Refusal :=
  actOn s fun d =>
    let r := d.doePayload port
    if !d.spdmWaits port || leAt r 1 1 != code then d
    else if leAt r 0 1 ≠ (if code = 0x84 then 0x10 else 0x12) then d.spdmError port 0x41 0
    else if (d.ports[port]).spdm < k then d.spdmError port (if !d.hasIdk && decide (k = 3) then 5 else 4) 0
    else f r d

/-- VERSION: 1.2 only; the connection starts anew. -/
def Device.spdmVersion (d : Device) (p : Fin 2) (r : List Byte) : Device :=
  let a : List Byte := [0x10, 0x04, 0, 0, 0, 1, 0x00, 0x12]
  (d.spdmState p 1 (r.take 4 ++ a) [] []).spdmAnswer p a

/-- GET_VERSION. -/
def execGetVersion (port : Fin 2) (s : State) : Host.Outcome State Fault Refusal :=
  spdmRow port 0x84 0 (fun r d => d.spdmVersion port r) s

/-- CAPABILITIES: CERT_CAP, CHAL_CAP, MEAS_CAP with signature; CTExponent is not stated and is a free value. -/
def Device.spdmCaps (d : Device) (p : Fin 2) (r : List Byte) : Device :=
  let (ct, d) := d.free
  let a : List Byte := [0x12, 0x61, 0, 0, 0] ++ leBytes 1 ct ++ [0, 0] ++ leBytes 4 0x16 ++ leBytes 4 4088 ++ leBytes 4 4088
  (d.spdmState p 2 ((d.ports[p]).spdmVca ++ r.take 20 ++ a) [] []).spdmAnswer p a

/-- GET_CAPABILITIES. -/
def execGetCapabilities (port : Fin 2) (s : State) : Host.Outcome State Fault Refusal :=
  spdmRow port 0xE1 1 (fun r d => d.spdmCaps port r) s

/-- ALGORITHMS: the one set, where the requester offers it. -/
def Device.spdmAlgs (d : Device) (p : Fin 2) (r : List Byte) : Device :=
  let a : List Byte := [0x12, 0x63, 0, 0] ++ leBytes 2 36 ++ leBytes 1 (leAt r 6 1 % 2) ++ [0] ++ leBytes 4 4 ++
    leBytes 4 (Nat.land (leAt r 8 4) 0x80) ++ leBytes 4 (Nat.land (leAt r 12 4) 2) ++ List.replicate 16 0
  (d.spdmState p 3 ((d.ports[p]).spdmVca ++ r.take (leAt r 4 2) ++ a) [] []).spdmAnswer p a

/-- NEGOTIATE_ALGORITHMS. -/
def execNegotiateAlgorithms (port : Fin 2) (s : State) : Host.Outcome State Fault Refusal :=
  spdmRow port 0xE3 2 (fun r d => d.spdmAlgs port r) s

/-- Without an IDK every request past negotiation is answered with ERROR Unspecified (R783). -/
def needIdk (port : Fin 2) (f : List Byte → Device → Device) (r : List Byte) (d : Device) : Device :=
  if d.hasIdk then f r d else d.spdmError port 5 0

/-- SHA-384 of the certificate chain of slot 0. -/
def chainHash : List Byte := padTo 48 (Config.sha384 Config.certChain)

/-- DIGESTS: slot 0 only (R782). -/
def Device.spdmDigests (d : Device) (p : Fin 2) (r : List Byte) : Device :=
  let a : List Byte := [0x12, 0x01, 0, 1] ++ chainHash
  let q := d.ports[p]
  (d.spdmState p q.spdm q.spdmVca (q.spdmCert ++ r.take 4 ++ a) []).spdmAnswer p a

/-- GET_DIGESTS. -/
def execGetDigests (port : Fin 2) (s : State) : Host.Outcome State Fault Refusal :=
  spdmRow port 0x81 3 (needIdk port fun r d => d.spdmDigests port r) s

/-- CERTIFICATE: a portion of the chain of slot 0. -/
def Device.spdmCert (d : Device) (p : Fin 2) (r : List Byte) : Device :=
  let o := leAt r 4 2
  let n := min (min (leAt r 6 2) 4080) (Config.certChain.length - o)
  if leAt r 2 1 % 16 ≠ 0 ∨ Config.certChain.length ≤ o then d.spdmError p 1 0
  else
    let a : List Byte := [0x12, 0x02, 0, 0] ++ leBytes 2 n ++ leBytes 2 (Config.certChain.length - o - n) ++ (Config.certChain.drop o).take n
    let q := d.ports[p]
    (d.spdmState p q.spdm q.spdmVca (q.spdmCert ++ r.take 8 ++ a) []).spdmAnswer p a

/-- GET_CERTIFICATE. -/
def execGetCertificate (port : Fin 2) (s : State) : Host.Outcome State Fault Refusal :=
  spdmRow port 0x82 3 (needIdk port fun r d => d.spdmCert port r) s

/-- A signature of the responder: the version prefix, the context padded to 100 bytes, and the hash of the transcript. -/
def Device.spdmSign (d : Device) (context : String) (transcript : List Byte) : List Byte × Device :=
  let v := ascii "dmtf-spdm-v1.2.*"
  let c := ascii context
  d.idkSign (v ++ v ++ v ++ v ++ List.replicate (36 - c.length) 0 ++ c ++ padTo 48 (Config.sha384 transcript))

/-- All twenty measurement blocks. -/
def Device.allBlocks (d : Device) : List Byte := (quoteIndices (2 ^ 21 - 2)).flatMap d.measureBlock

/-- The measurement summary that CHALLENGE asks for: none, all blocks, or those of the trusted computing base, which the spec does not
name (free bytes). -/
def Device.spdmSummary (d : Device) (kind : Nat) : List Byte × Device :=
  if kind = 0 then ([], d)
  else if kind = 0xFF then (padTo 48 (Config.sha384 d.allBlocks), d)
  else d.freeBytes 48

/-- CHALLENGE_AUTH, signed by the IDK. -/
def Device.spdmChallenge (d : Device) (p : Fin 2) (r : List Byte) : Device :=
  let kind := leAt r 3 1
  if leAt r 2 1 ≠ 0 ∨ (kind ≠ 0 ∧ kind ≠ 1 ∧ kind ≠ 0xFF) then d.spdmError p 1 0
  else
    let (sum, d) := d.spdmSummary kind
    let (nonce, d) := d.drbg 32
    let a : List Byte := [0x12, 0x03, 0, 1] ++ chainHash ++ nonce ++ sum ++ [0, 0]
    let q := d.ports[p]
    let (sig, d) := d.spdmSign "responder-challenge_auth signing" (q.spdmVca ++ q.spdmCert ++ r.take 36 ++ a)
    (d.spdmState p q.spdm q.spdmVca [] []).spdmAnswer p (a ++ sig)

/-- CHALLENGE. -/
def execChallenge (port : Fin 2) (s : State) : Host.Outcome State Fault Refusal :=
  spdmRow port 0x83 3 (needIdk port fun r d => d.spdmChallenge port r) s

/-- The blocks that an operation of GET_MEASUREMENTS returns, and their number. -/
def Device.spdmBlocks (d : Device) (op : Nat) : Nat × List Byte :=
  if op = 0 then (0, []) else if op = 0xFF then (20, d.allBlocks) else (1, d.measureBlock op)

/-- MEASUREMENTS: index 0 the count, 0xFF all blocks, else one block; signed where asked (R782). -/
def Device.spdmMeasure (d : Device) (p : Fin 2) (r : List Byte) : Device :=
  let op := leAt r 3 1
  let signed := bitOf (leAt r 2 1) 0
  if (20 < op ∧ op ≠ 0xFF) ∨ (signed ∧ leAt r 36 1 % 16 ≠ 0) then d.spdmError p 1 0
  else
    let b := d.spdmBlocks op
    let (nonce, d) := d.drbg 32
    let a : List Byte := [0x12, 0x60] ++ leBytes 1 (if op = 0 then 20 else 0) ++ [0] ++ leBytes 1 b.1 ++ leBytes 3 b.2.length ++ b.2 ++
      nonce ++ [0, 0]
    let q := d.ports[p]
    let log := q.spdmMeas ++ r.take (if signed then 37 else 4) ++ a
    if signed then
      let (sig, d) := d.spdmSign "responder-measurements signing" (q.spdmVca ++ log)
      (d.spdmState p q.spdm q.spdmVca q.spdmCert []).spdmAnswer p (a ++ sig)
    else (d.spdmState p q.spdm q.spdmVca q.spdmCert log).spdmAnswer p a

/-- GET_MEASUREMENTS. -/
def execGetMeasurements (port : Fin 2) (s : State) : Host.Outcome State Fault Refusal :=
  spdmRow port 0xE0 3 (needIdk port fun r d => d.spdmMeasure port r) s

/-- The request codes that the responder accepts (R518). -/
def spdmAccepts (code : Nat) : Bool :=
  code == 0x84 || code == 0xE1 || code == 0xE3 || code == 0x81 || code == 0x82 || code == 0x83 || code == 0xE0

/-- Any other request: ERROR UnsupportedRequest; Unspecified while the device holds no IDK (R518, R783). -/
def Device.spdmOther (d : Device) (p : Fin 2) : Device :=
  let r := d.doePayload p
  if !d.spdmWaits p || spdmAccepts (leAt r 1 1) then d
  else if d.hasIdk then d.spdmError p 7 (leAt r 1 1) else d.spdmError p 5 0

/-- SPDM_UNSUPPORTED_REQUEST. -/
def execSpdmUnsupportedRequest (port : Fin 2) (s : State) : Host.Outcome State Fault Refusal := actOn s fun d => d.spdmOther port

end Sys2Proof.Machine
end

