-- ==== Sys2Proof/Machine/Dispatch.lean ====
section
/-! DEFINITION. One arm per command: its meaning. -/

namespace Sys2Proof.Machine

def exec (i : Instr) (s : State) : Host.Outcome State Fault Refusal :=
  match i with
  | .registerWrite tcid addr data => Sys2Proof.Machine.execRegisterWrite tcid addr data s
  | .porRelease smbAddr bootSel balls supplies classes => Sys2Proof.Machine.execPorRelease smbAddr bootSel balls supplies classes s
  | .brownOut aux => Sys2Proof.Machine.execBrownOut aux s
  | .recallDone => Sys2Proof.Machine.execRecallDone s
  | .warmReset pin => Sys2Proof.Machine.execWarmReset pin s
  | .warmResetEnd => Sys2Proof.Machine.execWarmResetEnd s
  | .devResetCmd data => Sys2Proof.Machine.execDevResetCmd data s
  | .perstAssert port => Sys2Proof.Machine.execPerstAssert port s
  | .perstDeassert port => Sys2Proof.Machine.execPerstDeassert port s
  | .hotReset port => Sys2Proof.Machine.execHotReset port s
  | .linkDown port => Sys2Proof.Machine.execLinkDown port s
  | .linkUp port speed width => Sys2Proof.Machine.execLinkUp port speed width s
  | .linkSpeedChange port speed width => Sys2Proof.Machine.execLinkSpeedChange port speed width s
  | .pf0Flr port => Sys2Proof.Machine.execPf0Flr port s
  | .vfFlr port vf => Sys2Proof.Machine.execVfFlr port vf s
  | .vfFlrReady port vf => Sys2Proof.Machine.execVfFlrReady port vf s
  | .vfEnableSet port => Sys2Proof.Machine.execVfEnableSet port s
  | .vfEnableCleared port => Sys2Proof.Machine.execVfEnableCleared port s
  | .trstN => Sys2Proof.Machine.execTrstN s
  | .supplyOutOfWindow supply => Sys2Proof.Machine.execSupplyOutOfWindow supply s
  | .supplyFallingAssertion supply => Sys2Proof.Machine.execSupplyFallingAssertion supply s
  | .supplyRisingRelease supply => Sys2Proof.Machine.execSupplyRisingRelease supply s
  | .powerFailAutostore => Sys2Proof.Machine.execPowerFailAutostore s
  | .autostoreArm armed => Sys2Proof.Machine.execAutostoreArm armed s
  | .refclkLoss => Sys2Proof.Machine.execRefclkLoss s
  | .refclkReturn => Sys2Proof.Machine.execRefclkReturn s
  | .overTemperature reading => Sys2Proof.Machine.execOverTemperature reading s
  | .tamper => Sys2Proof.Machine.execTamper s
  | .tamperResponseComplete => Sys2Proof.Machine.execTamperResponseComplete s
  | .wake => Sys2Proof.Machine.execWake s
  | .turnTick => Sys2Proof.Machine.execTurnTick s
  | .turnInEdge => Sys2Proof.Machine.execTurnInEdge s
  | .trialRevert slot => Sys2Proof.Machine.execTrialRevert slot s
  | .idleRetain slot => Sys2Proof.Machine.execIdleRetain slot s
  | .vectorAgeExpiry port fn vec => Sys2Proof.Machine.execVectorAgeExpiry port fn vec s
  | .tickLoss => Sys2Proof.Machine.execTickLoss s
  | .turnRun => Sys2Proof.Machine.execTurnRun s
  | .turnPeriodWrite data => Sys2Proof.Machine.execTurnPeriodWrite data s
  | .turnSrcWrite src adopt => Sys2Proof.Machine.execTurnSrcWrite src adopt s
  | .turnCountLoRead tcid => Sys2Proof.Machine.execTurnCountLoRead tcid s
  | .turnOvrClr data => Sys2Proof.Machine.execTurnOvrClr data s
  | .mbInPush slot => Sys2Proof.Machine.execMbInPush slot s
  | .mbOutPop slot => Sys2Proof.Machine.execMbOutPop slot s
  | .inPop slot => Sys2Proof.Machine.execInPop slot s
  | .outPush slot => Sys2Proof.Machine.execOutPush slot s
  | .outWe slot => Sys2Proof.Machine.execOutWe slot s
  | .userEvent slot => Sys2Proof.Machine.execUserEvent slot s
  | .hwdQPush q => Sys2Proof.Machine.execHwdQPush q s
  | .hwdQCpop q => Sys2Proof.Machine.execHwdQCpop q s
  | .commandTake => Sys2Proof.Machine.execCommandTake s
  | .nop cid => Sys2Proof.Machine.execNop cid s
  | .getInfo cid => Sys2Proof.Machine.execGetInfo cid s
  | .slotBind cid => Sys2Proof.Machine.execSlotBind cid s
  | .slotUnbind cid => Sys2Proof.Machine.execSlotUnbind cid s
  | .slotLoad cid => Sys2Proof.Machine.execSlotLoad cid s
  | .reseed cid => Sys2Proof.Machine.execReseed cid s
  | .readback cid => Sys2Proof.Machine.execReadback cid s
  | .slotSwap cid => Sys2Proof.Machine.execSlotSwap cid s
  | .slotHold cid => Sys2Proof.Machine.execSlotHold cid s
  | .slotReset cid => Sys2Proof.Machine.execSlotReset cid s
  | .faultClear cid => Sys2Proof.Machine.execFaultClear cid s
  | .slotRelease cid => Sys2Proof.Machine.execSlotRelease cid s
  | .slotPower cid => Sys2Proof.Machine.execSlotPower cid s
  | .groupJoin cid => Sys2Proof.Machine.execGroupJoin cid s
  | .groupSplit cid => Sys2Proof.Machine.execGroupSplit cid s
  | .slcReqHold slot tcid => Sys2Proof.Machine.execSlcReqHold slot tcid s
  | .slcReqRelease slot tcid => Sys2Proof.Machine.execSlcReqRelease slot tcid s
  | .slcReqSlotReset slot tcid => Sys2Proof.Machine.execSlcReqSlotReset slot tcid s
  | .slcReqFaultClear slot tcid => Sys2Proof.Machine.execSlcReqFaultClear slot tcid s
  | .capture cid => Sys2Proof.Machine.execCapture cid s
  | .captureReadDone cid => Sys2Proof.Machine.execCaptureReadDone cid s
  | .restore cid => Sys2Proof.Machine.execRestore cid s
  | .restoreWriteDone cid => Sys2Proof.Machine.execRestoreWriteDone cid s
  | .resProgram cid => Sys2Proof.Machine.execResProgram cid s
  | .resErase cid => Sys2Proof.Machine.execResErase cid s
  | .resVerify cid => Sys2Proof.Machine.execResVerify cid s
  | .grainRecWrite cid => Sys2Proof.Machine.execGrainRecWrite cid s
  | .grainRecRead cid => Sys2Proof.Machine.execGrainRecRead cid s
  | .grainStore cid => Sys2Proof.Machine.execGrainStore cid s
  | .grainPlane cid => Sys2Proof.Machine.execGrainPlane cid s
  | .opKeySet cid verify => Sys2Proof.Machine.execOpKeySet cid verify s
  | .lockSet cid verify => Sys2Proof.Machine.execLockSet cid verify s
  | .tskImport cid verify => Sys2Proof.Machine.execTskImport cid verify s
  | .endorseMin cid => Sys2Proof.Machine.execEndorseMin cid s
  | .tskDestroy cid verify => Sys2Proof.Machine.execTskDestroy cid verify s
  | .tskDestroyAll cid verify => Sys2Proof.Machine.execTskDestroyAll cid verify s
  | .decommission cid verify => Sys2Proof.Machine.execDecommission cid verify s
  | .getCert cid => Sys2Proof.Machine.execGetCert cid s
  | .getKa cid => Sys2Proof.Machine.execGetKa cid s
  | .quote cid => Sys2Proof.Machine.execQuote cid s
  | .turnSet cid => Sys2Proof.Machine.execTurnSet cid s
  | .ringCfgSet cid => Sys2Proof.Machine.execRingCfgSet cid s
  | .ringCfgMeasure cid => Sys2Proof.Machine.execRingCfgMeasure cid s
  | .ringSend cid => Sys2Proof.Machine.execRingSend cid s
  | .hibernate cid => Sys2Proof.Machine.execHibernate cid s
  | .fwUpdate cid => Sys2Proof.Machine.execFwUpdate cid s
  | .abort cid => Sys2Proof.Machine.execAbort cid s
  | .ldrJqPush => Sys2Proof.Machine.execLdrJqPush s
  | .loaderJobTake => Sys2Proof.Machine.execLoaderJobTake s
  | .loadDone locked => Sys2Proof.Machine.execLoadDone locked s
  | .ldrSwapReq data => Sys2Proof.Machine.execLdrSwapReq data s
  | .swapCancel slot => Sys2Proof.Machine.execSwapCancel slot s
  | .firstActivationCopyEnd slot => Sys2Proof.Machine.execFirstActivationCopyEnd slot s
  | .scrubWordDecode slot => Sys2Proof.Machine.execScrubWordDecode slot s
  | .configUpset slot plane offset bit => Sys2Proof.Machine.execConfigUpset slot plane offset bit s
  | .sweepComplete slot bad => Sys2Proof.Machine.execSweepComplete slot bad s
  | .scribeFire => Sys2Proof.Machine.execScribeFire s
  | .scribeIoTrigger => Sys2Proof.Machine.execScribeIoTrigger s
  | .ringTrigger dir src seq aligned tick chk => Sys2Proof.Machine.execRingTrigger dir src seq aligned tick chk s
  | .snapshotLatch => Sys2Proof.Machine.execSnapshotLatch s
  | .scribeAck => Sys2Proof.Machine.execScribeAck s
  | .eventDelivery => Sys2Proof.Machine.execEventDelivery s
  | .evtQPop q => Sys2Proof.Machine.execEvtQPop q s
  | .msixSend port fn vec => Sys2Proof.Machine.execMsixSend port fn vec s
  | .inboundRequest port req => Sys2Proof.Machine.execInboundRequest port req s
  | .configRequest port fn dw write en data tag => Sys2Proof.Machine.execConfigRequest port fn dw write en data tag s
  | .doeObject port dw => Sys2Proof.Machine.execDoeObject port dw s
  | .doeAbort port => Sys2Proof.Machine.execDoeAbort port s
  | .getVersion port => Sys2Proof.Machine.execGetVersion port s
  | .getCapabilities port => Sys2Proof.Machine.execGetCapabilities port s
  | .negotiateAlgorithms port => Sys2Proof.Machine.execNegotiateAlgorithms port s
  | .getDigests port => Sys2Proof.Machine.execGetDigests port s
  | .getCertificate port => Sys2Proof.Machine.execGetCertificate port s
  | .challenge port => Sys2Proof.Machine.execChallenge port s
  | .getMeasurements port => Sys2Proof.Machine.execGetMeasurements port s
  | .spdmUnsupportedRequest port => Sys2Proof.Machine.execSpdmUnsupportedRequest port s
  | .dmaCompletionTimeout slot => Sys2Proof.Machine.execDmaCompletionTimeout slot s
  | .dmaTailWrite slot data => Sys2Proof.Machine.execDmaTailWrite slot data s
  | .dmaDescriptorFetch slot status data => Sys2Proof.Machine.execDmaDescriptorFetch slot status data s
  | .dmaChunk slot => Sys2Proof.Machine.execDmaChunk slot s
  | .dmaDescriptorDone slot => Sys2Proof.Machine.execDmaDescriptorDone slot s
  | .dmaResume slot => Sys2Proof.Machine.execDmaResume slot s
  | .bmPortOperation slot bm => Sys2Proof.Machine.execBmPortOperation slot bm s
  | .fifoOperation slot bm => Sys2Proof.Machine.execFifoOperation slot bm s
  | .fclr slot bm => Sys2Proof.Machine.execFclr slot bm s
  | .matrixGrant target arrive fault => Sys2Proof.Machine.execMatrixGrant target arrive fault s
  | .arbiterAgeing target master => Sys2Proof.Machine.execArbiterAgeing target master s
  | .lockForcedRelease target => Sys2Proof.Machine.execLockForcedRelease target s
  | .actDenyPop => Sys2Proof.Machine.execActDenyPop s
  | .getS agent line long => Sys2Proof.Machine.execGetS agent line long s
  | .getM agent line long => Sys2Proof.Machine.execGetM agent line long s
  | .wrLine agent line enables data long => Sys2Proof.Machine.execWrLine agent line enables data long s
  | .putM agent line data long => Sys2Proof.Machine.execPutM agent line data long s
  | .pendingLineService line => Sys2Proof.Machine.execPendingLineService line s
  | .benchPatrol => Sys2Proof.Machine.execBenchPatrol s
  | .bankSleep bank => Sys2Proof.Machine.execBankSleep bank s
  | .benchZeroingDone => Sys2Proof.Machine.execBenchZeroingDone s
  | .dcline addr data => Sys2Proof.Machine.execDcline addr data s
  | .dcall datas => Sys2Proof.Machine.execDcall datas s
  | .boot => Sys2Proof.Machine.execBoot s
  | .commandReady => Sys2Proof.Machine.execCommandReady s
  | .autoload => Sys2Proof.Machine.execAutoload s
  | .lockstepMismatch => Sys2Proof.Machine.execLockstepMismatch s
  | .storeCmd data => Sys2Proof.Machine.execStoreCmd data s
  | .storeDone => Sys2Proof.Machine.execStoreDone s
  | .storeArmedTimeout => Sys2Proof.Machine.execStoreArmedTimeout s
  | .pageWrite tcid data => Sys2Proof.Machine.execPageWrite tcid data s
  | .pageWriteDone => Sys2Proof.Machine.execPageWriteDone s
  | .grnUnlock tcid ch region write => Sys2Proof.Machine.execGrnUnlock tcid ch region write s
  | .relock tcid ch region write => Sys2Proof.Machine.execRelock tcid ch region write s
  | .relockAll tcid => Sys2Proof.Machine.execRelockAll tcid s
  | .unlockTimeout tcid ch region write => Sys2Proof.Machine.execUnlockTimeout tcid ch region write s
  | .pwSet tcid ch region write => Sys2Proof.Machine.execPwSet tcid ch region write s
  | .grainPatrol => Sys2Proof.Machine.execGrainPatrol s
  | .program => Sys2Proof.Machine.execProgram s
  | .erase sector => Sys2Proof.Machine.execErase sector s
  | .bufClear => Sys2Proof.Machine.execBufClear s
  | .programDone ok => Sys2Proof.Machine.execProgramDone ok s
  | .eraseDone ok => Sys2Proof.Machine.execEraseDone ok s
  | .suspend => Sys2Proof.Machine.execSuspend s
  | .resume => Sys2Proof.Machine.execResume s
  | .tornScan => Sys2Proof.Machine.execTornScan s
  | .extest levels cells => Sys2Proof.Machine.execExtest levels cells s
  | .samplePreload levels cells => Sys2Proof.Machine.execSamplePreload levels cells s
  | .idcode => Sys2Proof.Machine.execIdcode s
  | .highz => Sys2Proof.Machine.execHighz s
  | .clamp => Sys2Proof.Machine.execClamp s
  | .iscEnable => Sys2Proof.Machine.execIscEnable s
  | .iscDisable => Sys2Proof.Machine.execIscDisable s
  | .iscNoop => Sys2Proof.Machine.execIscNoop s
  | .iscAddressShift addr => Sys2Proof.Machine.execIscAddressShift addr s
  | .iscDataShift data => Sys2Proof.Machine.execIscDataShift data s
  | .iscProgram => Sys2Proof.Machine.execIscProgram s
  | .iscErase => Sys2Proof.Machine.execIscErase s
  | .iscRead => Sys2Proof.Machine.execIscRead s
  | .matrixAccess data => Sys2Proof.Machine.execMatrixAccess data s
  | .bypass => Sys2Proof.Machine.execBypass s
  | .smbWrite bytes pec => Sys2Proof.Machine.execSmbWrite bytes pec s
  | .readSetup bytes pec => Sys2Proof.Machine.execReadSetup bytes pec s
  | .smbRead => Sys2Proof.Machine.execSmbRead s
  | .lastStatus => Sys2Proof.Machine.execLastStatus s
  | .alertResponse => Sys2Proof.Machine.execAlertResponse s
  | .smbusTimeout => Sys2Proof.Machine.execSmbusTimeout s
  | .hash tcid => Sys2Proof.Machine.execHash tcid s
  | .verify tcid => Sys2Proof.Machine.execVerify tcid s
  | .unwrapImage tcid => Sys2Proof.Machine.execUnwrapImage tcid s
  | .signId tcid => Sys2Proof.Machine.execSignId tcid s
  | .random tcid => Sys2Proof.Machine.execRandom tcid s
  | .unwrapTsk tcid => Sys2Proof.Machine.execUnwrapTsk tcid s
  | .recordKey tcid => Sys2Proof.Machine.execRecordKey tcid s
  | .engineErase tcid => Sys2Proof.Machine.execEngineErase tcid s
  | .domainPowerOff tcid domain => Sys2Proof.Machine.execDomainPowerOff tcid domain s
  | .domainPowerOn tcid domain => Sys2Proof.Machine.execDomainPowerOn tcid domain s
  | .domainOffDone domain => Sys2Proof.Machine.execDomainOffDone domain s
  | .dozeEntry => Sys2Proof.Machine.execDozeEntry s
  | .dozeExit => Sys2Proof.Machine.execDozeExit s
  | .synthRelockDone slot => Sys2Proof.Machine.execSynthRelockDone slot s
  | .hibernatePsuOff => Sys2Proof.Machine.execHibernatePsuOff s
  | .psuEnRise => Sys2Proof.Machine.execPsuEnRise s
  | .slotClockFault slot outputs => Sys2Proof.Machine.execSlotClockFault slot outputs s
  | .selftest => Sys2Proof.Machine.execSelftest s
  | .selftestDone pass => Sys2Proof.Machine.execSelftestDone pass s
  | .safeNRelease => Sys2Proof.Machine.execSafeNRelease s
  | .safeNReadback => Sys2Proof.Machine.execSafeNReadback s
  | .safeRelease tcid => Sys2Proof.Machine.execSafeRelease tcid s
  | .dssClear tcid => Sys2Proof.Machine.execDssClear tcid s
  | .injectChuck tcid slot => Sys2Proof.Machine.execInjectChuck tcid slot s
  | .injectClock tcid slot => Sys2Proof.Machine.execInjectClock tcid slot s
  | .injectTick tcid => Sys2Proof.Machine.execInjectTick tcid s
  | .injectLockstep tcid => Sys2Proof.Machine.execInjectLockstep tcid s
  | .injectMatrix tcid => Sys2Proof.Machine.execInjectMatrix tcid s
  | .injectSupplyIo tcid slot => Sys2Proof.Machine.execInjectSupplyIo tcid slot s
  | .injectTemp tcid => Sys2Proof.Machine.execInjectTemp tcid s
  | .injectBenchEcc tcid => Sys2Proof.Machine.execInjectBenchEcc tcid s
  | .injectSafeNRb tcid => Sys2Proof.Machine.execInjectSafeNRb tcid s
  | .ringSlotReceive dir symbols => Sys2Proof.Machine.execRingSlotReceive dir symbols s
  | .ringDirectionBroken dir => Sys2Proof.Machine.execRingDirectionBroken dir s
  | .tickMarkerEmit due => Sys2Proof.Machine.execTickMarkerEmit due s
  | .tickMarkerReceive dir src turn due chk phase held => Sys2Proof.Machine.execTickMarkerReceive dir src turn due chk phase held s
  | .markerMissed => Sys2Proof.Machine.execMarkerMissed s
  | .echoMeasure dir flight up => Sys2Proof.Machine.execEchoMeasure dir flight up s
  | .fragmentReceive => Sys2Proof.Machine.execFragmentReceive s
  | .ackReceive => Sys2Proof.Machine.execAckReceive s
  | .retransmitTimeout xfer => Sys2Proof.Machine.execRetransmitTimeout xfer s
  | .ringRxDone data => Sys2Proof.Machine.execRingRxDone data s
  | .ringTxqPush => Sys2Proof.Machine.execRingTxqPush s
  | .ringRxqPop => Sys2Proof.Machine.execRingRxqPop s
  | .porstNAssert => Sys2Proof.Machine.execPorstNAssert s
  | .powerFailEnd => Sys2Proof.Machine.execPowerFailEnd s
  | .supplyInWindow supply vclass => Sys2Proof.Machine.execSupplyInWindow supply vclass s
  | .temperatureRecovered reading => Sys2Proof.Machine.execTemperatureRecovered reading s
  | .doneAndHealthyLatch slot => Sys2Proof.Machine.execDoneAndHealthyLatch slot s
  | .activeClockEdge instant fall turn pins drv => Sys2Proof.Machine.execActiveClockEdge instant fall turn pins drv s
  | .presetOrClear slot bank => Sys2Proof.Machine.execPresetOrClear slot bank s
  | .ddrRegisterEdge slot clk rise bank => Sys2Proof.Machine.execDdrRegisterEdge slot clk rise bank s
  | .loaderJobEnd => Sys2Proof.Machine.execLoaderJobEnd s
  | .engineOperationDone verify => Sys2Proof.Machine.execEngineOperationDone verify s
  | .completionReceived port fn status data => Sys2Proof.Machine.execCompletionReceived port fn status data s
  | .dataLinkError port kind => Sys2Proof.Machine.execDataLinkError port kind s
  | .aspmStateChange port state => Sys2Proof.Machine.execAspmStateChange port state s
  | .functionReady function => Sys2Proof.Machine.execFunctionReady function s

end Sys2Proof.Machine
end

