-- ==== Sys2Proof/Machine/Balls.lean ====
section
/-! DEFINITION. What the dedicated balls show ("Dedicated ball characteristics" table, R58, R59, R77, R89): each is a function of the
state, and none is stored twice. Pulses of TURN_OUT and of SCRIBE_IO are outputs of their own besides. -/

namespace Sys2Proof.Machine

/-- The dedicated balls that carry a signal, of one port where it names one. -/
inductive Ball where
  | refclk | ptTx (p : Fin 2) | ptRx (p : Fin 2) | perst (p : Fin 2) | clkreq (p : Fin 2) | ringIn | ringOut | turnIn | turnOut
  | scribeIo | porst | wrst | safeN | pfail | smb | smbAlert | strap | tck | tmsTdiTrst | tdo | tamper | wake | psuEn
  deriving DecidableEq, Repr

/-- What the device shows on a ball: nothing, a level, a weak pull, no pull, a receiver that is off or on, a termination, electrical idle,
or a signal that its own chapter gives. -/
inductive BallState where
  | highZ | low | high | pullUp | pullDown | noPull | off | receiving | terminated | electricalIdle | signal
  deriving DecidableEq, Repr

/-- PSU_EN: high while VBAT is valid and the device is not hibernating, low in hibernate, high-Z without VBAT (R74, R90, R116, R117). -/
def Device.psuEn (d : Device) : BallState := if !d.power.vbat then .highZ else if d.power.psuLow then .low else .high

/-- A port's domain drives its balls: power-on reset is over, its supplies are there and its domain is on (R89). -/
def Device.portDriven (d : Device) (p : Fin 2) : Bool := !d.por && !d.portLow p && d.fldBit Fld.pwrDomStatusOn (16 + p.val)

/-- CLKREQ_N: high-Z until L1 substates are enabled in L1 PM Substates Control 1; from then on it is pulled low but in a substate. -/
def Device.clkreqBall (d : Device) (p : Fin 2) : BallState :=
  if d.por || d.cfgDw p 0 0x288 % 16 == 0 || d.flag (Fld.ptLinkCfgL1ssDis p) || (d.ports[p]).link == .l11 || (d.ports[p]).link == .l12
  then .highZ else .low

/-- What the device shows on a dedicated ball. -/
def Device.ballState (d : Device) : Ball → BallState
  | .refclk => if d.por then .off else .receiving
  | .ptTx p => if !d.portDriven p then .highZ else if (d.ports[p]).link == .down then .electricalIdle else .signal
  | .ptRx p => if d.portDriven p then .terminated else .highZ
  | .perst _ | .turnIn | .strap | .tck => .pullDown
  | .clkreq p => d.clkreqBall p
  | .ringIn => if d.por || bitOf d.power.low.toNat 6 then .highZ else .terminated
  | .ringOut => if !d.por && d.ringOn then .signal else .highZ
  | .turnOut => if d.por then .highZ else .low
  | .scribeIo => if !d.por && decide (d.now + 4 < d.scribe.deafTill) then .low else .highZ
  | .porst | .wrst | .pfail | .tmsTdiTrst => .pullUp
  | .safeN => if !d.por && d.flag Fld.safeStatusDrive then .low else .highZ
  | .smb => if !d.por && d.smb.reading then .signal else .highZ
  | .smbAlert => if !d.por && d.smbAlert then .low else .highZ
  | .tdo => .highZ
  | .tamper | .wake => .noPull
  | .psuEn => d.psuEn

end Sys2Proof.Machine
end

