-- ==== Sys2Proof/Safety.lean ====
section
/-! DEFINITION. What holds of a safe machine, in the terms claims use: queues within the depths the spec gives them; and how a
claim names what a command does. -/

namespace Sys2Proof.Machine

/-- No event queue holds more than 64 records (R846). -/
def State.eventsBounded (s : State) : Prop := ∀ q : Fin 4, s.evq[q].length ≤ 64

/-- No master has more than 4 transactions at one target port (R568), nor more outstanding than it may have (R565, R740). -/
def MtxUnit.creditsKept (u : MtxUnit) : Prop :=
  ∀ m : Nat, u.outstanding m ≤ mostOutstanding m ∧ ∀ t : Fin 8, u.held m t ≤ 4

/-- The invariant that every step keeps: event queues and matrix queues within their bounds. -/
def State.Inv (s : State) : Prop := s.eventsBounded ∧ s.mtx.creditsKept

/-- A command ends a run: the model has none that does. -/
def stops (o : Host.Outcome State Fault Refusal) : Prop := ∀ t, o ≠ .next t

/-! ### How a claim names the effect of a command -/

/-- On every machine whose device is `d` once the outputs of the command before are gone, command `c` answers a next state: the
device becomes `e`, and the waiting commands, the event queues and the matrix stay as they are. -/
def Acts (c : Instr) (d e : Device) : Prop := ∀ s : State, (s.mapDev id).dev = d → exec c s = .next { s with dev := e }

/-- On every machine whose device is `d` once the outputs of the command before are gone, command `c` answers a next state that
stands to the machine before as `post` says. -/
def Reaches (c : Instr) (d : Device) (post : State → State → Prop) : Prop :=
  ∀ s : State, (s.mapDev id).dev = d → ∃ t, exec c s = .next t ∧ post s t

/-- The commands that act while power-on reset is held: those of the reset itself, the balls and the supplies, and the VBAT domain. -/
def actsInPowerOnReset : Instr → Bool
  | .porRelease .. | .porstNAssert | .brownOut _ | .perstAssert _ | .perstDeassert _ | .supplyFallingAssertion _
  | .supplyRisingRelease _ | .tamper | .wake | .psuEnRise => true
  | _ => false

/-- Heartwood command `k` with opcode `op` is in progress under serial number `cid` and has not begun, and firmware runs (R741). -/
def Taken (d : Device) (cid op : Nat) (k : HwdCmd) : Prop :=
  d.por = false ∧ d.fwRuns = true ∧ d.cmd cid = some k ∧ k.op = op ∧ k.stage = 0

/-- Firmware serves SPDM request `code` of a port's mailbox in version `v`, with its payload `r` (R518; the layouts are the model's, assumption
log 12). -/
def SpdmServed (d : Device) (p : Fin 2) (code v : Nat) (r : List Byte) : Prop :=
  d.por = false ∧ d.spdmWaits p = true ∧ r = d.doePayload p ∧ leAt r 1 1 = code ∧ leAt r 0 1 = v

/-- An operation of the security engine has ended with a code: ENG_STATUS holds it and BUSY is 0 ("T3 window" table). -/
def Device.engineEnded (d : Device) (code : Nat) : Device :=
  (({ d with sec := { d.sec with engine := none } }).setFld Fld.engStatusResult code).setFlag Fld.engStatusBusy false

/-- A tick has opened a turn: TURN_OUT pulses, the elapsed time starts again, the period and the source in force are those
written (SRC 3 acts as 0), every latch and every served request of position 7 is clear, and exactly the slots that run on running
clocks are checked at the next tick and have their strobes due (R284, R288, R289, R296, R297, R310, R906). -/
def TurnOpened (e : Device) : Prop :=
  Out.turnOut ∈ e.out ∧ e.turn.ticked = true ∧ e.turn.ringTurn = none ∧ e.rd Reg.turnElapsed = 0 ∧
    e.rd Reg.turnPeriodCur = e.rd Reg.turnPeriod ∧
    e.fld Fld.turnStatusSrcCur = (if e.fld Fld.turnCtlSrc = 3 then 0 else e.fld Fld.turnCtlSrc) ∧
    ∀ n : Fin 16, (e.slot n).done = false ∧ (e.slot n).healthy = false ∧
      (e.slot n).checked = ((e.slot n).st == .running && (e.slot n).power == .on && !(e.slot n).clk.syncWait) ∧
      (e.slot n).strobe = BitVec.ofNat 4 (ofBits ((List.range 4).map fun i => e.clockRuns n i))

end Sys2Proof.Machine
end

