-- ==== Sys2Proof/Certificates/Slice0/Obligations.lean ====
section
/-! DEFINITION. The statements for the provers. `Acts c d e` and `Reaches c d post` (Safety.lean) say that command `c` answers a next
state on every machine with device `d`; under `Acts` the waiting commands, the event queues and the matrix stay as they are, and the
equation for the device is at once the result, the completion and the frame. -/

open Sys2Proof Sys2Proof.Machine


/-- Power-on reset asserts and is released (R58, R69, R74, R77, R87, R88, R90, R112, R924, R933, R935). Choices of the model:
assumption log 7, 31, 32 and 69. -/
def Obligations.PowerOnReset : Prop :=
  -- PORST_N_ASSERT: everything but non-volatile memory takes its state of power-up; the commands that wait stay
  (∀ s : State, ∃ t, exec .porstNAssert s = .next t ∧ t.pending = s.pending ∧ (∀ q : Fin 4, t.evq[q] = []) ∧ t.mtx = MtxUnit.reset ∧
    t.dev.por = true ∧ t.dev.power.porst = false ∧ t.dev.regs = [] ∧ t.dev.latches = [] ∧ t.dev.denials = [] ∧ t.dev.slots = Vector.replicate 16 Slot.reset ∧
    t.dev.hwd = Device.reset.hwd ∧ t.dev.loader = Device.reset.loader ∧ t.dev.scribe = Device.reset.scribe ∧
    t.dev.bench = Device.reset.bench ∧ t.dev.grain = Device.reset.grain ∧ t.dev.ring = Device.reset.ring ∧
    t.dev.resident = Device.reset.resident ∧ t.dev.jtag = Device.reset.jtag ∧
    (∀ p : Fin 2, t.dev.ports[p] = { Port.reset with perst := (s.dev.ports[p]).perst }) ∧
    t.dev.sec.tampered = s.dev.sec.tampered ∧ t.dev.power.hibLatch = s.dev.power.hibLatch ∧ t.dev.power.vbat = s.dev.power.vbat ∧
    (∀ a, keepsPower a = false → t.dev.byte a = memDefault a)) ∧
  -- and non-volatile memory keeps its contents where nothing was being written
  (∀ (s : State) (a : Nat), s.dev.grain.page = none → s.dev.resident.job = none → keepsPower a = true →
    ∃ t, exec .porstNAssert s = .next t ∧ t.dev.byte a = s.dev.byte a) ∧
  -- BROWN_OUT does the same, and notes which monitor asserted; it holds the reset until it releases
  (∀ (s : State) (aux : Bool), ∃ t, exec (.brownOut aux) s = .next t ∧ t.pending = s.pending ∧ (∀ q : Fin 4, t.evq[q] = []) ∧
    t.mtx = MtxUnit.reset ∧ t.dev.por = true ∧ t.dev.regs = [] ∧ t.dev.slots = Vector.replicate 16 Slot.reset ∧
    t.dev.power.brown.getLsbD (if aux then 1 else 0) = true ∧ t.dev.power.low.getLsbD (if aux then 1 else 0) = true ∧ (∀ a, keepsPower a = false → t.dev.byte a = memDefault a)) ∧
  -- POR_RELEASE: out of reset, the boot ROM started, the hibernate and brown-out latches used up
  (∀ (d : Device) (addr sel : Fin 4) (p : Bool) (supplies classes : Word), d.por = true → d.power.psuLow = false →
    (d.power.porst || p) = true → d.power.low.toNat % 4 = 0 →
    ∃ e, Acts (.porRelease addr sel ⟨p, false⟩ supplies classes) d e ∧ e.por = false ∧ e.hwd.boot = 1 ∧ e.power.hibLatch = false ∧
      e.power.brown = 0 ∧ e.power.porst = true ∧ e.power.low = d.power.low ∧ e.power.vbat = d.power.vbat ∧ e.now = d.now ∧
      e.refclk = d.refclk ∧ e.ballState .turnOut = .low ∧ e.ballState .refclk = .receiving) ∧
  -- and on a device as power-on reset leaves it, the straps and the cause are recorded
  (∀ (d : Device) (addr sel : Fin 4) (supplies classes : Word), d.por = true → d.power.psuLow = false → d.power.low.toNat % 4 = 0 →
    d.slots = Vector.replicate 16 Slot.reset → d.scribe = Device.reset.scribe → d.ports = Vector.replicate 2 Port.reset →
    d.regs = [] →
    ∃ e, Acts (.porRelease addr sel ⟨true, false⟩ supplies classes) d e ∧ e.slots = d.slots ∧
      e.fld Fld.devStrapSmbAddr = addr.val ∧ e.fld Fld.devStrapBootSel = sel.val ∧
      e.fld Fld.devBootCauseCause = d.power.porCause ∧ e.fld Fld.devBootCausePorCause = d.power.porCause) ∧
  -- with WRST_N low it holds the warm reset, and no core starts
  (∀ (d : Device) (addr sel : Fin 4) (supplies classes : Word), d.por = true → d.power.psuLow = false → d.power.low.toNat % 4 = 0 →
    ∃ e, Acts (.porRelease addr sel ⟨true, true⟩ supplies classes) d e ∧ e.por = false ∧ e.warm = true ∧ e.hwd.boot = 0 ∧
      e.power.causes = 1) ∧
  -- only the level of PORST_N is noted where PORST_N or a core monitor still holds the reset, while PSU_EN is low, and where no power-on
  -- reset is held
  (∀ (d : Device) (addr sel : Fin 4) (p w : Bool) (supplies classes : Word),
    d.power.psuLow = true ∨ d.por = false ∨ d.power.low.toNat % 4 ≠ 0 ∨ (d.power.porst || p) = false →
    Acts (.porRelease addr sel ⟨p, w⟩ supplies classes) d { d with power := { d.power with porst := d.power.porst || p } }) ∧
  -- until the reset ends no dedicated ball but PSU_EN is driven, which is high, low in hibernate, and high-Z without VBAT
  (∀ (d : Device) (b : Ball), d.por = true → b ≠ .psuEn → d.ballState b ≠ .low ∧ d.ballState b ≠ .high ∧ d.ballState b ≠ .signal) ∧
  (∀ d : Device, d.ballState .psuEn = if d.power.vbat = false then .highZ else if d.power.psuLow = true then .low else .high)

/-- Warm reset and readiness (R503, R851, R929, R931 to R933, R935, R940, R942, R952, R974). Choices of the model: assumption log 31
and 59. -/
def Obligations.WarmResetAndReadiness : Prop :=
  -- WARM_RESET with a cause: queues, latches, commands in progress and the matrix are empty, the reset is held
  (∀ (s : State) (pin : Bool), s.dev.por = false → s.dev.power.causes ||| (if pin then 1 else 0) ≠ 0 →
    ∃ t, exec (.warmReset pin) s = .next t ∧ t.pending = s.pending ∧ (∀ q : Fin 4, t.evq[q] = []) ∧ t.mtx = MtxUnit.reset ∧
      t.dev.warm = true ∧ t.dev.por = false ∧ t.dev.latches = [] ∧ t.dev.denials = [] ∧ t.dev.hwd.cmds = [] ∧ t.dev.hwd.boot = 0 ∧
      t.dev.hwd.auto = none ∧ t.dev.loader.job = none ∧ t.dev.scribe.captures = [] ∧ t.dev.scribe.restores = [] ∧
      t.dev.ring.txs = [] ∧ t.dev.ring.rxs = [] ∧ t.dev.power.hib = none ∧ t.dev.sec.engine = none ∧ t.dev.jtag.axBusy = false ∧
      t.dev.power.causes = s.dev.power.causes ||| (if pin then 1 else 0) ∧
      (∀ n : Fin 16, (t.dev.slots[n]).swap = none ∧ (t.dev.slots[n]).pend5 = none ∧ (t.dev.slots[n]).pend7 = none ∧
        (t.dev.slots[n]).flrHold = false ∧ (t.dev.slots[n]).bindOn = false ∧ (t.dev.slots[n]).emptyOff = false)) ∧
  -- with none it has no effect
  (∀ s : State, s.dev.power.causes = 0 → exec (.warmReset false) s = .next (s.mapDev id)) ∧
  -- WARM_RESET_END records the cause, clears the causes and starts the boot ROM
  (∀ d : Device, d.por = false → d.warm = true → ∃ e, Acts .warmResetEnd d e ∧ e.warm = false ∧ e.power.causes = 0 ∧ e.hwd.boot = 1 ∧
    e.fld Fld.devBootCauseCause =
      (if d.power.causes.getLsbD 0 then 5 else if d.power.causes.getLsbD 1 then 6 else 7) ∧
    e.safety.test = (if d.fldBit Fld.safeActiveActive 4 then 2 else d.safety.test)) ∧
  (∀ d : Device, d.por = false → d.warm = false → Acts .warmResetEnd d d) ∧
  -- DEV_RESET_CMD with its key calls for a warm reset; any other value is ignored
  (∀ (d : Device) (data : Word), d.por = false → data.toNat / 2 ^ 16 = 0x5752 → data.toNat % 2 = 1 →
    Acts (.devResetCmd data) d { d with power := { d.power with causes := d.power.causes ||| 2 } }) ∧
  (∀ (d : Device) (data : Word), d.por = false → data.toNat / 2 ^ 16 ≠ 0x5752 ∨ data.toNat % 2 = 0 → Acts (.devResetCmd data) d d) ∧
  -- FUNCTION_READY: AON once, GRAIN_D while its domain is on, the key store
  (∀ d : Device, d.por = false → d.flag Fld.devReadyAon = true → Acts (.functionReady 0) d d) ∧
  (∀ d : Device, d.por = false → d.flag Fld.devReadyAon = false → d.flag Fld.secStatusOtpOk = true →
    Acts (.functionReady 0) d (((d.setFlag Fld.devReadyAon true).portTrain 0).portTrain 1)) ∧
  (∀ d : Device, d.por = false → d.flag Fld.devReadyAon = false → d.flag Fld.secStatusOtpOk = false →
    Acts (.functionReady 0) d (((((d.setFlag Fld.devReadyAon true).raise 466 []).raise 489 []).portTrain 0).portTrain 1)) ∧
  (∀ d : Device, d.por = false → d.fldBit Fld.pwrDomStatusOn 19 = true →
    Acts (.functionReady 1) d ((d.setFlag Fld.grnStatusDReady true).setFlag Fld.devReadyGrainD true)) ∧
  (∀ d : Device, d.por = false →
    Acts (.functionReady 2) d ((d.setFlag Fld.secStatusKsReady true).setFlag Fld.devReadySec true).mirrorKeys)

/-- What resets a host port (R503, R523, R525, R954). Choices of the model: assumption log 33. -/
def Obligations.PortResets : Prop :=
  -- PERST_ASSERT on a port that nothing held: event 2, then the reset with its link down; its inbound requests are discarded
  (∀ (s : State) (p : Fin 2), s.dev.por = false → s.dev.portHeld p = false → ∃ t, exec (.perstAssert p) s = .next t ∧
    t.pending = s.pending ∧ t.evq = s.evq ∧ (∀ r ∈ t.mtx.reqs, r.port ≠ p) ∧
    t.dev = (((s.mapDev id).dev.modPort p fun q => { q with perst := true }).portEvent p 2 []).portReset p (some .down)) ∧
  -- on a port held already: the reset alone
  (∀ (s : State) (p : Fin 2), s.dev.por = false → s.dev.portHeld p = true → ∃ t, exec (.perstAssert p) s = .next t ∧
    t.dev = ((s.mapDev id).dev.modPort p fun q => { q with perst := true }).portReset p (some .down)) ∧
  -- a reset of a port leaves its configuration space, MSI-X tables, PBAs and DOE mailbox empty, and keeps the ball's level
  (∀ (d : Device) (p : Fin 2) (l : Option Link), let q := ((d.portReset p l).ports[p])
    q.cfg = [] ∧ q.msix = [] ∧ q.pba = [] ∧ q.flr = [] ∧ q.doeIn = [] ∧ q.doeOut = [] ∧ q.spdm = 0 ∧ q.perst = (d.ports[p]).perst) ∧
  -- PERST_DEASSERT: the port that nothing else holds trains once AON is ready
  (∀ (d : Device) (p : Fin 2), d.por = false → Acts (.perstDeassert p) d
    (let e := d.modPort p fun q => { q with perst := false }
     (e.portStatus p (e.fld (Fld.ptStatusSpeed p)) (e.fld (Fld.ptStatusWidth p))).portTrain p)) ∧
  -- HOT_RESET, LINK_DOWN and PF0_FLR of a port whose link is up: the event, then the reset
  (∀ (s : State) (p : Fin 2), s.dev.por = false → s.dev.linkUp p = true →
    (∃ t, exec (.hotReset p) s = .next t ∧ (∀ r ∈ t.mtx.reqs, r.port ≠ p) ∧ t.evq = s.evq ∧
      t.dev = ((s.mapDev id).dev.portEvent p 3 [(0, 4)]).portReset p (some .training)) ∧
    (∃ t, exec (.linkDown p) s = .next t ∧ (∀ r ∈ t.mtx.reqs, r.port ≠ p) ∧ t.evq = s.evq ∧
      t.dev = ((s.mapDev id).dev.portEvent p 1 []).portReset p (some .training)) ∧
    (∃ t, exec (.pf0Flr p) s = .next t ∧ (∀ r ∈ t.mtx.reqs, r.port ≠ p) ∧ t.evq = s.evq ∧
      t.dev = ((s.mapDev id).dev.portEvent p 3 [(1, 4)]).portReset p none)) ∧
  -- and with the link down they have no effect
  (∀ (s : State) (p : Fin 2), s.dev.linkUp p = false →
    exec (.hotReset p) s = .next (s.mapDev id) ∧ exec (.linkDown p) s = .next (s.mapDev id) ∧
      exec (.pf0Flr p) s = .next (s.mapDev id))

/-- The links of the host ports (R502, R504, R521, R544, R900). Choices of the model: assumption log 8, 11 and 33. -/
def Obligations.PortLinks : Prop :=
  -- LINK_UP ends training within the settings in force, with event 0
  (∀ (d : Device) (p : Fin 2) (speed : Fin 8) (width : Fin 16), d.por = false → (d.ports[p]).link = .training →
    d.portHeld p = false →
    Acts (.linkUp p speed width) d
      (let sp := min speed.val (d.fld (Fld.ptLinkCfgMaxSpeed p))
       let wd := min width.val (d.fld (Fld.ptLinkCfgMaxWidth p))
       (((d.modPort p fun q => { q with link := .l0 }).equalised p sp).portStatus p sp wd).portEvent p 0 [(sp, 3), (wd, 4)])) ∧
  (∀ (d : Device) (p : Fin 2) (speed : Fin 8) (width : Fin 16), d.por = false → (d.ports[p]).link ≠ .training →
    Acts (.linkUp p speed width) d d) ∧
  -- training at a speed leaves equalisation complete at each speed from 8.0 GT/s up to it, and the margining receiver ready from 16.0 GT/s
  (∀ (d : Device) (p : Fin 2) (sp : Nat), let e := d.equalised p sp
    (3 ≤ sp → bitsOf (e.cfgDw p 0 0x080) 17 4 = 15) ∧ (4 ≤ sp → bitsOf (e.cfgDw p 0 0x1DC) 0 4 = 15) ∧
    (5 ≤ sp → bitsOf (e.cfgDw p 0 0x20C) 0 4 = 15) ∧ bitOf (e.cfgDw p 0 0x234) 16 = decide (4 ≤ sp)) ∧
  -- LINK_SPEED_CHANGE without link down, with event 9
  (∀ (d : Device) (p : Fin 2) (speed : Fin 8) (width : Fin 16), d.por = false → d.linkUp p = true →
    Acts (.linkSpeedChange p speed width) d
      (let sp := min speed.val (d.fld (Fld.ptLinkCfgMaxSpeed p))
       let wd := min width.val (d.fld (Fld.ptLinkCfgMaxWidth p))
       ((d.equalised p sp).portStatus p sp wd).portEvent p 9 [(sp, 3), (wd, 4)])) ∧
  -- ASPM_STATE_CHANGE while the link is up; L1 substates only where L1SS_DIS is 0
  (∀ (d : Device) (p : Fin 2) (k : Fin 5), d.por = false → d.linkUp p = true → k.val < 3 ∨ d.flag (Fld.ptLinkCfgL1ssDis p) = false →
    Acts (.aspmStateChange p k) d
      (d.modPort p fun q => { q with link := ([Link.l0, .l0s, .l1, .l11, .l12]).getD k.val .l12 })) ∧
  (∀ (d : Device) (p : Fin 2) (k : Fin 5), d.por = false → 3 ≤ k.val → d.flag (Fld.ptLinkCfgL1ssDis p) = true →
    Acts (.aspmStateChange p k) d d) ∧
  -- DATA_LINK_ERROR: the Correctable Error Status bit of its kind, Correctable Error Detected, port event 6, and ERR_COR where neither mask nor enable stops it
  (∀ (d : Device) (p : Fin 2) (kind : Fin 5), d.por = false → d.portHeld p = false →
    let bit := ([0, 6, 7, 12, 8] : List Nat).getD kind.val 0
    let w := d.setCfgDw p 0 0x110 (withBit (d.cfgDw p 0 0x110) bit true)
    let e := (w.setCfgDw p 0 0x058 (withBit (w.cfgDw p 0 0x058) 16 true)).portEvent p 6 [(0, 5)]
    (bitOf (e.cfgDw p 0 0x114) bit = false → bitOf (e.cfgDw p 0 0x058) 0 = true →
      Acts (.dataLinkError p kind) d (e.emit (.errMessage p 0 0))) ∧
    (bitOf (e.cfgDw p 0 0x114) bit = true ∨ bitOf (e.cfgDw p 0 0x058) 0 = false → Acts (.dataLinkError p kind) d e))

/-- Virtual functions (R508, R523, R524, R544, R955). Choices of the model: assumption log 33 and 59. -/
def Obligations.VirtualFunctions : Prop :=
  -- VF_FLR of an enabled VF: its requests are discarded, its state reset, event 4 raised, and its 1 ms begins
  (∀ (s : State) (p : Fin 2) (v : Nat), s.dev.por = false → s.dev.portHeld p = false → s.dev.vfEnabled p v = true →
    ∃ t, exec (.vfFlr p v) s = .next t ∧ t.pending = s.pending ∧ t.evq = s.evq ∧ t.mtx.locks = s.mtx.locks ∧
      (∀ r ∈ t.mtx.reqs, ¬ (r.port = p ∧ r.fn = v)) ∧ v ∈ (t.dev.ports[p]).flr ∧
      (∀ w, t.dev.ports[p].cfg.find? (fun c => c.1 == v * 0x1000 + w) = none ∨ 0x1000 ≤ w) ∧
      (∀ x ∈ (t.dev.ports[p]).pba, x.1 ≠ v) ∧
      (∀ n : Fin 16, s.dev.slotOfVf p v = some n → (t.dev.slots[n]).flrHold = true)) ∧
  -- of a VF that is not enabled: no effect
  (∀ (s : State) (p : Fin 2) (v : Nat), s.dev.vfEnabled p v = false → exec (.vfFlr p v) s = .next (s.mapDev id)) ∧
  -- VF_FLR_READY ends it
  (∀ (d : Device) (p : Fin 2) (v : Nat), d.por = false →
    Acts (.vfFlrReady p v) d (d.modPort p fun q => { q with flr := q.flr.filter fun x => x != v })) ∧
  -- VF_ENABLE_SET: NumVFs of the SR-IOV capability, at most 16, with event 10
  (∀ (d : Device) (p : Fin 2), d.por = false → d.portHeld p = false → d.flag (Fld.ptStatusVfEn p) = false →
    Acts (.vfEnableSet p) d
      (let n := min 16 (d.cfgDw p 0 0x170 % 2 ^ 16)
       (((d.setCfgDw p 0 0x168 (withBit (d.cfgDw p 0 0x168) 0 true)).setFlag (Fld.ptStatusVfEn p) true).setFld
         (Fld.ptStatusNumVfs p) n).portEvent p 10 [(n, 5)])) ∧
  (∀ (d : Device) (p : Fin 2), d.por = false → d.flag (Fld.ptStatusVfEn p) = true → Acts (.vfEnableSet p) d d) ∧
  -- VF_ENABLE_CLEARED: no VF is enabled, none is in its FLR time, and no request of a VF is left
  (∀ (s : State) (p : Fin 2), s.dev.por = false → s.dev.flag (Fld.ptStatusVfEn p) = true →
    ∃ t, exec (.vfEnableCleared p) s = .next t ∧ t.pending = s.pending ∧ t.evq = s.evq ∧
      (∀ r ∈ t.mtx.reqs, r.port = p → r.fn = 0) ∧ (t.dev.ports[p]).flr = [] ∧ (∀ v, t.dev.vfEnabled p v = false)) ∧
  (∀ (s : State) (p : Fin 2), s.dev.flag (Fld.ptStatusVfEn p) = false → exec (.vfEnableCleared p) s = .next (s.mapDev id))

/-- Supplies (R90 to R92, R106, R112 to R117, R648, R965, R968). A supply is named by its bit number of SAFE_SUPPLY; 7 is VBAT. Choices
of the model: assumption log 32 and 69. -/
def Obligations.Supplies : Prop :=
  -- SUPPLY_OUT_OF_WINDOW: the core supplies call for the device safe state
  (∀ (d : Device) (k : Fin 32), d.por = false → k.val ≤ 1 →
    Acts (.supplyOutOfWindow k) d (((d.supplyRead k.val false).setActive 6 true).detectDevice 6 486 [(k.val, 16)])) ∧
  -- the supplies of the ports and of the ring are reported
  (∀ (d : Device) (k : Fin 32), d.por = false → 2 ≤ k.val → k.val ≤ 5 →
    Acts (.supplyOutOfWindow k) d (((d.supplyRead k.val false).setActive 8 true).signal 8 486 [(k.val, 16)])) ∧
  (∀ d : Device, d.por = false →
    Acts (.supplyOutOfWindow 6) d (((d.supplyRead 6 false).setActive 9 true).signal 9 486 [(6, 16)])) ∧
  -- a bank supply puts its slot into its safe state; of an EMPTY slot it only reads as out
  (∀ (d : Device) (n : Fin 16) (k : Fin 32), d.por = false → k.val = 16 + n.val →
    let r := d.supplyRead k.val false
    let e := (r.setFld (Fld.safeVccioClassClass n) 0).setActive 7 r.ioOut
    Acts (.supplyOutOfWindow k) d (if (d.slot n).st = .empty then e else e.detectSlot 7 486 [(k.val, 16)] n faultSupply)) ∧
  -- SUPPLY_IN_WINDOW
  (∀ (d : Device) (k : Fin 32) (c : Fin 4), d.por = false → k.val < 7 →
    Acts (.supplyInWindow k c) d (d.supplyRead k.val true).supplyActive) ∧
  (∀ (d : Device) (n : Fin 16) (k : Fin 32) (c : Fin 4), d.por = false → k.val = 16 + n.val →
    Acts (.supplyInWindow k c) d ((d.supplyRead k.val true).setFld (Fld.safeVccioClassClass n) c.val).supplyActive) ∧
  -- SUPPLY_FALLING_ASSERTION: VCCINT asserts power-on reset; VBAT makes its domain invalid; VCCAUX is a power-fail
  (∀ s : State, ∃ t, exec (.supplyFallingAssertion 0) s = .next t ∧ t.dev.por = true ∧ t.dev.regs = [] ∧
    t.dev.power.brown.getLsbD 0 = true) ∧
  (∀ d : Device, ∃ e, Acts (.supplyFallingAssertion 7) d e ∧ e.power.vbat = false ∧ e.power.psuLow = false ∧ e.regs = d.regs ∧
    e.mem = d.mem ∧ e.slots = d.slots ∧ e.power.low.getLsbD 7 = true ∧
    (d.power.psuLow = true → e.power.hibLatch = false ∧ e.power.wakeLatch = false ∧ e.power.brown = 0) ∧
    -- with VCCAUX gone as well nothing powers the latches of the domain
    (d.power.low.getLsbD 1 = true → e.power.hibLatch = false ∧ e.power.wakeLatch = false ∧ e.sec.tampered = false) ∧
    (d.power.low.getLsbD 1 = false → e.sec = d.sec)) ∧
  (∀ d : Device, d.por = false → Acts (.supplyFallingAssertion 1) d d.powerFail) ∧
  -- while power-on reset is held the other thresholds are only noted
  (∀ (d : Device) (k : Fin 32), d.por = true → (1 ≤ k.val ∧ k.val < 7) ∨ 16 ≤ k.val →
    Acts (.supplyFallingAssertion k) d (d.setLow k.val true)) ∧
  -- a bank supply takes its bank's balls to high-Z, and its return gives them back
  (∀ (d : Device) (n : Fin 16) (k : Fin 32), d.por = false → k.val = 16 + n.val →
    Acts (.supplyFallingAssertion k) d ((d.flushEdges.setLow k.val true).settleAll) ∧
    Acts (.supplyRisingRelease k) d ((d.setLow k.val false).settleAll)) ∧
  (∀ (d : Device) (n : Fin 16) (i : Nat) (v : Fin 16 → FabView), d.por = true ∨ d.power.low.getLsbD (16 + n.val) = true →
    d.ballDrive v n i = none) ∧
  -- a port supply holds its port in reset, a ring supply takes the ring out of service
  (∀ (s : State) (k : Fin 32), s.dev.por = false → 2 ≤ k.val → k.val ≤ 5 → s.dev.portHeld (supplyPort k.val) = false →
    ∃ t, exec (.supplyFallingAssertion k) s = .next t ∧ t.evq = s.evq ∧ (∀ r ∈ t.mtx.reqs, r.port ≠ supplyPort k.val) ∧
      t.dev = (((s.mapDev id).dev.setLow k.val true).portEvent (supplyPort k.val) 2 []).portReset (supplyPort k.val) (some .down)) ∧
  (∀ d : Device, d.por = false → Acts (.supplyFallingAssertion 6) d (d.setLow 6 true).ringRefresh) ∧
  -- SUPPLY_RISING_RELEASE: the port may train again
  (∀ (d : Device) (k : Fin 32), d.por = false → 2 ≤ k.val → k.val ≤ 5 →
    Acts (.supplyRisingRelease k) d ((d.setLow k.val false).portTrain (supplyPort k.val))) ∧
  (∀ d : Device, d.por = false → Acts (.supplyRisingRelease 6) d (d.setLow 6 false).ringRefresh) ∧
  (∀ d : Device, ∃ e, Acts (.supplyRisingRelease 7) d e ∧ e.power.vbat = true ∧ e.regs = d.regs) ∧
  -- POWER_FAIL_AUTOSTORE: a STORE of cause 2 starts where AUTOSTORE_EN and ARMED are 1 and none runs
  (∀ (d : Device) (b : Nat), d.por = false → d.grain.pfail = false → d.grain.store = none → d.flag Fld.grnStatusArmed = true →
    d.flag Fld.grnCtlAutostoreEn = true →
    d.newestBank = some b → ∃ e, Acts .powerFailAutostore d e ∧ e.grain.pfail = true ∧
      e.grain.store = some ⟨1 - b, d.bankSsn b + 1, 2⟩) ∧
  (∀ d : Device, d.por = false → d.grain.pfail = true ∨ d.grain.store ≠ none ∨ d.flag Fld.grnStatusArmed = false →
    Acts .powerFailAutostore d { d with grain := { d.grain with pfail := true } }) ∧
  -- POWER_FAIL_END
  (∀ d : Device, d.por = false → ∃ e, Acts .powerFailEnd d e ∧ e.grain.pfail = false ∧ e.grain.pfStored = false ∧ e.regs = d.regs) ∧
  -- AUTOSTORE_ARM: ARMED follows VHOLD
  (∀ (d : Device) (b : Bool), d.por = false → d.power.hib = none → d.power.grainOff = 0 →
    Acts (.autostoreArm b) d (d.setFlag Fld.grnStatusArmed b))

/-- REFCLK, temperature, tamper and wake (R104, R108, R185, R785 to R788, R911, R965, R968). Choices of the model: assumption log 8, 32
and 69. -/
def Obligations.ClockTemperatureTamperWake : Prop :=
  -- REFCLK_LOSS: no synthesiser is locked
  (∀ d : Device, d.por = false → ∃ e, Acts .refclkLoss d e ∧ e.refclk = false ∧ e.now = d.now ∧ e.epoch = d.epoch ∧ e.turn = d.turn ∧
    e.loader = d.loader ∧ e.grain = d.grain ∧ e.bench = d.bench ∧ e.ring = d.ring ∧ e.power = d.power ∧
    ∀ n : Fin 16, (e.slot n).clk.lockA = 0 ∧ (e.slot n).clk.lockB = 0 ∧ (e.slot n).power = (d.slot n).power ∧
      (e.slot n).binding = (d.slot n).binding ∧ (e.slot n).mc = (d.slot n).mc ∧ (e.slot n).mb = (d.slot n).mb ∧
      -- a slot that is ON with a watched output has a clock fault, and is FAULTED where it was loaded
      ((d.slot n).power = .on → d.watched n ≠ 0 → e.fldBit Fld.safeClkFaultSlot n = true ∧
        ((d.slot n).st = .running ∨ (d.slot n).st = .loaded ∨ (d.slot n).st = .held →
          (e.slot n).st = .faulted ∧ bitOf (e.rd (Reg.slcFault n)) 2 = true)) ∧
      ((d.slot n).power ≠ .on ∨ d.watched n = 0 → (e.slot n).st = (d.slot n).st ∧
        e.rd (Reg.slcFault n) = d.rd (Reg.slcFault n))) ∧
  -- REFCLK_RETURN: the epoch count goes on from where REFCLK stopped
  (∀ d : Device, d.por = false → Acts .refclkReturn d { d with refclk := true }) ∧
  -- OVER_TEMPERATURE: 105 °C, which is 420 quarter degrees, or more is the TEMP cause
  (∀ (d : Device) (r : BitVec 16), d.por = false → 420 ≤ r.toInt →
    Acts (.overTemperature r) d
      ((((d.setFld Fld.safeTempReading r.toNat).setFlag Fld.safeTempOver true).setActive 10 true).detectDevice 10 487 [])) ∧
  (∀ (d : Device) (r : BitVec 16), d.por = false → r.toInt < 420 →
    Acts (.overTemperature r) d (d.setFld Fld.safeTempReading r.toNat)) ∧
  -- TEMPERATURE_RECOVERED: below 100 °C the cause is gone
  (∀ (d : Device) (r : BitVec 16), d.por = false → r.toInt < 400 →
    Acts (.temperatureRecovered r) d (((d.setFld Fld.safeTempReading r.toNat).setFlag Fld.safeTempOver false).setActive 10 false)) ∧
  (∀ (d : Device) (r : BitVec 16), d.por = false → 400 ≤ r.toInt →
    Acts (.temperatureRecovered r) d (d.setFld Fld.safeTempReading r.toNat)) ∧
  -- TAMPER: the latch, the device safe state, keys dropped from the engines, Bench memory not ready
  (∀ d : Device, d.por = false → d.power.vbat = true → ∃ e, Acts .tamper d e ∧ e.sec.tampered = true ∧ e.sec.engine = none ∧
    e.sec.loaderKey = [] ∧ e.sec.scribeKey = [] ∧ e.grain.unlocks = [] ∧ e.scribe.captures = [] ∧ e.scribe.restores = [] ∧
    e.flag Fld.secStatusTampered = true ∧ e.flag Fld.secStatusErasing = true ∧ e.flag Fld.safeStatusDss = true ∧
    e.flag Fld.benchStatusReady = false ∧ e.flag Fld.benchStatusZeroing = true ∧ e.flag Fld.devReadyBench = false ∧
    e.fldBit Fld.safeDssCauses 16 = true ∧ e.evtStatus 464 = true ∧ e.now = d.now ∧ e.turn = d.turn ∧ e.power = d.power ∧
    e.loader = d.loader ∧ e.ring = d.ring ∧ e.bench = d.bench ∧
    ∀ n : Fin 16, (d.slot n).st = .running ∨ (d.slot n).st = .loaded ∨ (d.slot n).st = .held → (e.slot n).st = .faulted) ∧
  -- while power-on reset is held it latches, and the erasure waits; with VBAT invalid it has no effect
  (∀ d : Device, d.por = true → d.power.vbat = true →
    Acts .tamper d { d with sec := { d.sec with tampered := true, erasePend := true } }) ∧
  (∀ d : Device, d.power.vbat = false → Acts .tamper d d) ∧
  -- TAMPER_RESPONSE_COMPLETE: ERASING ends with event 465, no key is left, and Bench memory is clear
  (∀ d : Device, d.por = false → d.flag Fld.secStatusTampered = true → d.flag Fld.secStatusErasing = true →
    ∃ e, Acts .tamperResponseComplete d e ∧ e.flag Fld.secStatusErasing = false ∧ e.evtStatus 465 = true ∧
      e.flag Fld.benchStatusTamperErased = true ∧ e.hasIdk = false ∧
      e.hasKak = false ∧ (∀ i < 32, e.tskUsed i = false) ∧ e.turn = d.turn ∧ e.power = d.power ∧ e.ring = d.ring ∧
      ∀ n : Fin 16, e.pValid n 0 = false ∧ e.pValid n 1 = false) ∧
  (∀ d : Device, d.por = false → d.flag Fld.secStatusTampered = false ∨ d.flag Fld.secStatusErasing = false →
    Acts .tamperResponseComplete d d) ∧
  -- WAKE is latched from the acceptance of HIBERNATE on, while VBAT is valid
  (∀ d : Device, d.power.vbat = true → d.power.hib ≠ none ∨ d.power.psuLow = true →
    Acts .wake d { d with power := { d.power with wakeLatch := true } }) ∧
  (∀ d : Device, d.power.vbat = false ∨ (d.power.hib = none ∧ d.power.psuLow = false) → Acts .wake d d)

/-- The tick generator's registers (R281, R283, R284, R288, R308, R309, R313, R965, R1022). Choices of the model: assumption log 8, 72
and 79. -/
def Obligations.TurnGenerator : Prop :=
  -- TURN_RUN sets RUN, and the generator starts at the next REFCLK edge
  (∀ d : Device, d.por = false → d.flag Fld.turnCtlRun = false →
    Acts .turnRun d { d.setFlag Fld.turnCtlRun true with turn := { d.turn with starting := true } }) ∧
  -- at that edge: counter and elapsed time 0, the period and the source in force as written (SRC 3 acts as 0)
  (∀ d : Device, d.por = false → d.refclk = true → d.turn.starting = true → d.safety.inj = none → let e := d.idle
    e.turn.starting = false ∧ e.turn.ticked = false ∧ e.turnCount = 0 ∧ e.rd Reg.turnElapsed = 0 ∧
    e.rd Reg.turnPeriodCur = d.rd Reg.turnPeriod ∧ e.epoch = d.epoch + 1 ∧
    e.fld Fld.turnStatusSrcCur = (if d.fld Fld.turnCtlSrc = 3 then 0 else d.fld Fld.turnCtlSrc) ∧ e.slots = d.slots ∧ e.mem = d.mem) ∧
  (∀ d : Device, d.por = false → d.flag Fld.turnCtlRun = true → Acts .turnRun d d) ∧
  -- TURN_PERIOD_WRITE: below 100 it is refused with PERIOD_REJ and event 505
  (∀ (d : Device) (v : Word), d.por = false → v.toNat < 100 →
    Acts (.turnPeriodWrite v) d ((d.setFlag Fld.turnStatusPeriodRej true).raise 505 [])) ∧
  (∀ (d : Device) (v : Word), d.por = false → 100 ≤ v.toNat → Acts (.turnPeriodWrite v) d (d.wr Reg.turnPeriod v.toNat)) ∧
  -- TURN_SRC_WRITE
  (∀ (d : Device) (src : Fin 4) (adopt : Bool), d.por = false →
    Acts (.turnSrcWrite src adopt) d ((d.setFld Fld.turnCtlSrc src.val).setFlag Fld.turnCtlAdopt adopt)) ∧
  -- TURN_COUNT_LO_READ answers the low word and latches the high word for the TCID's next read of TURN_COUNT_HI
  (∀ (d : Device) (tcid : Fin 64), d.por = false → ∃ l, Acts (.turnCountLoRead tcid) d
    ({ d with turn := { d.turn with hiLatch := l } }.emit (.resp 0 (d.rd Reg.turnCountLo))) ∧
    Sparse.get (fun _ => 0) l tcid.val = BitVec.ofNat 32 (d.rd Reg.turnCountHi)) ∧
  -- TURN_OVR_CLR clears the named counts and no other register
  (∀ (d : Device) (v : Word), d.por = false → ∃ e, Acts (.turnOvrClr v) d e ∧ e = { d with regs := e.regs } ∧
    (∀ n : Fin 16, e.rd (Reg.turnOvrCount n) = if bitOf v.toNat n then 0 else d.rd (Reg.turnOvrCount n)) ∧
    ∀ a, (∀ n : Fin 16, a ≠ Reg.turnOvrCount n) → e.rd a = d.rd a) ∧
  -- TICK_LOSS: LOST, its sticky copy, the TICK cause and the device safe state with event 483
  (∀ d : Device, d.por = false → d.flag Fld.turnCtlRun = true → d.turn.starting = false → d.flag Fld.turnStatusLost = false →
    Acts .tickLoss d
      ((((d.setFlag Fld.turnStatusLost true).setFlag Fld.turnStatusLostSticky true).setActive 3 true).detectDevice 3 483 [])) ∧
  (∀ d : Device, d.por = false → d.flag Fld.turnCtlRun = false ∨ d.turn.starting = true ∨ d.flag Fld.turnStatusLost = true →
    Acts .tickLoss d d)

/-- Ticks (R280, R284 to R288, R291, R292, R296, R297, R306, R309 to R312, R877, R878, R881, R906). Choices of the model: assumption log 45, 52 and
79. -/
def Obligations.Ticks : Prop :=
  -- the internal source ticks while RUN is 1 and REFCLK is present; a ring follower only with a marker
  (∀ d : Device, d.por = false → d.flag Fld.turnCtlRun = true → d.refclk = true → d.turn.starting = false →
    d.fld Fld.turnStatusSrcCur = 2 → d.turn.ringTurn ≠ none ∨ d.flag Fld.ringStatusMaster = true →
    ∃ e, Acts .turnTick d e ∧ TurnOpened e) ∧
  -- of a follower at the edge that the marker placed
  (∀ d : Device, d.por = false → d.flag Fld.turnCtlRun = true → d.refclk = true → d.turn.starting = false → d.turn.inEdge = none →
    d.fld Fld.turnStatusSrcCur = 2 → d.flag Fld.ringStatusMaster = false → d.turn.ringTurn ≠ none →
    ∃ e, Acts .turnTick d e ∧ e.epoch = d.epoch + (d.turn.ringEdge - d.now) ∧ e.turn.tickAt = e.epoch) ∧
  -- the tick of the internal source comes TURN_PERIOD_CUR periods after the last, up to which time passes; so does that of a ring master
  -- whose SRC is 2
  (∀ d : Device, d.por = false → d.flag Fld.turnCtlRun = true → d.refclk = true → d.turn.starting = false → d.turn.inEdge = none →
    d.fld Fld.turnStatusSrcCur ≠ 1 → d.fld Fld.turnStatusSrcCur ≠ 2 ∨ d.flag Fld.ringStatusMaster = true →
    ∃ e, Acts .turnTick d e ∧ TurnOpened e ∧
      e.epoch = d.epoch + (d.rd Reg.turnPeriodCur - d.rd Reg.turnElapsed) ∧ e.turn.tickAt = e.epoch) ∧
  -- of a generator that has not started yet, edge E0 comes first
  (∀ d e : Device, d.por = false → d.flag Fld.turnCtlRun = true → d.refclk = true → d.turn.starting = true → d.safety.inj = none →
    Acts .turnTick (d.pass 1) e → Acts .turnTick d e) ∧
  (∀ d : Device, d.por = false → d.flag Fld.turnCtlRun = false ∨ d.refclk = false → Acts .turnTick d d) ∧
  (∀ d : Device, d.por = false → d.turn.starting = false → d.fld Fld.turnStatusSrcCur = 2 → d.turn.ringTurn = none →
    d.flag Fld.ringStatusMaster = false → Acts .turnTick d d) ∧
  (∀ d : Device, d.por = false → d.turn.starting = false → d.fld Fld.turnStatusSrcCur = 1 → d.turn.inEdge = none →
    Acts .turnTick d d) ∧
  -- TURN_IN_EDGE: a high sample after a low one calls for a tick at the second REFCLK edge after it, where the last tick lies 1 µs or more
  -- before that
  (∀ d : Device, d.por = false → d.flag Fld.turnCtlRun = true → d.refclk = true → d.turn.starting = false →
    d.fld Fld.turnStatusSrcCur = 1 → d.turn.inEdge = none → d.turn.ticked = false ∨ 98 ≤ d.rd Reg.turnElapsed →
    Acts .turnInEdge d { d with turn := { d.turn with inEdge := some 2 } }) ∧
  -- and that tick comes with its edge
  (∀ (d : Device) (j : Nat), d.por = false → d.flag Fld.turnCtlRun = true → d.refclk = true → d.turn.starting = false →
    d.turn.inEdge = some j → 0 < j → TurnOpened (d.pass j) ∧ (d.pass j).epoch = d.epoch + j ∧ (d.pass j).turn.inEdge = none ∧
      (d.fld Fld.turnStatusSrcCur = 1 → Acts .turnTick d (d.pass j))) ∧
  -- an edge that comes early is ignored, with EARLY and event 504
  (∀ d : Device, d.por = false → d.flag Fld.turnCtlRun = true → d.refclk = true → d.turn.starting = false →
    d.fld Fld.turnStatusSrcCur = 1 → d.turn.inEdge = none → d.turn.ticked = true → d.rd Reg.turnElapsed < 98 →
    Acts .turnInEdge d ((d.setFlag Fld.turnStatusEarly true).raise 504 [])) ∧
  (∀ d : Device, d.por = false → d.flag Fld.turnCtlRun = false ∨ d.refclk = false ∨ d.turn.starting = true ∨
    d.fld Fld.turnStatusSrcCur ≠ 1 → Acts .turnInEdge d d)

/-- What turns bring about on their own (R295, R432, R848, R904). Choices of the model: assumption log 8 and 45. -/
def Obligations.TurnAutomatics : Prop :=
  -- IDLE_RETAIN: a group whose idle count has reached IDLE_TURNS (0 acts as 1) asks for RETAIN at position 7
  (∀ (d : Device) (n : Fin 16), d.por = false → d.flag (Fld.pwrSlotAutoRetain (d.member0 n)) = true →
    1 ≤ d.fld (Fld.pwrSlotIdleCnt (d.member0 n)) →
    d.fld (Fld.pwrSlotIdleTurns (d.member0 n)) ≤ d.fld (Fld.pwrSlotIdleCnt (d.member0 n)) →
    Acts (.idleRetain n) d (d.modSlot (d.member0 n) fun s => { s with idleAuto := true })) ∧
  (∀ (d : Device) (n : Fin 16), d.por = false → d.flag (Fld.pwrSlotAutoRetain (d.member0 n)) = false ∨
    d.fld (Fld.pwrSlotIdleCnt (d.member0 n)) < max 1 (d.fld (Fld.pwrSlotIdleTurns (d.member0 n))) →
    Acts (.idleRetain n) d d) ∧
  -- VECTOR_AGE_EXPIRY: a vector with a pending count whose age has reached TURNS has its message made ready
  (∀ (d : Device) (p : Fin 2) (fn vec w : Nat), d.por = false → d.rd (coalReg p fn vec) = w → bitsOf w 16 8 ≠ 0 →
    bitsOf w 8 8 ≠ 0 → bitsOf w 8 8 ≤ bitsOf w 24 8 →
    Acts (.vectorAgeExpiry p fn vec) d ((d.wr (coalReg p fn vec) (w % 2 ^ 16)).msixReady p fn vec)) ∧
  (∀ (d : Device) (p : Fin 2) (fn vec w : Nat), d.por = false → d.rd (coalReg p fn vec) = w →
    bitsOf w 16 8 = 0 ∨ bitsOf w 8 8 = 0 ∨ bitsOf w 24 8 < bitsOf w 8 8 → Acts (.vectorAgeExpiry p fn vec) d d) ∧
  -- a message made ready is pending in the function's PBA
  (∀ (d : Device) (p : Fin 2) (fn vec : Nat), (fn, vec) ∈ ((d.msixReady p fn vec).ports[p]).pba) ∧
  -- DONE_AND_HEALTHY_LATCH: the latches take what the last edge showed, and never fall
  (∀ (d : Device) (n : Fin 16), d.por = false →
    Acts (.doneAndHealthyLatch n) d (d.modSlot n fun s => { s with
      done := s.done || s.due.done, healthy := s.healthy || s.due.healthy
      due := { s.due with done := false, healthy := false } })) ∧
  -- TRIAL_REVERT: a trial with no turn left has its revert wait for position 3; any other trial is left alone
  (∀ (d : Device) (n : Fin 16) (t : Trial), d.por = false → (d.slot n).trial = some t → t.left = 0 →
    Acts (.trialRevert n) d (d.modSlot n fun s => { s with trial := some { t with revert := true } })) ∧
  (∀ (d : Device) (n : Fin 16) (t : Trial), d.por = false → (d.slot n).trial = some t → t.left ≠ 0 → Acts (.trialRevert n) d d) ∧
  (∀ (d : Device) (n : Fin 16), d.por = false → (d.slot n).trial = none → Acts (.trialRevert n) d d)

/-- The slot mailboxes (R302 to R304, R488, R489, R526 to R529, R905). -/
def Obligations.SlotMailboxes : Prop :=
  -- MB_IN_PUSH: the staging registers as they stand become the newest inbound entry
  (∀ (d : Device) (n : Fin 16), d.por = false → (d.slot n).mb.inq.length < 64 →
    (∀ m ∈ d.members n, (d.slot m).power ≠ .retain ∨ (d.slot m).st = .faulted) ∨ d.flag (Fld.pwrSlotAutoRetain n) = false →
    ∃ x : BitVec 512, (∀ k < 16, x.extractLsb' (32 * k) 32 = BitVec.ofNat 32 (d.rd (Reg.mbInStage n k))) ∧
      Acts (.mbInPush n) d (d.modSlot n fun s => { s with mb := { s.mb with inq := s.mb.inq ++ [x] }, idleBreak := true })) ∧
  -- in RETAIN with AUTO_RETAIN it also asks for a wake
  (∀ (d : Device) (n m : Fin 16), d.por = false → (d.slot n).mb.inq.length < 64 → m ∈ d.members n → (d.slot m).power = .retain →
    (d.slot m).st ≠ .faulted → d.flag (Fld.pwrSlotAutoRetain n) = true → ∃ e, Acts (.mbInPush n) d e ∧ (e.slot n).wakeAuto = true ∧
      e.flag (Fld.pwrSlotWakePend n) = true ∧ (e.slot n).mb.inq.length = (d.slot n).mb.inq.length + 1) ∧
  -- at 64 entries it only sets IN_OVF
  (∀ (d : Device) (n : Fin 16), d.por = false → 64 ≤ (d.slot n).mb.inq.length →
    Acts (.mbInPush n) d (d.setFlag (Fld.mbFlagsInOvf n) true)) ∧
  -- MB_OUT_POP takes the oldest visible entry; with none visible it only sets OUT_UNF
  (∀ (d : Device) (n : Fin 16), d.por = false → 1 ≤ (d.slot n).mb.outVis →
    Acts (.mbOutPop n) d (d.modSlot n fun s => { s with mb := { s.mb with outq := s.mb.outq.tail, outVis := s.mb.outVis - 1 } })) ∧
  (∀ (d : Device) (n : Fin 16), d.por = false → (d.slot n).mb.outVis = 0 →
    Acts (.mbOutPop n) d (d.setFlag (Fld.mbFlagsOutUnf n) true)) ∧
  -- IN_POP of the fabric: the inbound head leaves, with event 0 where the total falls to LEVEL
  (∀ (d : Device) (n : Fin 16), d.por = false → d.mailDue n 2 = true → 1 ≤ (d.slot n).mb.inVis →
    ∃ e, Acts (.inPop n) d e ∧ (e.slot n).mb.inq = (d.slot n).mb.inq.tail ∧ (e.slot n).mb.inVis = (d.slot n).mb.inVis - 1 ∧
      e.mailDue n 2 = false ∧
      (d.fld (Fld.mbInLowwaterLevel n) < (d.slot n).mb.inq.length →
        (d.slot n).mb.inq.length - 1 ≤ d.fld (Fld.mbInLowwaterLevel n) → e.evtStatus (24 * n.val) = true)) ∧
  (∀ (d : Device) (n : Fin 16), d.por = false → d.mailDue n 2 = true → (d.slot n).mb.inVis = 0 →
    Acts (.inPop n) d ((d.mailServed n 2).setFlag (Fld.mbFlagsInUnf n) true)) ∧
  -- OUT_PUSH of the fabric, after the OUT_WE of the same edge
  (∀ (d : Device) (n : Fin 16), d.por = false → d.mailDue n 1 = true → d.mailDue n 0 = false → (d.slot n).mb.outq.length < 64 →
    ∃ e, Acts (.outPush n) d e ∧ (e.slot n).mb.outq = (d.slot n).mb.outq ++ [(d.slot n).mb.outStage] ∧
      (e.slot n).mb.outVis = (d.slot n).mb.outVis ∧ e.mailDue n 1 = false) ∧
  (∀ (d : Device) (n : Fin 16), d.por = false → d.mailDue n 1 = true → d.mailDue n 0 = false → 64 ≤ (d.slot n).mb.outq.length →
    Acts (.outPush n) d ((d.mailServed n 1).setFlag (Fld.mbFlagsOutOvf n) true)) ∧
  (∀ (d e f : Device) (n : Fin 16), d.por = false → d.mailDue n 1 = true → d.mailDue n 0 = true → Acts (.outWe n) d e →
    Acts (.outPush n) e f → Acts (.outPush n) d f) ∧
  -- OUT_WE writes one 16-bit word of the outbound staging entry, as the edge sampled it
  (∀ (d : Device) (n : Fin 16), d.por = false → d.mailDue n 0 = true →
    ∃ e, Acts (.outWe n) d e ∧ (e.slot n).mb.outq = (d.slot n).mb.outq ∧ e.mailDue n 0 = false ∧
      (e.slot n).mb.outStage = BitVec.ofNat 512 (withBits (d.slot n).mb.outStage.toNat
        (16 * bitsOf (d.slot n).due.word.toNat 0 5) 16 (bitsOf (d.slot n).due.word.toNat 5 16))) ∧
  -- USER_EVENT: event 16 + k for every user line that rose
  (∀ (d : Device) (n : Fin 16), d.por = false → d.mailDue n 3 = true →
    ∃ e, Acts (.userEvent n) d e ∧ e.mailDue n 3 = false ∧ (e.slot n).mb = (d.slot n).mb ∧
      ∀ k < 8, bitOf (d.slot n).mb.userPrev.toNat k = true → bitOf (d.slot n).mb.userOld.toNat k = false →
        e.evtStatus (24 * n.val + 16 + k) = true) ∧
  -- with nothing due they have no effect
  (∀ (d : Device) (n : Fin 16), d.por = false → (d.slot n).due.mail = 0 →
    Acts (.inPop n) d d ∧ Acts (.outPush n) d d ∧ Acts (.outWe n) d d ∧ Acts (.userEvent n) d d)

/-- Slot clock edges, storage elements, block memories and DDR registers (R130 to R133, R141, R146, R180, R201 to R217, R221, R236, R237,
R252, R253, R270, R483). Choices of the model: assumption log 20, 45, 54, 60 to 64 and 67. -/
def Obligations.SlotFabric : Prop :=
  -- ACTIVE_CLOCK_EDGE with nothing waiting leaves registers, memory, mailboxes and the state of every slot; the balls are as given
  (∀ (d : Device) (num den : Nat) (fall turn : BitVec 64) (pins drv : BitVec 544), d.por = false → 0 < den → num / den = d.epoch →
    d.edgeDone num den = false → (∀ n, (d.slot n).due = DueOps.reset) →
    ∃ e, Acts (.activeClockEdge ⟨num, den⟩ fall turn pins drv) d e ∧ e.regs = d.regs ∧ e.mem = d.mem ∧ e.freeCtr = d.freeCtr + 1 ∧
      e.epoch = d.epoch ∧ e.turn = { d.turn with edgeAt := some (num, den) } ∧
      ∀ n, (e.slot n).pinIn = pins.extractLsb' (34 * n.val) 34 ∧ (e.slot n).pinDrv = drv.extractLsb' (34 * n.val) 34 ∧
        (e.slot n).st = (d.slot n).st ∧ (e.slot n).power = (d.slot n).power ∧ (e.slot n).mb.inq = (d.slot n).mb.inq ∧
        (e.slot n).mb.outq = (d.slot n).mb.outq ∧ (e.slot n).bm = (d.slot n).bm ∧ (e.slot n).clk = (d.slot n).clk ∧
        (d.fabricLive n = false → (e.slot n).due = (d.slot n).due)) ∧
  -- an instant that is past, or at or before an edge that has been, has no effect
  (∀ (d : Device) (num den : Nat) (fall turn : BitVec 64) (pins drv : BitVec 544), d.por = false →
    den = 0 ∨ num / den < d.epoch ∨ (num / den = d.epoch ∧ d.edgeDone num den = true) →
    Acts (.activeClockEdge ⟨num, den⟩ fall turn pins drv) d d) ∧
  -- the REFCLK edge of every epoch count that is a multiple of M is a rising edge of an output that runs, but not inside a swap cycle
  (∀ (d : Device) (n : Fin 16) (i k : Nat), d.clockRuns n i = true →
    ((d.slot n).cyc.swaps = false → d.risesAt n (k * d.ckM n (d.act n) i) 1 i = true) ∧
    ((d.slot n).cyc.swaps = true → ∀ num den, d.risesAt n num den i = false)) ∧
  -- registers without preset and clear: a D register takes its input and a T register toggles at a rising edge of its running clock while
  -- enabled, else they keep their value; `w` is the device with balls, fabric and views as they stand just before the edge
  (∀ (d b h w : Device) (num den : Nat) (fall turn : BitVec 64) (pins drv : BitVec 544) (live : List (Fin 16)), d.por = false →
    0 < den → num / den = d.epoch → d.edgeDone num den = false → (∀ n, (d.slot n).due = DueOps.reset) → d.lateAt num den = false →
    live = allSlots.filter d.fabricLive →
    b = (d.forSlots allSlots fun n x => x.setBalls n (BitVec.ofNat 34 (bitsOf pins.toNat (34 * n.val) 34))
      (BitVec.ofNat 34 (bitsOf drv.toNat (34 * n.val) 34)) (x.turnLevels n (x.risesOf n num den) (bitsOf turn.toNat (4 * n.val) 4) false)) →
    h = (b.settleAll.forSlots allSlots fun n x => x.endHigh n (Nat.lor (bitsOf fall.toNat (4 * n.val) 4) (x.risesOf n num den))) →
    w = (h.forSlots live fun n x => let y := x.curView n
      x.modSlot n fun s => { s with pre := y }) →
    ∃ e, Acts (.activeClockEdge ⟨num, den⟩ fall turn pins drv) d e ∧
      ∀ (n : Fin 16) (m k : Nat), d.fabricLive n = true → (d.slot n).cyc.resets = false → m < 2048 → mcClksel (w.mcWord n m) = k →
        k < 4 → (d.slot n).fresh.getLsbD k = false → mcMode (w.mcWord n m) < 2 → bitOf (w.mcWord n m) 12 = false →
        bitOf (w.mcWord n m) 13 = false →
        let q := (d.slot n).mc.getLsbD m
        (w.risesAt n num den k = true → (e.slot n).mc.getLsbD m =
          (if w.mcEnable w.preViews n m (w.mcWord n m) then
            (let x := w.node w.preViews (2 ^ 20 + 2048 * n.val + m) (.xor_ n m)
             if mcMode (w.mcWord n m) = 0 then x else q != x)
          else q)) ∧
        (w.risesAt n num den k = false → (e.slot n).mc.getLsbD m = q)) ∧
  -- no clock edge moves a storage element inside a slot reset
  (∀ (d : Device) (num den : Nat) (fall turn : BitVec 64) (pins drv : BitVec 544) (n : Fin 16), d.por = false →
    num / den = d.epoch → d.lateAt num den = false → (d.slot n).cyc.resets = true →
    ∃ e, Acts (.activeClockEdge ⟨num, den⟩ fall turn pins drv) d e ∧ (e.slot n).mc = (d.slot n).mc) ∧
  -- a preset or clear that acts wins over an edge and over what the element holds; clear wins over preset
  (∀ (d : Device) (v : Fin 16 → FabView) (n : Fin 16) (m : Nat) (b slow : Bool) (l : List Nat), d.mcForce v n m (d.mcWord n m) = some b →
    d.mcEdge v n m slow = b ∧
    (m ∈ l → m < 2048 → mcMode (d.mcWord n m) < 2 → (d.settleRound v n l).1.getLsbD m = b)) ∧
  (∀ (d : Device) (v : Fin 16 → FabView) (n : Fin 16) (m : Nat), bitOf (d.mcWord n m) 13 = true → d.mcPt v n m 4 = true →
    d.mcForce v n m (d.mcWord n m) = some false) ∧
  -- PRESET_OR_CLEAR: the fabric settles under the given balls
  (∀ (d : Device) (n : Fin 16) (num den : Nat) (turn : BitVec 4) (pins drv : BitVec 34), d.por = false → 0 < den →
    num / den = d.epoch → d.lateAt num den = false →
    (d.fabricLive n = true → Acts (.presetOrClear n ⟨⟨num, den⟩, turn, pins, drv⟩) d
      (((d.setBalls n pins drv (d.turnLevels n 0 turn.toNat false)).settleAll).afterChange allSlots)) ∧
    (d.fabricLive n = false → Acts (.presetOrClear n ⟨⟨num, den⟩, turn, pins, drv⟩) d d)) ∧
  -- settling changes nothing but storage elements and product-term clock levels, and those of no slot that does not run
  (∀ (d : Device) (n : Fin 16), d.settleAll.regs = d.regs ∧ d.settleAll.mem = d.mem ∧
    d.settleAll.slot n = { d.slot n with mc := (d.settleAll.slot n).mc, ptPrev := (d.settleAll.slot n).ptPrev } ∧
    (d.fabricLive n = false ∨ (d.slot n).cyc ≠ .idle → d.settleAll.slot n = d.slot n)) ∧
  -- DDR_REGISTER_EDGE: an input pair takes its ball's level, the rising data at the rising edge and the falling data at the falling edge
  (∀ (d : Device) (n : Fin 16) (clk : Fin 6) (rise : Bool) (num den : Nat) (turn : BitVec 4) (pins drv : BitVec 34), d.por = false → 0 < den →
    num / den = d.epoch → d.lateAt num den = false →
    (d.ddrClocked n clk.val rise num den = false → Acts (.ddrRegisterEdge n clk rise ⟨⟨num, den⟩, turn, pins, drv⟩) d d) ∧
    (d.ddrClocked n clk.val rise num den = true → ∃ e, Acts (.ddrRegisterEdge n clk rise ⟨⟨num, den⟩, turn, pins, drv⟩) d e ∧ e.regs = d.regs ∧
      e.mem = d.mem ∧ (∀ o, (e.slot o).st = (d.slot o).st ∧ (o ≠ n → (e.slot o).ddr = (d.slot o).ddr ∧
        (e.slot o).pinIn = (d.slot o).pinIn)) ∧
      ∀ k < 16, d.bankOn n = true → d.pairNow n k 3 1 = 1 → d.ddrClk n k = clk.val → d.pairActs n k = 1 →
        drv.getLsbD (2 * k) = true → drv.getLsbD (2 * k + 1) = true → pins.getLsbD (2 * k) ≠ pins.getLsbD (2 * k + 1) →
        (rise = true → (e.slot n).ddr.getLsbD (4 * k) = pins.getLsbD (2 * k)) ∧
        (rise = false → (d.slot n).ddrLow.getLsbD k = false → (e.slot n).ddr.getLsbD (4 * k + 1) = pins.getLsbD (2 * k)))) ∧
  -- FIFO_OPERATION: a push, a pop, and the depth they leave
  (∀ (d : Device) (n b : Fin 16) (x : BmDue), d.por = false → d.isFifo n b.val = true → d.bmDue n b.val 0 = some x →
    (pinsA x).orst = false → d.bmActive n b.val = true → (d.slot n).cyc.resets = false →
    ∃ e, Acts (.fifoOperation n b) d e ∧
      (let push := (pinsB x).en && (pinsB x).we
       let pop := (pinsA x).en && decide (0 < (d.bmCtl n b.val).depth)
       let ok := push && (decide ((d.bmCtl n b.val).depth < fifoCap (d.bmNow n b.val 3 3)) || pop)
       (e.bmCtl n b.val).depth = (d.bmCtl n b.val).depth + natOf ok - natOf pop)) ∧
  -- FCLR empties the queue and clears its flags; the indexes it leaves are the model's choice (assumption log 67)
  (∀ (d : Device) (n b : Fin 16) (x : BmDue), d.por = false → d.isFifo n b.val = true → d.bmDue n b.val 0 = some x →
    (pinsA x).orst = true → d.bmActive n b.val = true → (d.slot n).cyc.resets = false →
    ∃ e, Acts (.fclr n b) d e ∧ (e.bmCtl n b.val).depth = 0 ∧ (e.bmCtl n b.val).head = 0 ∧ (e.bmCtl n b.val).tail = 0 ∧
      (e.bmCtl n b.val).a1 = 0 ∧ e.flag (Fld.slcBmStatusOverflow n b.val) = false ∧
      e.flag (Fld.slcBmStatusUnderflow n b.val) = false ∧ e.mem = d.mem) ∧
  -- BM_PORT_OPERATION serves the port edges that wait, read and written as their pins say; `w` has them served
  (∀ (d w : Device) (n b : Fin 16) (pa pb : Option BmDue), d.por = false → d.isFifo n b.val = false → d.bmActive n b.val = true →
    d.bmDue n b.val 0 = pa → d.bmDue n b.val 1 = pb → pa ≠ none ∨ pb ≠ none → (d.slot n).cyc.resets = false →
    w = d.modSlot n (fun s => { s with due := { s.due with bm := s.due.bm.filter fun x => x.mem != b.val } }) →
    (d.bmNow n b.val 1 2 ≠ 1 → Acts (.bmPortOperation n b) d (w.bmTdp n b.val (pa.map pinsA) (pb.map pinsB))) ∧
    (d.bmNow n b.val 1 2 = 1 →
      Acts (.bmPortOperation n b) d (w.bmSdp n b.val (pa.map pinsA) (pb.map fun x => (pinsB x, pinsA x))))) ∧
  -- a memory in the other mode is left alone, and each FIFO command leaves the edges of the other
  (∀ (d : Device) (n b : Fin 16), d.por = false → d.isFifo n b.val = false → Acts (.fifoOperation n b) d d ∧ Acts (.fclr n b) d d) ∧
  (∀ (d : Device) (n b : Fin 16), d.por = false → d.isFifo n b.val = true → Acts (.bmPortOperation n b) d d) ∧
  (∀ (d : Device) (n b : Fin 16), d.por = false → d.clearDue n b.val = true → Acts (.fifoOperation n b) d d) ∧
  (∀ (d : Device) (n b : Fin 16), d.por = false → d.clearDue n b.val = false → Acts (.fclr n b) d d)

/-- Heartwood's queues, taking, and ABORT (R740 to R743, R748, R749, R758, R766). Choices of the model: assumption log 9, 34 and 36. -/
def Obligations.HeartwoodQueuesAndAbort : Prop :=
  -- HWD_QQ_PUSH counts one more command; at 64 it is refused with OVERFLOW and event 451
  (∀ (d : Device) (q : Fin 3) (n : Nat), d.por = false → d.fld (Fld.hwdQSqStatusDepth q) = n → n < 64 →
    Acts (.hwdQPush q) d
      (((d.setFld (Fld.hwdQSqStatusTail q) ((d.fld (Fld.hwdQSqStatusTail q) + 1) % 64)).setFld (Fld.hwdQSqStatusDepth q) (n + 1)).setFlag
        (Fld.hwdQSqStatusFull q) (n == 63))) ∧
  (∀ (d : Device) (q : Fin 3), d.por = false → 64 ≤ d.fld (Fld.hwdQSqStatusDepth q) →
    Acts (.hwdQPush q) d ((d.setFlag (Fld.hwdQSqStatusOverflow q) true).raise 451 [(q, 2), (0, 1)])) ∧
  -- HWD_QQ_CPOP pops one completion; at 0 it is refused with UNDERFLOW and event 451
  (∀ (d : Device) (q : Fin 3) (n : Nat), d.por = false → d.fld (Fld.hwdQCqStatusDepth q) = n + 1 →
    Acts (.hwdQCpop q) d
      (((d.setFld (Fld.hwdQCqStatusHead q) ((d.fld (Fld.hwdQCqStatusHead q) + 1) % 64)).setFld (Fld.hwdQCqStatusDepth q) n).setFlag
        (Fld.hwdQCqStatusFull q) false)) ∧
  (∀ (d : Device) (q : Fin 3), d.por = false → d.fld (Fld.hwdQCqStatusDepth q) = 0 →
    Acts (.hwdQCpop q) d ((d.setFlag (Fld.hwdQCqStatusUnderflow q) true).raise 451 [(q, 2), (1, 1)])) ∧
  -- COMMAND_TAKE: nothing where no core runs firmware, or no queue has a command that can be taken
  (∀ d : Device, d.por = false → d.fwRuns = false → Acts .commandTake d d) ∧
  (∀ d : Device, d.por = false → d.fwRuns = true → (∀ q : Fin 3, d.fld (Fld.hwdQSqStatusDepth q) = 0) → Acts .commandTake d d) ∧
  -- it takes the next queue after the last one served that can be taken: the descriptor is read from Bench memory and popped, and the
  -- command is in progress under the next serial number, or completes with the code of R743
  (∀ (d r p : Device) (q : Fin 3) (a : Nat) (desc : List Byte) (k : HwdCmd), d.por = false → d.fwRuns = true → d.hwd.skips = [] →
    d.takeable q.val = true →
    (∀ o : Fin 3, (o.val + 2 - d.hwd.rr.val) % 3 < (q.val + 2 - d.hwd.rr.val) % 3 → d.takeable o.val = false) →
    d.fwRead (benchBase + d.sqAddr q (d.fld (Fld.hwdQSqStatusHead q))) 64 = (⟨0, a, desc⟩, r) →
    k = ⟨r.hwd.nextCid, q, desc, r.now, 0, 0, 0, false⟩ → r.fld (Fld.hwdQSqStatusDepth q) ≠ 0 →
    p = { r.sqPop q with hwd := { r.hwd with rr := q, nextCid := r.hwd.nextCid + 1, cmds := r.hwd.cmds ++ [k] } } →
    Acts .commandTake d (if p.takeCode k = 0 then p else p.complete k.cid (p.takeCode k) [])) ∧
  -- ABORT of a command of another port's queue: 0x82; of no command with the tag: 0x88
  (∀ (d : Device) (cid : Nat) (k : HwdCmd), Taken d cid 0x7F k → k.queue ≠ 2 → k.f 0x0C 1 ≠ 0xFF → k.f 0x0C 1 ≠ k.queue.val →
    Acts (.abort cid) d (d.complete cid 0x82 [])) ∧
  (∀ (d : Device) (cid q : Nat) (k : HwdCmd), Taken d cid 0x7F k → q = (if k.f 0x0C 1 = 0xFF then k.queue.val else k.f 0x0C 1) →
    k.queue = 2 ∨ q = k.queue.val → d.abortTarget q (k.f 0x08 4) = none → d.abortEntry q (k.f 0x08 4) = none →
    Acts (.abort cid) d (d.complete cid 0x88 [])) ∧
  -- of a command that waits to begin, or for its tick: the target ends with 0x85 and ABORT with 0
  (∀ (d : Device) (cid q : Nat) (k t : HwdCmd), Taken d cid 0x7F k → q = (if k.f 0x0C 1 = 0xFF then k.queue.val else k.f 0x0C 1) →
    k.queue = 2 ∨ q = k.queue.val → d.abortTarget q (k.f 0x08 4) = some t →
    (t.stage = 0 → Acts (.abort cid) d ((d.complete t.cid 0x85 []).complete cid 0 [])) ∧
    (t.stage ≠ 0 → t.op = 0x15 → d.pend5Of t.cid ≠ [] → Acts (.abort cid) d
      (((d.forSlots (d.pend5Of t.cid) fun n d => d.modSlot n fun s => { s with pend5 := none }).complete t.cid 0x85 []).complete cid 0 [])) ∧
    (t.stage ≠ 0 → t.op = 0x16 → d.pend7Of t.cid = [] → Acts (.abort cid) d (d.complete cid 0x89 []))) ∧
  -- a completion is one record at the tail of its queue's completion ring, counted, and event 448 + q
  (∀ (d : Device) (k : HwdCmd) (status : Nat) (result : List Byte), d.flag Fld.devReadyBench = false →
    d.completeOne k status result =
      (let c := { d with hwd := { d.hwd with cmds := d.hwd.cmds.filter fun x => x.cid != k.cid } }
       let q := k.queue.val
       let n := d.fld (Fld.hwdQCqStatusDepth q) + 1
       (((c.setFld (Fld.hwdQCqStatusTail q) ((d.fld (Fld.hwdQCqStatusTail q) + 1) % 64)).setFld (Fld.hwdQCqStatusDepth q) n).setFlag
         (Fld.hwdQCqStatusFull q) (n == 64)).raise (448 + q) [(k.tag, 16)]))

/-- NOP, GET_INFO and the ATTEST commands (R732, R746, R775, R779 to R781, R783). Choices of the model: assumption log 4, 9 and 37. -/
def Obligations.ManagementAndAttestation : Prop :=
  (∀ (d : Device) (cid : Nat) (k : HwdCmd), Taken d cid 0x01 k → Acts (.nop cid) d (d.complete cid 0 [])) ∧
  -- GET_INFO: identity, firmware version and level, rollback level, the copy booted, the permissions of the queue
  (∀ (d : Device) (cid : Nat) (k : HwdCmd), Taken d cid 0x02 k → Acts (.getInfo cid) d
    (d.complete cid 0 (leBytes 4 (d.rd Reg.devId) ++ leBytes 4 (d.rd Reg.devRev) ++ leBytes 4 (d.rd Reg.hwdFwVersion) ++
      leBytes 4 (d.rd Reg.hwdSvn) ++ leBytes 4 (d.rd Reg.hwdRollback) ++ leBytes 1 (d.fld Fld.hwdStatusBootCopy) ++
      leBytes 2 (d.fld (Fld.hwdQPermGroups k.queue))))) ∧
  -- GET_CERT delivers the certificate chain to DEST
  (∀ (d r : Device) (cid a : Nat) (k : HwdCmd), Taken d cid 0x52 k → k.f 0x08 1 = 1 →
    d.fwRead (k.f 0x10 8) (min 512 (k.f 0x18 4)) = (⟨0, a, []⟩, r) →
    Acts (.getCert cid) d
      (if k.f 0x28 4 < Config.certChain.length then r.complete cid 0xA7 []
       else r.completeDest cid (k.f 0x20 8) Config.certChain)) ∧
  -- GET_KA: KEY_ID, public key and the IDK's signature over them, with event 472; without a key, 0xA3
  (∀ (d r : Device) (cid a : Nat) (k : HwdCmd), Taken d cid 0x52 k → k.f 0x08 1 = 2 → 208 ≤ k.f 0x28 4 →
    d.fwRead (k.f 0x10 8) (min 512 (k.f 0x18 4)) = (⟨0, a, []⟩, r) →
    (r.hasIdk = false ∨ r.hasKak = false → Acts (.getKa cid) d (r.complete cid 0xA3 [])) ∧
    (∀ (sig : List Byte) (e : Device), r.hasIdk = true → r.hasKak = true →
      r.idkSign (ascii "GDNI-KAP" ++ r.serial ++ r.keyId ++ r.kakPub) = (sig, e) →
      Acts (.getKa cid) d (e.completeDest cid (k.f 0x20 8) (r.keyId ++ r.kakPub ++ sig)))) ∧
  -- QUOTE: the record with its signature; a wrong length or too short a DEST is 0xA7, no IDK 0xA3
  (∀ (d r : Device) (cid a : Nat) (k : HwdCmd) (src : List Byte), Taken d cid 0x52 k → k.f 0x08 1 = 3 →
    d.fwRead (k.f 0x10 8) (min 512 (k.f 0x18 4)) = (⟨0, a, src⟩, r) →
    (src.length ≠ 64 ∨ k.f 0x28 4 < (r.quoteBody src).length + 96 → Acts (.quote cid) d (r.complete cid 0xA7 [])) ∧
    (src.length = 64 → (r.quoteBody src).length + 96 ≤ k.f 0x28 4 → r.hasIdk = false →
      Acts (.quote cid) d (r.complete cid 0xA3 [])) ∧
    (∀ (sig : List Byte) (e : Device), src.length = 64 → (r.quoteBody src).length + 96 ≤ k.f 0x28 4 → r.hasIdk = true →
      r.idkSign (r.quoteBody src) = (sig, e) → Acts (.quote cid) d (e.completeDest cid (k.f 0x20 8) (r.quoteBody src ++ sig)))) ∧
  -- a source that cannot be read completes with the bus error
  (∀ (d r : Device) (cid : Nat) (k : HwdCmd) (x : FwAccess), Taken d cid 0x52 k → k.f 0x08 1 = 3 →
    d.fwRead (k.f 0x10 8) (min 512 (k.f 0x18 4)) = (x, r) → x.code ≠ 0 → Acts (.quote cid) d (r.completeBus cid x)) ∧
  -- a signature of the IDK raises event 472
  (∀ (d : Device) (m : List Byte), (d.idkSign m).2.evtStatus 472 = true ∧ (d.idkSign m).1.length = 96)

/-- Binding slots and forming groups (R92, R464, R465, R469, R470, R472 to R474, R477, R478, R482, R746). Choices of the model:
assumption log 9, 38 and 82. -/
def Obligations.BindingAndGroups : Prop :=
  -- SLOT_BIND from a PF queue binds an EMPTY slot of no group to a VF of its own port, VF 0 standing for VF n + 1, and grants its window;
  -- the slot's supply is watched from then on, and RESULT shows the code
  (∀ (d : Device) (cid v : Nat) (k : HwdCmd) (n : Fin 16) (p : Fin 2), Taken d cid 0x10 k → n = k.slotAt 0x08 →
    k.queue ≠ 2 → p.val = k.queue.val → v = (if k.f 0x0A 1 = 0 then n.val + 1 else k.f 0x0A 1) → (d.slot n).gkind = 0 → (d.slot n).gmember = 0 →
    (d.slot n).st = .empty → (d.slot n).binding = none → (d.slot n).pend5 = none →
    bitOf (d.rd (Reg.slcFault n)) faultSweep = false → d.vfEnabled p v = true →
    (∀ m, (d.slot m).binding ≠ some (p, v)) →
    Acts (.slotBind cid) d
      ((((((d.modSlot n fun s => { s with
          st := .bound, binding := some (p, v)
          bindOn := d.flag Fld.pwrCtlEmptyOff && s.power != .on }).grantSlot n p v).ioWatch [n]).slotResult n 0).actSettle 4).complete cid 0 [])) ∧
  -- a slot that is not EMPTY is refused with 0x40, one whose sweep failed with 0x44, a VF that is not enabled with 0x42, a VF already bound with 0x43
  (∀ (d : Device) (cid v : Nat) (k : HwdCmd) (n : Fin 16) (p : Fin 2), Taken d cid 0x10 k → n = k.slotAt 0x08 →
    k.queue ≠ 2 → p.val = k.queue.val → v = (if k.f 0x0A 1 = 0 then n.val + 1 else k.f 0x0A 1) → (d.slot n).gkind = 0 → (d.slot n).gmember = 0 →
    (d.slot n).binding = none →
    ((d.slot n).st ≠ .empty → Acts (.slotBind cid) d ((d.slotResult n 0x40).complete cid 0x40 [])) ∧
    ((d.slot n).st = .empty → (d.slot n).pend5 = none → bitOf (d.rd (Reg.slcFault n)) faultSweep = true →
      Acts (.slotBind cid) d ((d.slotResult n 0x44).complete cid 0x44 [])) ∧
    ((d.slot n).st = .empty → (d.slot n).pend5 = none → bitOf (d.rd (Reg.slcFault n)) faultSweep = false →
      (d.vfEnabled p v = false → Acts (.slotBind cid) d ((d.slotResult n 0x42).complete cid 0x42 [])) ∧
      (d.vfEnabled p v = true → (∃ m, (d.slot m).binding = some (p, v)) → Acts (.slotBind cid) d ((d.slotResult n 0x43).complete cid 0x43 [])))) ∧
  -- SLOT_UNBIND of a slot of no group waits for position 5 of a tick, while ticks occur; it goes on until the slot is EMPTY
  (∀ (d : Device) (cid : Nat) (k : HwdCmd) (n : Fin 16), Taken d cid 0x11 k → n = k.slotAt 0x08 → (d.slot n).gkind = 0 →
    (d.slot n).gmember = 0 → (d.slot n).st ≠ .empty → (d.slot n).st ≠ .sweeping → (d.slot n).pend5 = none → d.ticking = true →
    Acts (.slotUnbind cid) d
      ((((d.modSlot n fun s => { s with pend5 := some ⟨.unbind, some cid, n⟩ }).slotResult n 0).actSettle 4).stageCmd cid 1)) ∧
  -- of an EMPTY or SWEEPING slot it is refused with 0x41, where a request waits already with 0x83
  (∀ (d : Device) (cid : Nat) (k : HwdCmd) (n : Fin 16), Taken d cid 0x11 k → n = k.slotAt 0x08 →
    (d.slot n).st = .sweeping ∨ ((d.slot n).st = .empty ∧ bitOf (d.rd (Reg.slcFault n)) faultSweep = false) →
    Acts (.slotUnbind cid) d ((d.slotResult n 0x41).complete cid 0x41 [])) ∧
  (∀ (d : Device) (cid : Nat) (k : HwdCmd) (n : Fin 16), Taken d cid 0x11 k → n = k.slotAt 0x08 → (d.slot n).gkind = 0 →
    (d.slot n).gmember = 0 → (d.slot n).st ≠ .empty → (d.slot n).st ≠ .sweeping → (d.slot n).pend5 ≠ none →
    Acts (.slotUnbind cid) d ((d.slotResult n 0x83).complete cid 0x83 [])) ∧
  -- the groups are the twelve horizontal pairs, the twelve vertical pairs and the four aligned quads, and no other set
  (∀ kind base : Nat, base < 16 → (groupShape kind base = true ↔
    (kind = 1 ∧ base % 4 + 1 < 4) ∨ (kind = 2 ∧ base + 4 < 16) ∨ (kind = 3 ∧ base ∈ [0, 2, 8, 10]))) ∧
  (∀ b : Nat, b < 16 → (b % 4 + 1 < 4 → groupSlots 1 b = [slotOf b, slotOf (b + 1)]) ∧ (b + 4 < 16 → groupSlots 2 b = [slotOf b, slotOf (b + 4)])) ∧
  groupSlots 3 0 = [0, 1, 4, 5] ∧ groupSlots 3 2 = [2, 3, 6, 7] ∧ groupSlots 3 8 = [8, 9, 12, 13] ∧ groupSlots 3 10 = [10, 11, 14, 15] ∧
  -- GROUP_JOIN: a shape that no group has is 0x45; slots in a group, or that run, are refused with 0x46
  (∀ (d : Device) (cid : Nat) (k : HwdCmd), Taken d cid 0x17 k → groupShape (k.f 0x08 1) (k.slotAt 0x09) = false →
    Acts (.groupJoin cid) d ((d.slotResult (k.slotAt 0x09) 0x45).complete cid 0x45 [])) ∧
  (∀ (d : Device) (cid : Nat) (k : HwdCmd) (m : Fin 16), Taken d cid 0x17 k → groupShape (k.f 0x08 1) (k.slotAt 0x09) = true →
    (∀ o, (d.slot o).binding = none) → m ∈ groupSlots (k.f 0x08 1) (k.slotAt 0x09) → (d.slot m).gkind ≠ 0 ∨ (d.slot m).st = .running →
    Acts (.groupJoin cid) d ((d.slotResult (k.slotAt 0x09) 0x46).complete cid 0x46 [])) ∧
  -- EMPTY, unbound slots of no group with nothing pending join: every member takes the kind and its position
  (∀ (d : Device) (cid kind : Nat) (k : HwdCmd) (ms : List (Fin 16)), Taken d cid 0x17 k → kind = k.f 0x08 1 →
    groupShape kind (k.slotAt 0x09) = true → ms = groupSlots kind (k.slotAt 0x09) →
    (∀ m ∈ ms, (d.slot m).gkind = 0 ∧ (d.slot m).st = .empty ∧ (d.slot m).binding = none ∧ d.anyPending m = false) →
    ∃ g : Device, Acts (.groupJoin cid) d (((g.slotResult (k.slotAt 0x09) 0).actSettle 4).complete cid 0 []) ∧ g = { d with slots := g.slots } ∧
      (∀ i (h : i < ms.length), g.slot ms[i] = { d.slot ms[i] with gkind := kind, gmember := i }) ∧
      ∀ o, o ∉ ms → g.slot o = d.slot o) ∧
  -- GROUP_SPLIT: of no group 0x45, of a group that runs or sweeps 0x46; else every member leaves the group
  (∀ (d : Device) (cid : Nat) (k : HwdCmd), Taken d cid 0x18 k → (d.slot (k.slotAt 0x08)).gkind = 0 →
    Acts (.groupSplit cid) d ((d.slotResult (k.slotAt 0x08) 0x45).complete cid 0x45 [])) ∧
  (∀ (d : Device) (cid : Nat) (k : HwdCmd) (m : Fin 16), Taken d cid 0x18 k → (d.slot (k.slotAt 0x08)).gkind ≠ 0 →
    m ∈ d.members (k.slotAt 0x08) → (d.slot m).st = .running ∨ (d.slot m).st = .sweeping →
    Acts (.groupSplit cid) d ((d.slotResult (k.slotAt 0x08) 0x46).complete cid 0x46 [])) ∧
  (∀ (d : Device) (cid : Nat) (k : HwdCmd) (ms : List (Fin 16)), Taken d cid 0x18 k → (d.slot (k.slotAt 0x08)).gkind ≠ 0 →
    ms = d.members (k.slotAt 0x08) →
    (∀ m ∈ ms, (d.slot m).st ≠ .running ∧ (d.slot m).st ≠ .sweeping ∧ d.anyPending m = false) →
    ∃ g : Device, Acts (.groupSplit cid) d (((g.slotResult (k.slotAt 0x08) 0).actSettle 4).complete cid 0 []) ∧ g = { d with slots := g.slots } ∧
      (∀ m ∈ ms, (g.slot m).gkind = 0 ∧ (g.slot m).gmember = 0) ∧ ∀ o, o ∉ ms → g.slot o = d.slot o)

/-- Holds, releases, slot resets, fault clears and power changes of slots (R31, R475, R482 to R486, R496, R817, R902, R975). Choices of the model:
assumption log 34 and 38. -/
def Obligations.SlotRequests : Prop :=
  -- SLOT_HOLD (OPT 0 and 1) and SLOT_RELEASE that a condition refuses: its code, in SLC_REQ_STATUS too
  (∀ (d : Device) (cid code : Nat) (k : HwdCmd) (n : Fin 16), n = k.slotAt 0x08 → code ≠ 0 →
    (Taken d cid 0x14 k → k.f 0x09 1 = 0 → d.requestCode n .hold = code →
      Acts (.slotHold cid) d ((d.slotResult n code).complete cid code [])) ∧
    (Taken d cid 0x14 k → k.f 0x09 1 = 1 → d.requestCode n .slotReset = code →
      Acts (.slotReset cid) d ((d.slotResult n code).complete cid code [])) ∧
    (Taken d cid 0x15 k → d.requestCode n .release = code →
      Acts (.slotRelease cid) d ((d.slotResult n code).complete cid code []))) ∧
  -- a release of a LOADED or HELD slot with a BOUND member in its group is refused for its images
  (∀ (d : Device) (n m : Fin 16), (d.slot n).st = .loaded ∨ (d.slot n).st = .held → m ∈ d.members n → (d.slot m).st = .bound →
    d.pValid m (d.act m) = false → d.flag Fld.safeStatusDss = false → (∀ o ∈ d.members n, d.blocksRelease o = false) →
    d.requestCode n .release = 0x47) ∧
  -- a hold of a group that does not run, and that no resume holds, is done at once
  (∀ (d : Device) (cid : Nat) (k : HwdCmd) (n : Fin 16), Taken d cid 0x14 k → k.f 0x09 1 = 0 → n = k.slotAt 0x08 →
    d.requestCode n .hold = 0 → (∀ m ∈ d.members n, (d.slot m).st ≠ .running) → d.resumeHolds n = false →
    Acts (.slotHold cid) d ((d.slotResult n 0).complete cid 0 (leBytes 8 (d.slotResult n 0).turnCount))) ∧
  -- else a request whose conditions hold waits for position 5 of a tick
  (∀ (d : Device) (cid : Nat) (k : HwdCmd) (n : Fin 16), Taken d cid 0x14 k → k.f 0x09 1 = 0 → n = k.slotAt 0x08 →
    d.requestCode n .hold = 0 → (∃ m ∈ d.members n, (d.slot m).st = .running) → (∀ m ∈ d.members n, (d.slot m).pend5 = none) →
    Acts (.slotHold cid) d
      ((((d.forSlots (d.members n) fun m d => d.modSlot m fun s => { s with pend5 := some ⟨.hold, some cid, n⟩ }).forSlots (d.members n)
        fun m d => d.dropResume m).slotResult n 0).stageCmd cid 1)) ∧
  (∀ (d : Device) (cid : Nat) (k : HwdCmd) (n : Fin 16), n = k.slotAt 0x08 →
    (∀ m ∈ d.members n, (d.slot m).pend5 = none ∧ d.resumeHolds m = false) →
    (Taken d cid 0x14 k → k.f 0x09 1 = 1 → d.requestCode n .slotReset = 0 → Acts (.slotReset cid) d
      (((d.forSlots (d.members n) fun m d => d.modSlot m fun s => { s with pend5 := some ⟨.slotReset, some cid, n⟩ }).slotResult n 0).stageCmd
        cid 1)) ∧
    (Taken d cid 0x15 k → d.requestCode n .release = 0 → Acts (.slotRelease cid) d
      (((d.forSlots (d.members n) fun m d => d.modSlot m fun s => { s with pend5 := some ⟨.release, some cid, n⟩ }).slotResult n 0).stageCmd
        cid 1)) ∧
    -- a fault clear, where no FAULTED member has the DEVICE bit or DSS is 0
    (Taken d cid 0x14 k → k.f 0x09 1 = 2 → d.requestCode n .faultClear = 0 →
      d.flag Fld.safeStatusDss = false ∨ (∀ m ∈ d.members n, (d.slot m).st = .faulted → bitOf (d.rd (Reg.slcFault m)) faultDevice = false) →
      Acts (.faultClear cid) d
        (((d.forSlots (d.members n) fun m d => d.modSlot m fun s => { s with pend5 := some ⟨.faultClear, some cid, n⟩ }).slotResult n
          0).stageCmd cid 1))) ∧
  -- a fault clear under DSS writes DSS_CLEAR first; where that is refused, 0x48
  (∀ (d e : Device) (cid : Nat) (k : HwdCmd) (n m : Fin 16), Taken d cid 0x14 k → k.f 0x09 1 = 2 → n = k.slotAt 0x08 →
    m ∈ d.members n → (d.slot m).st = .faulted → bitOf (d.rd (Reg.slcFault m)) faultDevice = true → d.flag Fld.safeStatusDss = true →
    d.dssClear 0x3E = (false, e) → Acts (.faultClear cid) d ((e.slotResult n 0x48).complete cid 0x48 [])) ∧
  -- SLOT_POWER: no change needed, refused, or pending for position 7
  (∀ (d : Device) (cid : Nat) (k : HwdCmd) (n : Fin 16) (dst : SlotPower), Taken d cid 0x16 k → n = k.slotAt 0x08 →
    k.f 0x09 1 = powerCode dst →
    ((d.slot n).power = dst → Acts (.slotPower cid) d (d.complete cid 0 (leBytes 8 d.turnCount))) ∧
    ((d.slot n).power ≠ dst → d.slotPowerCode n dst ≠ 0 →
      Acts (.slotPower cid) d (d.complete cid (d.slotPowerCode n dst) [])) ∧
    ((d.slot n).power ≠ dst → d.slotPowerCode n dst = 0 → (∀ m ∈ d.powerReach n dst, (d.slot m).pend7 = none) →
      Acts (.slotPower cid) d ((d.forSlots (d.powerReach n dst) fun m d => d.modSlot m fun s => { s with pend7 := some ⟨dst, some cid⟩ }).stageCmd
        cid 1)) ∧
    ((d.slot n).power ≠ dst → d.slotPowerCode n dst = 0 → (∃ m ∈ d.powerReach n dst, (d.slot m).pend7 ≠ none) →
      Acts (.slotPower cid) d (d.complete cid 0x83 []))) ∧
  -- SLC_REQ by Heartwood asks as the commands do; by another TCID it asks where that TCID owns the slot and VFREQ_EN allows it
  (∀ (d : Device) (n : Fin 16) (tcid : Fin 64), d.por = false → tcid.val = 0x3E →
    Acts (.slcReqHold n tcid) d (d.request5 n .hold none).2.2 ∧ Acts (.slcReqRelease n tcid) d (d.request5 n .release none).2.2 ∧
      Acts (.slcReqSlotReset n tcid) d (d.request5 n .slotReset none).2.2 ∧
      Acts (.slcReqFaultClear n tcid) d (d.request5 n .faultClear none).2.2) ∧
  (∀ (d : Device) (n : Fin 16) (tcid : Fin 64) (p : Fin 2) (v : Nat), d.por = false → portOfTcid tcid.val = some (p, v) → v ≠ 0 →
    d.bindingOf n = some (p, v) → d.flag (Fld.slcCtlVfreqEn n) = true →
    Acts (.slcReqHold n tcid) d (d.request5 n .hold none).2.2 ∧ Acts (.slcReqRelease n tcid) d (d.request5 n .release none).2.2 ∧
      Acts (.slcReqSlotReset n tcid) d (d.request5 n .slotReset none).2.2 ∧ Acts (.slcReqFaultClear n tcid) d (d.slotResult n 0x4A)) ∧
  (∀ (d : Device) (n : Fin 16) (tcid : Fin 64), d.por = false → tcid.val ≠ 0x3E → d.flag (Fld.slcCtlVfreqEn n) = false →
    Acts (.slcReqHold n tcid) d (d.slotResult n 0x4A) ∧ Acts (.slcReqRelease n tcid) d (d.slotResult n 0x4A) ∧
      Acts (.slcReqSlotReset n tcid) d (d.slotResult n 0x4A) ∧ Acts (.slcReqFaultClear n tcid) d (d.slotResult n 0x4A))

/-- Loader jobs: LOAD, RESEED and READBACK (R352, R358, R410 to R418, R435, R436, R457, R746, R1028). Choices of the model: assumption
log 34, 35, 40, 68, 81 and 82. -/
def Obligations.LoaderJobs : Prop :=
  -- SLOT_LOAD places its job at the tail of the job queue and waits for it; while the queue is full it waits untouched
  (∀ (d : Device) (cid op : Nat) (k : HwdCmd) (entry : List Byte), Taken d cid 0x12 k → op = k.f 0x08 1 →
    entry = jobEntry op (k.f 0x09 1) (k.f 0x0A 2) (k.f 0x0C 1) (k.f 0x10 8) (k.f 0x18 4) (k.f 0x20 8) k.tag →
    let placed := d.benchStore (d.jqAddr d.jqTail - benchBase) entry
    let mine := placed.loader.owners.filter (fun (o : Nat × Nat) => o.1 != d.jqTail) ++ [(d.jqTail, cid)]
    let e := (({ placed with loader := { placed.loader with owners := mine } } : Device).jqPush).stageCmd cid 1
    (op = 1 → Acts (.slotLoad cid) d (if 16 ≤ d.fld Fld.ldrJqStatusDepth then d else e)) ∧
    (op = 2 → Acts (.reseed cid) d (if 16 ≤ d.fld Fld.ldrJqStatusDepth then d else e)) ∧
    (op = 3 → Acts (.readback cid) d (if 16 ≤ d.fld Fld.ldrJqStatusDepth then d else e))) ∧
  -- LDR_JQ_PUSH
  (∀ (d : Device) (n : Nat), d.por = false → d.fld Fld.ldrJqStatusDepth = n → n < 16 →
    Acts .ldrJqPush d ((d.setFld Fld.ldrJqStatusDepth (n + 1)).setFlag Fld.ldrJqStatusFull (n == 15))) ∧
  (∀ d : Device, d.por = false → 16 ≤ d.fld Fld.ldrJqStatusDepth →
    Acts .ldrJqPush d (d.setFlag Fld.ldrJqStatusOverflow true)) ∧
  -- LOADER_JOB_TAKE: nothing while a job is in progress or none is queued
  (∀ d : Device, d.por = false → d.loader.job ≠ none ∨ d.fld Fld.ldrJqStatusDepth = 0 → Acts .loaderJobTake d d) ∧
  -- an entry that cannot be read ends its job with 0x20, SLOT 0 and an unknown tag
  (∀ (d r : Device) (i : Nat) (c : Option Nat), d.por = false → d.loader.job = none → d.fld Fld.ldrJqStatusDepth ≠ 0 → i = d.loader.jqHead →
    d.jqRead i = (none, r) → c = (d.loader.owners.find? fun o => o.1 = i).map (·.2) →
    Acts .loaderJobTake d
      (((({ r.jqPop with loader := { r.jqPop.loader with
        owners := r.jqPop.loader.owners.filter (fun o => o.1 != i), aborts := r.jqPop.loader.aborts.filter (fun a => a != i) } } : Device).wr
          Reg.ldrLastErr 0x20).wr Reg.ldrLastTag 0xFFFFFFFF).completeOpt c 0x20 [])) ∧
  -- else the head job is popped and in progress; `p` is the device then, and what follows is its operation's
  (∀ (d r p : Device) (i : Nat) (e : List Byte) (ts : List (Fin 16)), d.por = false → d.loader.job = none →
    d.fld Fld.ldrJqStatusDepth ≠ 0 → i = d.loader.jqHead → d.jqRead i = (some e, r) →
    ts = allSlots.filter (fun n => bitOf (leAt e 2 2) n.val) →
    p = ({ r.jqPop with loader := { r.jqPop.loader with
        owners := r.jqPop.loader.owners.filter (fun o => o.1 != i), aborts := r.jqPop.loader.aborts.filter (fun a => a != i),
        job := some ⟨leAt e 0 1, ts, e, 0, (d.loader.owners.find? (fun o => o.1 = i)).map (·.2), 0, [], []⟩ } } : Device).wr Reg.ldrStatus
          (leAt e 0 1 % 4 * 256 + (ts.headD 0).val * 16 + 1) →
    (i ∈ d.loader.aborts → Acts .loaderJobTake d (p.endJob 0x27)) ∧
    (i ∉ d.loader.aborts → leAt e 0 1 = 1 → (∃ n ∈ ts, p.loadTarget n = false) → Acts .loaderJobTake d (p.endJob 0x26)) ∧
    -- a LOAD: a failing first pass takes VALID from the inactive planes; else their descriptors are written, and the job goes on with the
    -- header and the section table of the first pass
    (∀ (c : Nat) (m : Img) (key : List Byte) (f g : Device), i ∉ d.loader.aborts → leAt e 0 1 = 1 →
      (∀ n ∈ ts, p.loadTarget n = true) → p.firstPass (leAt e 1 1) (leAt e 8 8) (leAt e 0x10 4) ts = (c, m, key, f) →
      g = ts.zipIdx.foldl (fun d x => d.writeDescriptor m x.2 x.1) f →
      Acts .loaderJobTake d
        (if c ≠ 0 then
          (f.forSlots ts fun n d => if d.pValid n (d.inact n) then d.setValid n (d.inact n) false else d).loadFail ts c
        else { g with
          sec := { g.sec with loaderKey := key }
          loader := { g.loader with job := g.loader.job.map fun j => { j with
            stage := 1, image := m.bytes.take 256 ++ (m.bytes.drop (imgSectOff m.bytes)).take (16 * imgSectCount m.bytes) } } })) ∧
    (i ∉ d.loader.aborts → leAt e 0 1 = 2 → ts ≠ [] →
      (∀ n ∈ ts, ((p.slot n).st = .loaded ∨ (p.slot n).st = .held) ∧ p.pValid n (p.act n) = true ∧ p.swapPend n = false ∧
        (p.slot n).copying = none ∧ p.jobWaits n = false) →
      ∃ f : Device, Acts .loaderJobTake d f ∧ f.mem = p.mem ∧ f.regs = p.regs ∧ (∃ j, f.loader.job = some j ∧ j.op = 2 ∧ j.stage = 2) ∧
        ∀ n ∈ ts, (f.slot n).copying = some (false, none)) ∧
    (i ∉ d.loader.aborts → leAt e 0 1 = 3 →
      let n := ts.headD 0
      let q := if leAt e 4 1 = 0 then p.act n else p.inact n
      (bitOf (p.pSec n q) 0 = true → Acts .loaderJobTake d (p.endJob 0x38)) ∧
      (bitOf (p.pSec n q) 0 = false → inBench (leAt e 0x18 8) 468960 = true →
        Acts .loaderJobTake d { p with loader := { p.loader with job := p.loader.job.map fun j => { j with stage := 2, plane := q } } }))) ∧
  -- LOAD_DONE: the source is read again; the code of what fails, or VALID and locked synthesisers in every inactive plane, event 5 and OK;
  -- without lock, 0x25
  (∀ (d e : Device) (j : LoaderJob) (c : Nat), d.por = false → d.loader.job = some j → j.op = 1 → j.stage = 1 → d.loadAgain j = (c, e) →
    (c ≠ 0 → ∀ locked, Acts (.loadDone locked) d (e.loadFail j.members c)) ∧
    (c = 0 → Acts (.loadDone false) d (e.loadFail j.members 0x25)) ∧
    (c = 0 → Acts (.loadDone true) d
      (((((e.forSlots j.members fun n d => d.setValid n (d.inact n) true).forSlots j.members fun n d =>
        d.modSlot n fun s => { s with clk :=
          if s.active then { s.clk with lockA := BitVec.ofNat 4 (d.clkEn n (d.inact n)) }
          else { s.clk with lockB := BitVec.ofNat 4 (d.clkEn n (d.inact n)) } }).forSlots j.members fun n d =>
            d.raiseSlot n 5 [])).endJob 0))) ∧
  -- a source that can no longer be read is 0x20, and changed bytes are judged as they are now
  (∀ (d r : Device) (j : LoaderJob) (b : Option (List Byte)) (h : List Byte), h = j.image.take 256 →
    d.srcRead (leAt j.entry 1 1) (leAt j.entry 8 8) (imgTotal h) = (b, r) →
    (b = none → d.loadAgain j = (0x20, r)) ∧
    (∀ (x : List Byte) (c : Nat) (e : Device), b = some x →
      r.secondPass ⟨h ++ x.drop 256, (List.range (imgSectCount h)).map (sectAt (j.image.drop 256))⟩ r.sec.loaderKey j.members = (c, e) →
      d.loadAgain j = (if c = 0 then e.contentCode j.members else c, e))) ∧
  -- the content key is gone with its job
  (∀ (d : Device) (c : Nat), d.loader.job ≠ none → (d.endJob c).sec.loaderKey = [] ∧ (d.endJob c).loader.job = none) ∧
  (∀ (d : Device) (locked : Bool), d.por = false → d.loader.job = none → Acts (.loadDone locked) d d) ∧
  -- LOADER_JOB_END: a READBACK's records are in Bench memory, a RESEED's content in the block memories
  (∀ (d : Device) (j : LoaderJob), d.por = false → d.loader.job = some j → j.op = 3 → j.stage = 2 →
    Acts .loaderJobEnd d ((d.copyReadback j.entry).endJob 0)) ∧
  (∀ (d e : Device) (j : LoaderJob) (n : Fin 16) (bad : Bool), d.por = false → d.loader.job = some j → j.op = 2 → j.stage = 2 →
    j.members = [n] → (d.freshMemories n).copyContent n = (bad, e) →
    Acts .loaderJobEnd d ((e.raiseSlot n 5 []).endJob (if bad then 0x28 else 0))) ∧
  (∀ d : Device, d.por = false → d.loader.job = none → Acts .loaderJobEnd d d)

/-- Swaps (R31, R419 to R421, R429, R457, R746). Choices of the model: assumption log 34, 35, 37, 40, 61, 77 and 78. -/
def Obligations.Swaps : Prop :=
  -- SLOT_SWAP of one slot of no group: refused with the code of its condition, or 0x83 where a swap is armed
  (∀ (d : Device) (cid mode turns code : Nat) (k : HwdCmd) (n : Fin 16), Taken d cid 0x13 k → d.maskShape (k.f 0x08 2) = true →
    maskSlots (k.f 0x08 2) = [n] → mode = k.f 0x0A 1 → turns = k.f 0x0C 1 → code = d.swapCode n mode turns →
    (code ≠ 0 → Acts (.slotSwap cid) d ((d.swapResult n code).complete cid code [])) ∧
    (code = 0 → d.swapPend n = true → Acts (.slotSwap cid) d (d.complete cid 0x83 [])) ∧
    -- else armed, and the command goes on until the swap applies
    (code = 0 → d.swapPend n = false → Acts (.slotSwap cid) d
      (((d.modSlot n fun s => { s with swap := some ⟨mode == 1, k.f 0x0B 1 == 1, turns, some cid⟩ }).swapResult n 0).stageCmd cid 1))) ∧
  -- a mask that is no slot or group is 0x31, or 0x30 where an inactive plane is not valid
  (∀ (d : Device) (cid : Nat) (k : HwdCmd), Taken d cid 0x13 k → d.maskShape (k.f 0x08 2) = false →
    Acts (.slotSwap cid) d
      (d.complete cid (if (maskSlots (k.f 0x08 2)).any fun m => !d.pValid m (d.inact m) then 0x30 else 0x31) [])) ∧
  -- LDR_SWAP_REQ arms the same way, with no command
  (∀ (d : Device) (v : Word) (n : Fin 16) (code : Nat), d.por = false → bitOf v.toNat 7 = false → n.val = v.toNat % 16 →
    code = d.swapCode n (bitsOf v.toNat 4 2) (bitsOf v.toNat 8 8) →
    (code ≠ 0 → Acts (.ldrSwapReq v) d (d.swapResult n code)) ∧
    (code = 0 → d.swapPend n = true → Acts (.ldrSwapReq v) d d) ∧
    (code = 0 → d.swapPend n = false → Acts (.ldrSwapReq v) d
      ((d.modSlot n fun s => { s with swap := some ⟨bitsOf v.toNat 4 2 == 1, bitOf v.toNat 6, bitsOf v.toNat 8 8, none⟩ }).swapResult n
        0))) ∧
  -- SWAP_CANCEL, or CANCEL of LDR_SWAP_REQ, disarms; the SLOT_SWAP that armed the swap ends with 0x85
  (∀ (d : Device) (n : Fin 16), d.por = false → (d.slot n).swap = none →
    Acts (.swapCancel n) d (d.swapResult n 0)) ∧
  (∀ (d : Device) (n : Fin 16) (w : Swap), d.por = false → (d.slot n).swap = some w →
    Acts (.swapCancel n) d (((d.modSlot n fun s => { s with swap := none }).swapResult n 0).completeOpt w.cid 0x85 [])) ∧
  (∀ (d : Device) (n : Fin 16) (v : Word) (w : Swap), d.por = false → bitOf v.toNat 7 = true → n.val = v.toNat % 16 →
    (d.slot n).swap = some w →
    Acts (.ldrSwapReq v) d (((d.modSlot n fun s => { s with swap := none }).swapResult n 0).completeOpt w.cid 0x85 [])) ∧
  -- FIRST_ACTIVATION_COPY_END: the content is in the block memories, and event 3; the command ends with the last copy of its group
  (∀ (d e : Device) (n : Fin 16) (bad : Bool), d.por = false → (d.slot n).copying = some (true, none) → d.copyContent n = (bad, e) →
    Acts (.firstActivationCopyEnd n) d ((e.modSlot n fun s => { s with copying := none }).raiseSlot n 3 [])) ∧
  (∀ (d e f : Device) (n : Fin 16) (c : Nat) (k : HwdCmd), d.por = false → (d.slot n).copying = some (true, some c) →
    d.copyContent n = (false, e) → (∀ m, m ≠ n → (d.slot m).copying ≠ some (true, some c)) → d.cmd c = some k →
    f = (e.modSlot n fun s => { s with copying := none }).raiseSlot n 3 [] →
    Acts (.firstActivationCopyEnd n) d (f.complete c k.aux (leBytes 4 k.prog))) ∧
  (∀ (d : Device) (n : Fin 16), d.por = false → (d.slot n).copying = none → Acts (.firstActivationCopyEnd n) d d)

/-- Upsets, the scrub, and the end of a sweep (R379, R405, R439 to R446, R471, R472, R1029). Choices of the model: assumption log 8,
20, 39, 75, 76 and 81. -/
def Obligations.PlanesScrubAndSweep : Prop :=
  -- CONFIG_UPSET flips one stored bit of a frame, and no other byte changes
  (∀ (d : Device) (n : Fin 16) (plane : Bool) (off : BitVec 22) (bit : Fin 8) (x : Nat × Nat × Nat × Nat), d.por = false →
    frameOfOffset off.toNat = some x → x.2.2.2 < 72 → (∀ m, (d.slot m).due = DueOps.reset) →
    let a := planeBase n (natOf plane) + off.toNat
    ∃ e, Acts (.configUpset n plane off bit) d e ∧ e.byte a = d.byte a ^^^ BitVec.ofNat 8 (2 ^ bit.val) ∧
      (∀ o, o ≠ a → e.byte o = d.byte o) ∧ e.regs = d.regs ∧ ∀ m, (e.slot m).st = (d.slot m).st ∧
        (d.fabricLive m = false → (e.slot m).mc = (d.slot m).mc)) ∧
  -- plane offsets that hold no storage have no bit to flip
  (∀ (d : Device) (n : Fin 16) (plane : Bool) (off : BitVec 22) (bit : Fin 8), d.por = false →
    frameOfOffset off.toNat = none → Acts (.configUpset n plane off bit) d (d.changeCfg n id)) ∧
  -- a change of stored bits that makes no memory good leaves the fabric settled under it; `x` has the edges before it served, and what a
  -- readback has read by then
  (∀ (d x : Device) (n : Fin 16) (f : Device → Device), x = d.flushEdges.readAhead →
    (∀ b : Fin 16, x.bmActive n b = true ∨ (f x).bmActive n b = false) → d.changeCfg n f = (f x).settleAll) ∧
  -- a memory that it makes good starts with its read outputs at 0
  (∀ (d x : Device) (n b : Fin 16) (f : Device → Device), x = d.flushEdges.readAhead → x.bmActive n b = false →
    (f x).bmActive n b = true →
    let c := ((d.changeCfg n f).slot n).bm[b]
    c.a1 = 0 ∧ c.a2 = 0 ∧ c.b1 = 0 ∧ c.b2 = 0) ∧
  -- SCRUB_WORD_DECODE changes stored bits as the next word of the slot's pass says, and retunes what that changes
  (∀ (d : Device) (n : Fin 16), d.por = false →
    Acts (.scrubWordDecode n) d (d.changeCfg n fun b => (b.scrubNext n).clkRetune b n)) ∧
  -- that word: `q` is the slot's place in a pass over its active plane, and `w` a word of a frame that is not its last
  (∀ (d : Device) (n : Fin 16) (q : ScrubPos) (x : Nat × Nat × Nat) (fb v c : Nat), (d.slot n).power = .on →
    q = d.scrubPos n → q.inactive = false → q.word < 7 → presentFrames[q.frame]? = some x →
    fb = frameBase n (d.act n) x.1 x.2.1 x.2.2 → v = d.frameWord fb q.word → c = d.frameCheck fb q.word →
    -- a clean word only moves the place on
    (eccDecode v c = .clean → d.scrubNext n = d.setScrub n ⟨false, q.frame, q.word + 1⟩) ∧
    -- a corrected word is written back and reported
    (∀ u, eccDecode v c = .corrected u → d.scrubNext n =
      ((d.setFrameWord fb q.word u).scrubReport n (d.act n) x q.word v c 0).setScrub n ⟨false, q.frame, q.word + 1⟩) ∧
    -- an uncorrectable word that the twin can repair is repaired and reported
    (eccDecode v c = .uncorrectable → d.twinOk n x = true → d.scrubNext n =
      ((d.twinRepair n x).scrubReport n (d.act n) x q.word v c 1).setScrub n ⟨false, q.frame, q.word + 1⟩) ∧
    -- one of initial block memory content is reported; any other puts the slot into its safe state with event 481
    (eccDecode v c = .uncorrectable → d.twinOk n x = false → x.1 = 3 → 4 ≤ x.2.2 → d.scrubNext n =
      (d.scrubReport n (d.act n) x q.word v c 3).setScrub n ⟨false, q.frame, q.word + 1⟩) ∧
    (eccDecode v c = .uncorrectable → d.twinOk n x = false → ¬ (x.1 = 3 ∧ 4 ≤ x.2.2) → d.scrubNext n =
      (((d.scrubReport n (d.act n) x q.word v c 2).signal 1 481 [(n, 4), (frameAddr n (d.act n) x.1 x.2.1 x.2.2, 27)]).slotSafe n
        faultConfig).setScrub n ⟨false, q.frame, q.word + 1⟩)) ∧
  (∀ (d : Device) (n : Fin 16), (d.slot n).power ≠ .on → d.scrubNext n = d) ∧
  -- SWEEP_COMPLETE: what was swept reads as erased, and the slot is EMPTY; a bad verification is repeated once
  (∀ (d : Device) (n : Fin 16), d.por = false → (d.slot n).st = .sweeping → (d.slot n).power = .on → d.captureReading n = false →
    (d.slot n).sweepCmd = none →
    ∃ e, Acts (.sweepComplete n false) d e ∧ (e.slot n).st = .empty ∧ (e.slot n).mc = 0 ∧ (e.slot n).mb.inq = [] ∧
      (e.slot n).mb.outq = [] ∧ e.rd (Reg.slcFault n) = 0 ∧
      (∀ a, planeBase n 0 ≤ a → a < planeBase n 0 + 0x800000 → e.byte a = 0) ∧
      (∀ a, keyBm n 0 ≤ a → a < keyBm n 0 + 0x20000 → e.byte a = 0)) ∧
  (∀ (d : Device) (n : Fin 16), d.por = false → (d.slot n).st = .sweeping → (d.slot n).power = .on → d.captureReading n = false →
    (d.slot n).sweepTry = 0 → Acts (.sweepComplete n true) d ((d.sweepZero n).modSlot n fun s => { s with sweepTry := 1 })) ∧
  (∀ (d : Device) (n : Fin 16), d.por = false → (d.slot n).st = .sweeping → (d.slot n).power = .on → d.captureReading n = false →
    (d.slot n).sweepTry ≠ 0 → (d.slot n).sweepCmd = none → ∃ e, Acts (.sweepComplete n true) d e ∧ (e.slot n).st = .empty ∧
      bitOf (e.rd (Reg.slcFault n)) faultSweep = true) ∧
  (∀ (d : Device) (n : Fin 16) (bad : Bool), d.por = false →
    (d.slot n).st ≠ .sweeping ∨ (d.slot n).power ≠ .on ∨ d.captureReading n = true → Acts (.sweepComplete n bad) d d)

/-- Captures and restores (R773, R809 to R817, R821 to R823, R831). Choices of the model: assumption log 34, 37, 41 and 65. -/
def Obligations.CapturesAndRestores : Prop :=
  -- CAPTURE: a mask that is no slot or group is 0x92, a wrong DEST 0x93, then the conditions' own code
  (∀ (d : Device) (cid : Nat) (k : HwdCmd) (ms : List (Fin 16)), Taken d cid 0x20 k → ms = maskSlots (k.f 0x08 2) →
    (d.maskShape (k.f 0x08 2) = false → Acts (.capture cid) d (d.complete cid 0x92 [])) ∧
    (d.maskShape (k.f 0x08 2) = true → k.f 0x10 8 % 64 ≠ 0 ∨ inBench (k.f 0x10 8) (k.f 0x18 4) = false ∨
      k.f 0x18 4 < 8528 + 75360 * ms.length → Acts (.capture cid) d (d.complete cid 0x93 [])) ∧
    (d.maskShape (k.f 0x08 2) = true → k.f 0x10 8 % 64 = 0 → inBench (k.f 0x10 8) (k.f 0x18 4) = true →
      8528 + 75360 * ms.length ≤ k.f 0x18 4 →
      (d.captureCode ms cid ≠ 0 → Acts (.capture cid) d (d.complete cid (d.captureCode ms cid) [])) ∧
      -- else it waits for the next tick, or for an ALIGNED latch
      (d.captureCode ms cid = 0 →
        bitOf (k.f 0x0A 1) 1 = false ∨ (∀ n ∈ ms, (d.slot n).pend5 = none ∧ d.resumeHolds n = false) →
        Acts (.capture cid) d
          (({ d with scribe := { d.scribe with captures := d.scribe.captures ++
            [⟨cid, ms, k.f 0x0A 1, k.f 0x10 8, k.f 0x18 4, if bitOf (k.f 0x0A 1) 0 then 0 else 1, 0, 0, [], [], [], []⟩] } } :
              Device).stageCmd cid 1)))) ∧
  -- a lock, or DENY_CAPTURE of the image, refuses a capture with 0x90; a slot in no state to be captured with 0x91
  (∀ (d : Device) (ms : List (Fin 16)) (own : Nat), d.lockBit 5 = true → d.captureCode ms own = 0x90) ∧
  -- while another capture of a member waits for its tick, a second one is refused with 0x83
  (∀ (d : Device) (ms : List (Fin 16)) (n : Fin 16) (own : Nat) (c : CaptureJob), d.lockBit 5 = false →
    (∀ m ∈ ms, bitOf (d.pSec m (d.act m)) 1 = false) → c ∈ d.scribe.captures → c.cid ≠ own → c.stage ≠ 2 → n ∈ ms → n ∈ c.members →
    d.captureCode ms own = 0x83) ∧
  (∀ (d : Device) (n : Fin 16) (own : Nat), d.lockBit 5 = false → bitOf (d.pSec n (d.act n)) 1 = false → d.scribe.captures = [] →
    (d.slot n).st = .faulted → d.captureCode [n] own = 0x91) ∧
  -- CAPTURE_READ_DONE of an image that is not sealed: the record, its header last, event 507 and OK
  (∀ (d x b : Device) (cid : Nat) (c : CaptureJob) (run : List (Fin 16)), d.por = false → x = d.endStopped →
    x.scribe.captures.find? (fun c => c.cid = cid && c.stage = 2) = some c → x.sealed (c.members.headD 0) = false →
    run = ((c.members.zip c.prior).filterMap fun x => if x.2 = 3 then some x.1 else none) →
    b = (x.benchStore (c.dest - benchBase + 128) (x.recordBody c)).benchStore (c.dest - benchBase)
      (x.recordHeader c (crc32c (x.recordBody c)) [] [] true) →
    Acts (.captureReadDone cid) d
      ((((({ b with scribe := { b.scribe with
          captures := b.scribe.captures.filter fun x => x.cid != cid
          resumes := if bitOf c.opt 1 && !run.isEmpty then b.scribe.resumes ++ [⟨c.members, run⟩] else b.scribe.resumes } } :
            Device).forSlots c.members fun m y => y.modSlot m fun s =>
              { s with cyc := if s.st = .running then .start else s.cyc }).raise 507 [((c.members.headD 0).val, 4), (0, 8)]).complete cid 0
        (leBytes 4 (8528 + 75360 * c.members.length) ++ leBytes 4 c.gen)).endStarts.dmaUnstall)) ∧
  (∀ (d : Device) (cid : Nat), d.por = false → d.endStopped.scribe.captures.find? (fun c => c.cid = cid && c.stage = 2) = none →
    Acts (.captureReadDone cid) d d.endStopped.endStarts.dmaUnstall) ∧
  -- RESTORE: refused with 0x92, 0x91, 0x83 for a restore in progress, 0x97, or the record's code
  (∀ (d : Device) (cid : Nat) (k : HwdCmd) (ms : List (Fin 16)), Taken d cid 0x21 k → ms = maskSlots (k.f 0x08 2) →
    (d.maskShape (k.f 0x08 2) = false → Acts (.restore cid) d (d.complete cid 0x92 [])) ∧
    (d.maskShape (k.f 0x08 2) = true → (∃ n ∈ ms, (d.slot n).st = .running) → Acts (.restore cid) d (d.complete cid 0x91 [])) ∧
    (d.maskShape (k.f 0x08 2) = true →
      (∀ n ∈ ms, ((d.slot n).st = .loaded ∨ (d.slot n).st = .held) ∧ (d.slot n).power = .on ∧ d.capturing n = false) →
      (∃ n ∈ ms, d.restoring n = true) → Acts (.restore cid) d (d.complete cid 0x83 [])) ∧
    (d.maskShape (k.f 0x08 2) = true →
      (∀ n ∈ ms, ((d.slot n).st = .loaded ∨ (d.slot n).st = .held) ∧ (d.slot n).power = .on ∧ d.capturing n = false ∧
        d.restoring n = false) →
      (k.f 0x20 8 ≠ 0 → k.f 0x20 8 ≤ d.turnCount → Acts (.restore cid) d (d.complete cid 0x97 [])) ∧
      (∀ (r : Device) (rec body : List Byte) (code : Nat), k.f 0x20 8 = 0 ∨ d.turnCount < k.f 0x20 8 → 128 ≤ k.f 0x18 4 →
        d.benchRead (k.f 0x10 8 - benchBase) (min (k.f 0x18 4) (recordLen 4)) = (some rec, r) →
        r.recordCheck ms rec (k.f 0x18 4) = (code, body) →
        Acts (.restore cid) d
          (if code ≠ 0 then r.complete cid code []
          else ({ r with scribe := { r.scribe with restores := r.scribe.restores ++ [⟨cid, ms, body, k.f 0x20 8, 1⟩] } } :
            Device).stageCmd cid 1)))) ∧
  -- RESTORE_WRITE_DONE: macrocells, block memories and mailboxes hold the record; the release waits for position 4, or the restore ends
  -- with 0x97 where tick RELEASE_TURN has passed
  (∀ (d : Device) (cid : Nat) (r : RestoreJob) (n : Fin 16), d.por = false →
    d.scribe.restores.find? (fun r => r.cid = cid && r.stage = 1) = some r → r.members = [n] →
    (d.slot n).st = .loaded ∨ (d.slot n).st = .held → (d.slot n).power = .on →
    r.relTurn = 0 ∨ d.turnCount < r.relTurn → (∀ o, (d.slot o).chan.stage ≠ 5) →
    ∃ e, Acts (.restoreWriteDone cid) d e ∧ (e.slot n).mc = BitVec.ofNat 2048 (leAt r.record 8416 256) ∧
      (e.slot n).st = (d.slot n).st ∧ (e.slot n).mb.inVis = leAt r.record 17 1 ∧
      e.rd (Reg.mbFlags n) = leAt r.record 20 1 ∧
      e.scribe.restores = d.scribe.restores.map (fun x => if x.cid = cid then { x with stage := 2 } else x) ∧
      ∀ o, o ≠ n → e.slot o = d.slot o) ∧
  (∀ (d : Device) (cid : Nat) (r : RestoreJob) (n : Fin 16), d.por = false →
    d.scribe.restores.find? (fun r => r.cid = cid && r.stage = 1) = some r → r.members = [n] →
    (d.slot n).st = .loaded ∨ (d.slot n).st = .held → (d.slot n).power = .on → r.relTurn ≠ 0 → r.relTurn ≤ d.turnCount → (∀ o, (d.slot o).chan.stage ≠ 5) →
    ∃ e, Acts (.restoreWriteDone cid) d e ∧ (e.slot n).mc = BitVec.ofNat 2048 (leAt r.record 8416 256) ∧
      (e.slot n).st = (d.slot n).st ∧ e.scribe.restores = d.scribe.restores.filter (fun x => x.cid != cid) ∧
      ∀ o, o ≠ n → e.slot o = d.slot o) ∧
  (∀ (d : Device) (cid : Nat), d.por = false → d.scribe.restores.find? (fun r => r.cid = cid && r.stage = 1) = none →
    Acts (.restoreWriteDone cid) d d.dmaUnstall) ∧
  -- data of a channel that waited for a capture or a restore of its slot is served once that has ended
  (∀ (d : Device) (cid : Nat), d.por = false → Acts (.restoreWriteDone cid) d (d.restoreWritten cid).dmaUnstall) ∧
  (∀ (d : Device) (n : Fin 16), (∀ o, o ≠ n → (d.slot o).chan.stage ≠ 5) → (d.slot n).chan.stage = 5 →
    d.dmaUnstall = d.dmaData n (d.slot n).chan.data)

/-- SCRIBE triggers and snapshot latches (R799 to R808, R871, R882). Choices of the model: assumption log 41. -/
def Obligations.ScribeTriggers : Prop :=
  -- SCRIBE_FIRE in IMMEDIATE mode: SCRIBE_GEN counts it, its source is recorded, and the latch is due at the third REFCLK edge
  (∀ d : Device, d.por = false → d.scribe.lastTrig ≠ some d.now → d.flag Fld.scribeCtlMode = false →
    ∃ e, Acts .scribeFire d e ∧ e.rd Reg.scribeGen = (d.rd Reg.scribeGen + 1) % 2 ^ 32 ∧ e.fld Fld.scribeStatusLastSrc = 1 ∧
      e.scribe.immDue = d.scribe.immDue ++ [d.now + 3] ∧ e.scribe.lastTrig = some d.now ∧
      (d.out = [] → (Out.scribeIo ∈ e.out ↔ d.flag Fld.scribeCtlIoOutEn = true)) ∧
      e.slots = d.slots ∧ e.mem = d.mem) ∧
  -- in ALIGNED mode the latch waits for the next tick
  (∀ d : Device, d.por = false → d.scribe.lastTrig ≠ some d.now → d.flag Fld.scribeCtlMode = true →
    d.flag Fld.scribeCtlRingOutEn = false → d.flag Fld.scribeStatusPendAligned = false →
    ∃ e, Acts .scribeFire d e ∧ e.rd Reg.scribeGen = (d.rd Reg.scribeGen + 1) % 2 ^ 32 ∧
      e.flag Fld.scribeStatusPendAligned = true ∧ e.scribe.alignTick = none ∧ e.scribe.immDue = d.scribe.immDue) ∧
  -- triggers on one edge count as one
  (∀ d : Device, d.por = false → d.scribe.lastTrig = some d.now → Acts .scribeFire d d ∧ Acts .scribeIoTrigger d d) ∧
  -- SCRIBE_IO_TRIGGER while IO_IN_EN is set, unless the device drove the ball less than 40 ns ago
  (∀ d : Device, d.por = false → d.flag Fld.scribeCtlIoInEn = true → d.scribe.deafTill ≤ d.now → d.scribe.lastTrig ≠ some d.now → d.flag Fld.scribeCtlMode = false →
    ∃ e, Acts .scribeIoTrigger d e ∧ e.rd Reg.scribeGen = (d.rd Reg.scribeGen + 1) % 2 ^ 32 ∧ e.fld Fld.scribeStatusLastSrc = 2 ∧
      e.scribe.immDue = d.scribe.immDue ++ [d.now + 3]) ∧
  (∀ d : Device, d.por = false → d.flag Fld.scribeCtlIoInEn = false ∨ d.now < d.scribe.deafTill → Acts .scribeIoTrigger d d) ∧
  -- SNAPSHOT_LATCH of a due IMMEDIATE latch: every snapshot register copies what it mirrors; UNREAD, or SNAP_OVERRUN with event 509
  (∀ (d : Device) (t : Nat) (rest : List Nat), d.por = false → d.scribe.immDue = t :: rest →
    let w : Device := { d with scribe := { d.scribe with immDue := rest.filter fun u => u != t } }
    let e := snapPairs.foldl (fun e x => e.wr x.1 (w.view x.2)) w
    (d.flag Fld.scribeStatusUnread = false → Acts .snapshotLatch d (e.setFlag Fld.scribeStatusUnread true)) ∧
    (d.flag Fld.scribeStatusUnread = true →
      Acts .snapshotLatch d ((e.setFlag Fld.scribeStatusSnapOverrun true).raise 509 [(0, 4)]))) ∧
  (∀ d : Device, d.por = false → d.scribe.immDue = [] → Acts .snapshotLatch d d) ∧
  -- SCRIBE_ACK
  (∀ d : Device, d.por = false → Acts .scribeAck d (d.setFlag Fld.scribeStatusUnread false)) ∧
  -- RING_TRIGGER: a wrong CHK is counted; the device's own sequence goes no further; any other is forwarded
  (∀ (d : Device) (k : Fin 2) (src : Fin 16) (seq : BitVec 8) (al : Bool) (tick : BitVec 64) (chk : BitVec 8), d.por = false →
    d.ringOn = true →
    let b := triggerBytes src.val seq.toNat al tick.toNat
    (chk8 b ≠ chk.toNat → Acts (.ringTrigger k src seq al tick chk) d (d.incFld Fld.ringErrCrc)) ∧
    (chk8 b = chk.toNat → src.val = d.ringAddr → Acts (.ringTrigger k src seq al tick chk) d d) ∧
    -- one acted on before is not acted on again
    (chk8 b = chk.toNat → src.val ≠ d.ringAddr → (src.val, seq.toNat) ∈ d.ring.seen →
      Acts (.ringTrigger k src seq al tick chk) d (d.sendSequence k kTrigger b)) ∧
    -- a new one triggers where RING_IN_EN allows it, an ALIGNED one at the tick it names
    (∀ f : Device, chk8 b = chk.toNat → src.val ≠ d.ringAddr → (src.val, seq.toNat) ∉ d.ring.seen →
      f = ({ d.sendSequence k kTrigger b with ring := { d.ring with seen := ((src.val, seq.toNat) :: d.ring.seen).take 128 } }) →
      (d.flag Fld.scribeCtlRingInEn = false → Acts (.ringTrigger k src seq al tick chk) d f) ∧
      (d.flag Fld.scribeCtlRingInEn = true → al = false → Acts (.ringTrigger k src seq al tick chk) d (f.trigger 3 d.now false none)) ∧
      (d.flag Fld.scribeCtlRingInEn = true → al = true → d.flag Fld.turnCtlAdopt = true → d.turnCount < tick.toNat →
        Acts (.ringTrigger k src seq al tick chk) d (f.trigger 3 d.now true (some tick.toNat))) ∧
      (d.flag Fld.scribeCtlRingInEn = true → al = true → d.flag Fld.turnCtlAdopt = true → tick.toNat ≤ d.turnCount →
        Acts (.ringTrigger k src seq al tick chk) d
          (((f.trigger 3 d.now true none).setFlag Fld.scribeStatusLate true).raise 509 [(1, 4)])))) ∧
  (∀ (d : Device) (k : Fin 2) (src : Fin 16) (seq : BitVec 8) (al : Bool) (tick : BitVec 64) (chk : BitVec 8), d.por = false →
    d.ringOn = false → Acts (.ringTrigger k src seq al tick chk) d d)

/-- RES_PROGRAM, RES_ERASE, RES_VERIFY and FW_UPDATE (R732, R734, R746, R747, R750). Choices of the model: assumption log 35, 36 and
43. -/
def Obligations.ResidentStoreCommands : Prop :=
  -- RES_PROGRAM and RES_ERASE of a sector that holds the running firmware are refused with 0x8B
  (∀ (d : Device) (cid : Nat) (k : HwdCmd), Taken d cid 0x30 k →
    d.selfProtected (sectorSpan (k.f 0x08 4) (k.f 0x18 4)).1 (sectorSpan (k.f 0x08 4) (k.f 0x18 4)).2 = true →
    Acts (.resProgram cid) d (d.complete cid 0x8B (leBytes 4 0))) ∧
  (∀ (d : Device) (cid : Nat) (k : HwdCmd), Taken d cid 0x31 k → d.selfProtected (k.f 0x08 2) (k.f 0x0A 2) = true →
    Acts (.resErase cid) d (d.complete cid 0x8B (leBytes 4 0))) ∧
  -- they wait while a program or erase is in progress
  (∀ (d : Device) (cid : Nat) (k : HwdCmd), Taken d cid 0x30 k →
    d.selfProtected (sectorSpan (k.f 0x08 4) (k.f 0x18 4)).1 (sectorSpan (k.f 0x08 4) (k.f 0x18 4)).2 = false → d.resBusy = true →
    Acts (.resProgram cid) d d) ∧
  (∀ (d : Device) (cid : Nat) (k : HwdCmd), Taken d cid 0x31 k → d.selfProtected (k.f 0x08 2) (k.f 0x0A 2) = false →
    d.resBusy = true → Acts (.resErase cid) d d) ∧
  -- an empty range is done at once
  (∀ (d : Device) (cid : Nat) (k : HwdCmd), Taken d cid 0x30 k → k.f 0x18 4 = 0 → k.prog = 0 → d.resBusy = false →
    Acts (.resProgram cid) d (d.complete cid 0 (leBytes 4 0))) ∧
  (∀ (d : Device) (cid : Nat) (k : HwdCmd), Taken d cid 0x31 k → k.f 0x0A 2 = 0 → k.prog = 0 → d.resBusy = false →
    Acts (.resErase cid) d (d.complete cid 0 (leBytes 4 0))) ∧
  -- RES_PROGRAM starts with the first page of its range, as far as the page and the range reach, 0xFF elsewhere
  (∀ (d r g : Device) (cid n a o : Nat) (k : HwdCmd) (data : List Byte) (code : Nat) (b : FwAccess), Taken d cid 0x30 k → k.prog = 0 →
    k.f 0x18 4 ≠ 0 →
    d.selfProtected (sectorSpan (k.f 0x08 4) (k.f 0x18 4)).1 (sectorSpan (k.f 0x08 4) (k.f 0x18 4)).2 = false → d.resBusy = false →
    o = k.f 0x08 4 → n = min (256 - o % 256) (k.f 0x18 4) → d.fwRead (k.f 0x10 8) n = (⟨0, a, data⟩, r) →
    r.fwProgramPage (o / 256) (pageImage (o % 256) data) = (code, b, g) → b.code = 0 →
    Acts (.resProgram cid) d (if code = 0 then g.modCmd cid fun x => { x with stage := 1, prog := 0, aux := n }
      else g.complete cid code (leBytes 4 0))) ∧
  -- RES_ERASE starts with its first sector
  (∀ (d g : Device) (cid code : Nat) (k : HwdCmd), Taken d cid 0x31 k → k.prog = 0 → k.f 0x0A 2 ≠ 0 →
    d.selfProtected (k.f 0x08 2) (k.f 0x0A 2) = false → d.resBusy = false → d.eraseSector (k.f 0x08 2) false = (code, g) →
    Acts (.resErase cid) d (if code = 0 then g.modCmd cid fun x => { x with stage := 1, prog := 0 }
      else g.complete cid code (leBytes 4 0))) ∧
  -- RES_VERIFY: the first difference counts from the start of the range
  (∀ (d r g : Device) (cid a a' : Nat) (k : HwdCmd) (x y : List Byte), Taken d cid 0x32 k →
    d.fwRead (k.f 0x08 4) (k.f 0x18 4) = (⟨0, a, x⟩, r) → r.fwRead (k.f 0x10 8) (k.f 0x18 4) = (⟨0, a', y⟩, g) →
    (x = y → Acts (.resVerify cid) d (g.complete cid 0 [])) ∧
    (∀ i, i < x.length → x[i]? ≠ y[i]? → (∀ j < i, x[j]? = y[j]?) →
      Acts (.resVerify cid) d (g.complete cid 0x8C (leBytes 4 i)))) ∧
  -- FW_UPDATE checks the staged copy, and then starts to erase the copy that does not run
  (∀ (d e g : Device) (cid a code : Nat) (k : HwdCmd) (copy : List Byte), Taken d cid 0x71 k →
    d.readCopy (k.f 0x10 8) (k.f 0x18 4) = (⟨0, a, copy⟩, e) →
    e.eraseSector (256 * (1 - e.fld Fld.hwdStatusBootCopy)) false = (code, g) →
    Acts (.fwUpdate cid) d
      (if e.copyCode copy ≠ 0 then e.complete cid (e.copyCode copy) []
      else if d.resBusy then d
      else if code = 0 then g.modCmd cid fun x => { x with stage := 1, prog := 0, aux := leAt copy 0x0C 4 + 448 }
      else g.complete cid code [])) ∧
  -- a copy whose security version lies below the rollback level is not accepted
  (∀ (d : Device) (bs : List Byte), leAt bs 0x08 4 < d.rollback → d.copyCode bs ≠ 0) ∧
  (∀ (d : Device) (bs : List Byte), bs.take 4 ≠ ascii "GDNF" → d.copyCode bs = 0x8D)

/-- The Grain store commands (R647, R666, R667, R669, R670, R672, R675, R746). Choices of the model: assumption log 35, 36 and 42. -/
def Obligations.GrainCommands : Prop :=
  -- GRAIN_REC_WRITE of a firmware key is refused with 0x61
  (∀ (d : Device) (cid : Nat) (k : HwdCmd), Taken d cid 0x40 k → k.f 0x08 2 < 0x1000 →
    Acts (.grainRecWrite cid) d (d.complete cid 0x61 [])) ∧
  -- of any other it writes the record, and answers the sequence number it took
  (∀ (d e : Device) (cid code : Nat) (k : HwdCmd), Taken d cid 0x40 k → 0x1000 ≤ k.f 0x08 2 →
    d.recordWrite (k.f 0x08 2) ((k.desc.drop 0x0C).take (k.f 0x0A 1)) = (code, e) →
    Acts (.grainRecWrite cid) d
      (if code ≠ 0 then e.complete cid code []
      else e.complete cid 0 (leBytes 4 (match e.recordRead (k.f 0x08 2) with | some (q, _) => q | none => 0)))) ∧
  -- GRAIN_REC_READ: a firmware key 0x61, no live record 0x63, else the payload to DEST
  (∀ (d : Device) (cid : Nat) (k : HwdCmd), Taken d cid 0x41 k → k.f 0x08 2 < 0x1000 →
    Acts (.grainRecRead cid) d (d.complete cid 0x61 [])) ∧
  (∀ (d : Device) (cid : Nat) (k : HwdCmd) (x : Option (Nat × List Byte)), Taken d cid 0x41 k → 0x1000 ≤ k.f 0x08 2 →
    d.recordRead (k.f 0x08 2) = x →
    Acts (.grainRecRead cid) d (match x with
      | none => d.complete cid 0x63 []
      | some (q, p) =>
        if bufferOk (k.f 0x10 8) p.length then
          let w := d.fwWrite (k.f 0x10 8) p
          w.2.completeAfter cid w.1 (leBytes 4 q ++ leBytes 4 p.length)
        else d.complete cid 0x81 [])) ∧
  -- GRAIN_STORE: while a STORE is in progress it waits for that one; not armed it is refused with 0x60 and event 423
  (∀ (d : Device) (cid : Nat) (k : HwdCmd), Taken d cid 0x42 k → d.grain.store ≠ none →
    Acts (.grainStore cid) d (({ d with grain := { d.grain with waiters := d.grain.waiters ++ [cid] } } : Device).stageCmd cid 1)) ∧
  (∀ (d : Device) (cid : Nat) (k : HwdCmd), Taken d cid 0x42 k → d.grain.store = none → d.flag Fld.grnStatusArmed = false →
    Acts (.grainStore cid) d ((d.raise 423 []).complete cid 0x60 [])) ∧
  -- else it starts a STORE of cause 1 into the bank other than the newest
  (∀ (d : Device) (cid b : Nat) (k : HwdCmd), Taken d cid 0x42 k → d.grain.store = none → d.flag Fld.grnStatusArmed = true →
    d.newestBank = some b →
    ∃ e, Acts (.grainStore cid) d e ∧ e.grain.store = some ⟨1 - b, d.bankSsn b + 1, 1⟩ ∧ e.grain.waiters = d.grain.waiters ++ [cid] ∧
      e.flag Fld.grnStatusStoreBusy = true ∧ e.cmd cid = some { k with stage := 1 } ∧ e.slots = d.slots) ∧
  -- GRAIN_PLANE completes with the counts of live, stale and free slots of the journal, which is 1,024 slots long
  (∀ (d : Device) (cid live free : Nat) (k : HwdCmd), Taken d cid 0x43 k → live = liveCount (d.plane true).journal →
    free = freeCount (d.plane true).journal →
    Acts (.grainPlane cid) d ((d.plane true).complete cid 0 (leBytes 2 live ++ leBytes 2 (1024 - live - free) ++ leBytes 2 free)))

/-- The key commands read their source and answer with the code of their subfunction (R768, R772, R775 to R778); `ok` is the outcome of
the program verify of the OTP or the key store. Choices of the model: assumption log 4, 9 and 34. -/
def Obligations.KeyCommands : Prop :=
  -- OP_KEY_SET: a wrong length is 0xA7; no field left for the key 0xA0; a signature that does not verify 0xA1; else the hash of the
  -- key is programmed, and takes effect at the next POR release
  (∀ (d r : Device) (cid a : Nat) (ok : Bool) (k : HwdCmd) (src : List Byte), Taken d cid 0x50 k → k.f 0x08 1 = 1 →
    d.fwRead (k.f 0x10 8) (min 512 (k.f 0x18 4)) = (⟨0, a, src⟩, r) →
    (src.length ≠ (if r.opKeyed then 288 else 192) → Acts (.opKeySet cid ok) d (r.complete cid 0xA7 [])) ∧
    (src.length = 192 → r.opKeyed = false → r.otpClass 1 = .unprogrammed →
      let msg := ascii "GDNI-OPK" ++ r.serial ++ src.take 96
      let e := (r.otpProgramHash 1 (padTo 48 (Config.sha384 (src.take 96))) ok).otpPending
      Acts (.opKeySet cid ok) d
        (if Config.ecdsaVerify (src.take 96) msg ((src.drop 96).take 96) then
          (if ok then e.complete cid 0 (leBytes 4 0) else e.complete cid 0xAA [])
        else r.complete cid 0xA1 [])) ∧
    (src.length = 192 → r.opKeyed = false → r.otpClass 1 ≠ .unprogrammed → r.otpClass 2 ≠ .unprogrammed ∨ r.lockBit 4 = true →
      Acts (.opKeySet cid ok) d (r.complete cid 0xA0 []))) ∧
  -- LOCK_SET: the lock byte is programmed three times, with event 467 each; under an operator key it needs the operator's signature
  (∀ (d r : Device) (cid a : Nat) (ok : Bool) (k : HwdCmd) (src : List Byte), Taken d cid 0x50 k → k.f 0x08 1 = 2 →
    d.fwRead (k.f 0x10 8) (min 512 (k.f 0x18 4)) = (⟨0, a, src⟩, r) →
    (src.length ≠ (if r.opKeyed then 100 else 4) → Acts (.lockSet cid ok) d (r.complete cid 0xA7 [])) ∧
    (src.length = 100 → r.opKeyed = true →
      let e := ((((((r.otpWrite 0x90 (src.take 1)).raise 467 []).otpWrite 0x91 (src.take 1)).raise 467 []).otpWrite 0x92
        (src.take 1)).raise 467 []).otpPending
      Acts (.lockSet cid true) d
        (if r.opSigOk (ascii "GDNI-LCK" ++ r.serial ++ src.take 4) (src.drop 4) then e.complete cid 0 (leBytes 4 0)
        else r.complete cid 0xA1 [])) ∧
    (src.length = 4 → r.opKeyed = false → Acts (.lockSet cid true) d
      (((((((r.otpWrite 0x90 (src.take 1)).raise 467 []).otpWrite 0x91 (src.take 1)).raise 467 []).otpWrite 0x92 (src.take 1)).raise 467
        []).otpPending.complete cid 0 (leBytes 4 0))) ∧
    (src.length = 4 → r.opKeyed = false → Acts (.lockSet cid false) d
      ((r.otpWrite 0x90 (src.take 1)).otpPending.complete cid 0xAA []))) ∧
  -- TSK_IMPORT: 0xA7, 0xA1, 0xA3, 0xA4 and 0xA5 in this order; else the state key is stored, and its TENANT_ID is the output
  (∀ (d r : Device) (cid a : Nat) (ok : Bool) (k : HwdCmd) (src tid : List Byte), Taken d cid 0x50 k → k.f 0x08 1 = 3 →
    d.fwRead (k.f 0x10 8) (min 512 (k.f 0x18 4)) = (⟨0, a, src⟩, r) → 16 ≤ k.f 0x28 4 → tid = signerId (src.take 96) →
    (src.length ≠ 352 → Acts (.tskImport cid ok) d (r.complete cid 0xA7 [])) ∧
    (src.length = 352 → r.hasKak = false → Acts (.tskImport cid ok) d
      (if Config.ecdsaVerify (src.take 96) (src.take 256) (src.drop 256) then r.complete cid 0xA3 [] else r.complete cid 0xA1 [])) ∧
    (src.length = 352 → r.hasKak = true →
      Acts (.tskImport cid ok) d
        (if Config.ecdsaVerify (src.take 96) (src.take 256) (src.drop 256) then
          match gcmOpen (r.kek ((src.drop 96).take 96) "GDNI-TSK" tid) ((src.drop 192).take 12) (r.keyId ++ tid)
            ((src.drop 204).take 32) ((src.drop 236).take 16) with
          | none => r.complete cid 0xA4 []
          | some key =>
            match (r.tskSlot tid).or (firstIdx 32 fun i => !r.tskUsed i) with
            | none => r.complete cid 0xA5 []
            | some i =>
              if ok then
                ((r.setBytes (keyTsk i) ([1, 0, 0, 0, 0, 0, 0, 0] ++ tid ++ padTo 32 key)).mirrorKeys.raise 470 []).completeDest cid
                  (k.f 0x20 8) tid
              else r.complete cid 0xAA []
        else r.complete cid 0xA1 []))) ∧
  -- ENDORSE_MIN: without an operator key 0xA2; a serial that is not above the one in force 0xA9
  (∀ (d r : Device) (cid a : Nat) (k : HwdCmd) (src : List Byte), Taken d cid 0x50 k → k.f 0x08 1 = 4 →
    d.fwRead (k.f 0x10 8) (min 512 (k.f 0x18 4)) = (⟨0, a, src⟩, r) →
    (r.flag Fld.devReadyGrainD = false → Acts (.endorseMin cid) d (r.complete cid 0x87 [])) ∧
    (r.flag Fld.devReadyGrainD = true → r.opKeyed = false → Acts (.endorseMin cid) d (r.complete cid 0xA2 [])) ∧
    (r.flag Fld.devReadyGrainD = true → r.opKeyed = true → src.length ≠ 100 → Acts (.endorseMin cid) d (r.complete cid 0xA7 [])) ∧
    (r.flag Fld.devReadyGrainD = true → r.opKeyed = true → src.length = 100 →
      ∀ (code : Nat) (e : Device), r.recordWrite 0x0200 (src.take 4) = (code, e) →
        Acts (.endorseMin cid) d
          (if r.opSigOk (ascii "GDNI-END" ++ r.serial ++ src.take 4) (src.drop 4) then
            (if leAt src 0 4 ≤ r.minEndorse then r.complete cid 0xA9 []
            else if code ≠ 0 then e.complete cid code []
            else (e.wr Reg.secMinEndorse (leAt src 0 4)).complete cid 0 (leBytes 4 0))
          else r.complete cid 0xA1 []))) ∧
  -- TSK_DESTROY of a tenant without a state key is 0xA6; else its slot is erased, with event 471
  (∀ (d r : Device) (cid a : Nat) (ok : Bool) (k : HwdCmd) (src : List Byte), Taken d cid 0x51 k → k.f 0x08 1 = 1 →
    d.fwRead (k.f 0x10 8) (min 512 (k.f 0x18 4)) = (⟨0, a, src⟩, r) →
    (src.length ≠ 16 → Acts (.tskDestroy cid ok) d (r.complete cid 0xA7 [])) ∧
    (src.length = 16 → r.tskSlot src = none → Acts (.tskDestroy cid ok) d (r.complete cid 0xA6 [])) ∧
    (∀ i, src.length = 16 → r.tskSlot src = some i →
      Acts (.tskDestroy cid true) d
        (((r.setBytes (keyTsk i) (List.replicate 64 0)).mirrorKeys.raise 471 []).complete cid 0 (leBytes 4 0)) ∧
      Acts (.tskDestroy cid false) d (r.complete cid 0xAA []))) ∧
  -- TSK_DESTROY_ALL leaves no state key; DECOMMISSION leaves no key at all
  (∀ (d r : Device) (cid a : Nat) (ok : Bool) (k : HwdCmd) (src : List Byte), Taken d cid 0x51 k → k.f 0x08 1 = 2 →
    d.fwRead (k.f 0x10 8) (min 512 (k.f 0x18 4)) = (⟨0, a, src⟩, r) →
    (src ≠ [] → Acts (.tskDestroyAll cid ok) d (r.complete cid 0xA7 [])) ∧
    (src = [] → Acts (.tskDestroyAll cid true) d ((r.tskEraseAll.mirrorKeys.raise 471 []).complete cid 0 (leBytes 4 0)) ∧
      Acts (.tskDestroyAll cid false) d (r.complete cid 0xAA []))) ∧
  (∀ (d r : Device) (cid a : Nat) (ok : Bool) (k : HwdCmd) (src : List Byte), Taken d cid 0x51 k → k.f 0x08 1 = 3 →
    d.fwRead (k.f 0x10 8) (min 512 (k.f 0x18 4)) = (⟨0, a, src⟩, r) →
    (src.length ≠ (if r.opKeyed then 96 else 0) → Acts (.decommission cid ok) d (r.complete cid 0xA7 [])) ∧
    (src.length = 96 → r.opKeyed = true → Acts (.decommission cid true) d
      (if r.opSigOk (ascii "GDNI-DEC" ++ r.serial) src then
        (r.tskEraseAll.keysErase.mirrorKeys.raise 471 []).complete cid 0 (leBytes 4 0)
      else r.complete cid 0xA1 [])) ∧
    (src = [] → r.opKeyed = false →
      Acts (.decommission cid true) d ((r.tskEraseAll.keysErase.mirrorKeys.raise 471 []).complete cid 0 (leBytes 4 0)) ∧
      Acts (.decommission cid false) d (r.complete cid 0xAA []))) ∧
  (∀ d : Device, (∀ i < 32, d.tskEraseAll.tskUsed i = false) ∧ d.keysErase.hasIdk = false ∧ d.keysErase.hasKak = false)

/-- TURN_SET, the ring commands of Heartwood, and HIBERNATE (R284, R288, R746, R883, R887, R888, R909, R910). Choices of the model:
assumption log 9, 35 and 37. -/
def Obligations.TurnRingAndHibernateCommands : Prop :=
  -- TURN_SET writes the selected fields alone, and answers the next turn's number
  (∀ (d : Device) (cid set : Nat) (k : HwdCmd), Taken d cid 0x60 k → set = k.f 0x08 1 → set ≤ 15 → k.f 0x09 1 ≤ 3 → k.f 0x0A 1 ≤ 1 →
    ∃ e : Device, Acts (.turnSet cid) d (e.complete cid 0 (leBytes 8 ((e.turnCount + 1) % 2 ^ 64))) ∧ e.slots = d.slots ∧
      e.mem = d.mem ∧ (bitOf set 0 = true → 100 ≤ k.f 0x0C 4 → e.rd Reg.turnPeriod = k.f 0x0C 4) ∧
      (bitOf set 0 = false → e.rd Reg.turnPeriod = d.rd Reg.turnPeriod) ∧
      e.fld Fld.turnCtlSrc = (if bitOf set 1 then k.f 0x09 1 else d.fld Fld.turnCtlSrc) ∧
      e.fld Fld.turnCtlAdopt = (if bitOf set 2 then k.f 0x0A 1 else d.fld Fld.turnCtlAdopt) ∧
      e.flag Fld.turnCtlRun = (d.flag Fld.turnCtlRun || bitOf set 3)) ∧
  -- RING_CFG_SET: a record that is not right is refused with its code; else the registers take it and it is written to the journal
  (∀ (d r e : Device) (cid a code : Nat) (k : HwdCmd) (b : List Byte), Taken d cid 0x61 k → k.f 0x08 1 = 1 →
    d.fwRead (k.f 0x10 8) (k.f 0x18 4) = (⟨0, a, b⟩, r) →
    (r.ringCfgCode b ≠ 0 → Acts (.ringCfgSet cid) d (r.complete cid (r.ringCfgCode b) [])) ∧
    (r.ringCfgCode b = 0 → (r.ringLoad b).recordWrite 0x0210 b = (code, e) →
      Acts (.ringCfgSet cid) d (if code = 0 then e.complete cid 0 (leBytes 4 0) else e.complete cid code []))) ∧
  (∀ (d : Device) (b : List Byte), b.length ≠ 16 → d.ringCfgCode b = 0xB5) ∧
  -- RING_CFG_MEASURE sends an ECHO on each direction
  (∀ (d : Device) (cid : Nat) (k : HwdCmd), Taken d cid 0x61 k → k.f 0x08 1 = 2 →
    (d.ringOn = false → Acts (.ringCfgMeasure cid) d (d.complete cid 0xB0 [])) ∧
    (d.ringOn = true → Acts (.ringCfgMeasure cid) d
      (((d.modDir 0 fun x => { x with queue := x.queue ++ [3 :: slotBody d.ringAddr d.ringAddr 1 0 0 []] }).modDir 1 fun x =>
        { x with queue := x.queue ++ [3 :: slotBody d.ringAddr d.ringAddr 1 0 0 []] }).complete cid 0 (leBytes 4 0)))) ∧
  -- RING_SEND: refused with its code, else a transfer under the next XFER_ID begins
  (∀ (d r : Device) (cid a code : Nat) (k : HwdCmd) (b : List Byte), Taken d cid 0x62 k → k.f 0x08 1 = 1 →
    d.fwRead (k.f 0x10 8) (min 16 (k.f 0x18 4)) = (⟨0, a, b⟩, r) → code = r.ringSendCode b (k.f 0x18 4) →
    (k.f 0x28 4 < 16 → Acts (.ringSend cid) d (r.complete cid 0x81 [])) ∧
    (16 ≤ k.f 0x28 4 → code ≠ 0 → Acts (.ringSend cid) d (r.complete cid code [])) ∧
    (16 ≤ k.f 0x28 4 → code = 0 →
      let x : RingTx := ⟨cid, leAt b 0 1, leAt b 1 1, (r.ring.xfers + 1) % 2 ^ 16, k.f 0x10 8 + 16, leAt b 12 4, leAt b 8 4, leAt b 4 4,
        0, 0, 0, 0, 0, 0⟩
      Acts (.ringSend cid) d
        (({ r with ring := { r.ring with xfers := x.xfer, txs := r.ring.txs ++ [x] } } : Device).stageCmd cid 1).txPump)) ∧
  (∀ (d : Device) (b : List Byte) (n : Nat), d.ringOn = false ∨ d.flag Fld.ringStatusUp = false → d.ringSendCode b n = 0xB0) ∧
  -- HIBERNATE is refused while VBAT is invalid
  (∀ (d : Device) (cid : Nat) (k : HwdCmd), Taken d cid 0x70 k → d.power.vbat = false →
    Acts (.hibernate cid) d (d.complete cid 0xC3 [])) ∧
  -- else HIB_PEND is set; the STORE of cause 3 begins once the resident store is idle and ARMED is 1
  (∀ (d : Device) (cid : Nat) (k : HwdCmd), Taken d cid 0x70 k → d.power.vbat = true →
    d.resBusy = true ∨ d.flag Fld.grnStatusArmed = false →
    ∃ e, Acts (.hibernate cid) d e ∧ e.power.hib = some ⟨cid, 1⟩ ∧ e.flag Fld.pwrStatusHibPend = true ∧ e.grain = d.grain ∧
      e.slots = d.slots) ∧
  (∀ (d : Device) (cid b : Nat) (k : HwdCmd), Taken d cid 0x70 k → d.power.vbat = true → d.resBusy = false →
    d.flag Fld.grnStatusArmed = true → d.grain.store = none → d.newestBank = some b →
    ∃ e, Acts (.hibernate cid) d e ∧ e.power.hib = some ⟨cid, 2⟩ ∧ e.flag Fld.pwrStatusHibPend = true ∧
      e.grain.store = some ⟨1 - b, d.bankSsn b + 1, 3⟩)

/-- Delivery, the event queues, the MSI-X engines, and the pop of ACT_DENY_LOG (R514, R515, R584, R840, R843, R845 to R849). Choices of
the model: assumption log 27 and 44. -/
def Obligations.EventDeliveryAndQueues : Prop :=
  -- with no latch set, nothing is delivered
  (∀ d : Device, d.por = false → d.latches = [] → Acts .eventDelivery d d) ∧
  -- events 480 to 495 first, then every other in ascending order: the latch taken is cleared, and its record goes to each queue of its
  -- route; at 64 records the push is refused, with OVERFLOW and a lost record
  (∀ (d : Device) (x : RaiseLatch), d.por = false →
    (d.latches.find? fun y => decide (480 ≤ y.event ∧ y.event ≤ 495)) = some x ∨
      ((∀ y ∈ d.latches, ¬ (480 ≤ y.event ∧ y.event ≤ 495)) ∧ d.latches.head? = some x) →
    Reaches .eventDelivery d fun s t =>
      t.pending = s.pending ∧ t.mtx = s.mtx ∧ t.dev.mem = d.mem ∧ t.dev.slots = d.slots ∧ t.dev.hwd = d.hwd ∧
      t.dev.latches = d.latches.filter (fun y => y.event != x.event) ∧
      ∀ q : Fin 4,
        t.evq[q] = (if routeQueue x.route.toNat q.val = true ∧ s.evq[q].length < 64 then
          s.evq[q] ++ [⟨x.event, x.merge, x.syn, x.turn⟩] else s.evq[q]) ∧
        (routeQueue x.route.toNat q.val = true → s.evq[q].length < 64 →
          t.dev.fld (Fld.evtQStatusDepth q.val) = s.evq[q].length + 1) ∧
        (routeQueue x.route.toNat q.val = true → 64 ≤ s.evq[q].length →
          t.dev.flag (Fld.evtQStatusOverflow q.val) = true ∧
          t.dev.fld (Fld.evtQLostCount q.val) = satInc (2 ^ (Fld.evtQLostCount q.val).width - 1) (d.fld (Fld.evtQLostCount q.val)))) ∧
  -- a delivery to a PF vector of port A counts; when the count reaches COUNT the message is made ready and pending count and age are 0
  (∀ (d : Device) (x : RaiseLatch) (v w n : Nat), d.por = false → nextLatch d.latches = some x →
    bitOf x.route.toNat 0 = false → bitOf x.route.toNat 1 = true → bitOf x.route.toNat 2 = false → v = bitsOf x.route.toNat 8 6 →
    w = d.rd (Reg.evtCoalPf 0 v) → n = satInc 255 (bitsOf w 16 8) →
    Reaches .eventDelivery d fun _ t =>
      if (if bitsOf w 0 8 = 0 then 1 else bitsOf w 0 8) ≤ n then
        (0, v) ∈ (t.dev.ports[(0 : Fin 2)]).pba ∧ bitsOf (t.dev.rd (Reg.evtCoalPf 0 v)) 16 16 = 0
      else (t.dev.ports[(0 : Fin 2)]).pba = (d.ports[(0 : Fin 2)]).pba ∧ bitsOf (t.dev.rd (Reg.evtCoalPf 0 v)) 16 8 = n) ∧
  -- a pop removes the head, and the head registers and DEPTH show what follows; a pop at depth 0 sets UNDERFLOW
  (∀ (d : Device) (q : Fin 4), d.por = false → Reaches (.evtQPop q) d fun s t =>
    (s.evq[q] = [] → t = { s with dev := d.setFlag (Fld.evtQStatusUnderflow q.val) true }) ∧
    ∀ (r : EvtRecord) (l : List EvtRecord), s.evq[q] = r :: l →
      t.pending = s.pending ∧ t.mtx = s.mtx ∧ t.evq = s.evq.set q l ∧ t.dev.mem = d.mem ∧ t.dev.slots = d.slots ∧
      t.dev.latches = d.latches ∧ (l.length < 64 → t.dev.fld (Fld.evtQStatusDepth q.val) = l.length) ∧
      ∀ (h : EvtRecord) (m : List EvtRecord), l = h :: m → h.event < 512 →
        t.dev.rd (Reg.evtQHead q.val 0) = h.event + h.merge % 256 * 2 ^ 16 ∧
        t.dev.rd (Reg.evtQHead q.val 1) + 2 ^ 32 * t.dev.rd (Reg.evtQHead q.val 2) = h.syn.toNat ∧
        t.dev.rd (Reg.evtQHead q.val 3) = h.turn.toNat) ∧
  -- a pending message that can be sent is a posted write of its data, and is pending no more; another stays pending
  (∀ (d : Device) (p : Fin 2) (fn v : Nat), d.por = false →
    (((fn, v) ∈ (d.ports[p]).pba ∧ bitOf (d.cfgDw p fn 0x0B0) 31 = true ∧ bitOf (d.cfgDw p fn 0x0B0) 30 = false ∧
        bitOf (d.msixDw p fn (4 * v + 3)) 0 = false ∧ d.busMaster p fn = true ∧ d.inL0 p = true ∧ d.inD3 p fn = false) →
      Acts (.msixSend p fn v) d
        ((d.modPort p fun q => { q with pba := q.pba.filter fun x => x != (fn, v) }).emit
          (.hostWrite p fn (d.msixDw p fn (4 * v) + 2 ^ 32 * d.msixDw p fn (4 * v + 1)) (leBytes 4 (d.msixDw p fn (4 * v + 2)))))) ∧
    (((fn, v) ∉ (d.ports[p]).pba ∨ bitOf (d.cfgDw p fn 0x0B0) 31 = false ∨ bitOf (d.cfgDw p fn 0x0B0) 30 = true ∨
        bitOf (d.msixDw p fn (4 * v + 3)) 0 = true ∨ d.busMaster p fn = false ∨ d.inL0 p = false ∨ d.inD3 p fn = true) →
      Acts (.msixSend p fn v) d d)) ∧
  -- ACT_DENY_LOG pops in order; a pop of an empty log sets UNDERFLOW
  (∀ d : Device, d.por = false → d.denials = [] → Acts .actDenyPop d (d.setFlag Fld.actDenyStatusUnderflow true)) ∧
  (∀ (d : Device) (x : DenyRecord) (l : List DenyRecord), d.por = false → d.denials = x :: l →
    ∃ e, Acts .actDenyPop d e ∧ e.denials = l ∧ e.mem = d.mem ∧ e.slots = d.slots ∧ e.latches = d.latches ∧
      (l.length < 16 → e.fld Fld.actDenyStatusDepth = l.length ∧ e.flag Fld.actDenyStatusFull = false) ∧
      (∀ y m, l = y :: m → y.addr < 2 ^ 40 → e.rd Reg.actDenyLog0 + 2 ^ 32 * (e.rd Reg.actDenyLog1 % 256) = y.addr))
/-- Inbound, configuration and completion traffic of a host port (R510 to R513, R519 to R521, R546). Choices of the model: assumption
log 11, 23, 24, 25, 26 and 80. -/
def Obligations.PortRequestsAndCompletions : Prop :=
  -- an inbound request that the port translates becomes matrix transactions of that port, none across a 64-byte boundary
  (∀ (d : Device) (port : Fin 2) (q : MemReq) (fn bar o a : Nat), d.por = false → d.linkUp port = true → q.memory = true → 0 < q.len →
    (q.write = true → q.poisoned = false) → d.claim port q.addr.toNat = some (fn, bar, o) → fn ∉ (d.ports[port]).flr → d.inD3 port fn = false →
    d.memSpace port fn = true → (q.write = true → q.len ≤ d.mps port) → (q.write = false → q.len ≤ d.mrrs port) →
    msixPlace port fn bar o q.len = none → d.translate port fn bar o q.len = some a →
    (registerSpan a = true → a % 64 + q.len ≤ 64) →
    ∀ txns : List Txn, txns = splitTxns ⟨port.val, by omega⟩ ⟨tcidOf port fn % 64, Nat.mod_lt _ (by decide)⟩ a q.write q.en q.data →
    Reaches (.inboundRequest port q) d fun s t =>
      t = State.pump { s with
        dev := d
        mtx := { s.mtx with
          reqs := s.mtx.reqs ++ [⟨s.mtx.next, port, fn, q.tag, q.write, txns.length, 0, a, q.header.toNat, []⟩]
          next := s.mtx.next + 1
          waiting := s.mtx.waiting ++ txns.map fun x => ⟨x, false, s.mtx.next⟩ } }) ∧
  -- one that crosses a 64-byte boundary among registers is a Completer Abort
  (∀ (d : Device) (port : Fin 2) (q : MemReq) (fn bar o a : Nat), d.por = false → d.linkUp port = true → q.memory = true → 0 < q.len →
    (q.write = true → q.poisoned = false) → d.claim port q.addr.toNat = some (fn, bar, o) → fn ∉ (d.ports[port]).flr →
    d.inD3 port fn = false → d.memSpace port fn = true → (q.write = true → q.len ≤ d.mps port) → (q.write = false → q.len ≤ d.mrrs port) →
    msixPlace port fn bar o q.len = none → d.translate port fn bar o q.len = some a → registerSpan a = true → 64 < a % 64 + q.len →
    Acts (.inboundRequest port q) d
      ((d.judgeSpan port.val (tcidOf port fn) ((targetOf a).getD 0) a q.len q.write).2.failRequest port fn 1 a q)) ∧
  -- a request that lies in no function, one of a kind the device does not serve, an AtomicOp, and one to a function that is in D3
  -- or does not answer memory space: Unsupported Request
  (∀ (d : Device) (port : Fin 2) (q : MemReq), d.por = false → d.linkUp port = true → 0 < q.len →
    q.kind = .other ∨ d.claim port q.addr.toNat = none →
    Acts (.inboundRequest port q) d (d.free.2.failRequest port 0 0 d.free.1 q)) ∧
  (∀ (d e : Device) (port : Fin 2) (q : MemReq) (fn bar o a : Nat), d.por = false → d.linkUp port = true → 0 < q.len →
    q.kind ≠ .other → d.claim port q.addr.toNat = some (fn, bar, o) → d.holeAddr port fn bar o = (a, e) →
    q.kind = .atomic ∨ (fn ∉ (d.ports[port]).flr ∧ (d.inD3 port fn = true ∨ d.memSpace port fn = false)) →
    Acts (.inboundRequest port q) d (e.failRequest port fn 0 a q)) ∧
  -- a poisoned write is discarded and logged; a write beyond Max Payload Size is a malformed TLP
  (∀ (d e : Device) (port : Fin 2) (q : MemReq) (fn bar o a : Nat), d.por = false → d.linkUp port = true → q.memory = true → 0 < q.len →
    q.write = true → d.claim port q.addr.toNat = some (fn, bar, o) → d.holeAddr port fn bar o = (a, e) → fn ∉ (d.ports[port]).flr →
    d.inD3 port fn = false → d.memSpace port fn = true →
    (q.poisoned = true → Acts (.inboundRequest port q) d (e.errorResponse port fn 2 a true q.header.toNat)) ∧
    (q.poisoned = false → d.mps port < q.len →
      Acts (.inboundRequest port q) d (e.aerUncorrectable port fn 18 false (some q.header.toNat)))) ∧
  -- a configuration read of an enabled function answers its dword, and changes nothing
  (∀ (d : Device) (port : Fin 2) (fn tag : Nat) (dw : Fin 1024) (en : BitVec 4) (data : Word), d.por = false → d.linkUp port = true →
    d.fnEnabled port fn = true →
    Acts (.configRequest port fn dw false en data tag) d (d.emit (.completion port fn tag 0 (leBytes 4 (d.cfgRead port fn (4 * dw.val)))))) ∧
  -- a configuration write stores the writable bits of the enabled bytes
  (∀ (d : Device) (port : Fin 2) (fn tag : Nat) (dw : Fin 1024) (en : BitVec 4) (data : Word), d.por = false → d.linkUp port = true →
    d.fnEnabled port fn = true → fn = 0 → dw.val ≠ 0x058 / 4 → dw.val ≠ 0x168 / 4 → dw.val ≠ 0x298 / 4 → dw.val ≠ 0x2A0 / 4 →
    dw.val ≠ 0x2A4 / 4 →
    Acts (.configRequest port fn dw true en data tag) d
      ((d.emit (.completion port fn tag 0 [])).cfgStore port fn (4 * dw.val) en.toNat data.toNat)) ∧
  -- a configuration request to a function that is not there: Unsupported Request
  (∀ (d : Device) (port : Fin 2) (fn tag : Nat) (dw : Fin 1024) (write : Bool) (en : BitVec 4) (data : Word), d.por = false →
    d.linkUp port = true → d.fnEnabled port fn = false →
    Acts (.configRequest port fn dw write en data tag) d
      ((d.free.2.errorResponse port fn 0 (4 * dw.val) false d.free.1).emit (.completion port fn tag 1 []))) ∧
  -- a completion with data is stored for the channel that waits for it
  (∀ (d : Device) (port : Fin 2) (fn : Nat) (data : List Byte) (n m : Fin 16) (c : DmaChan), d.por = false → d.linkUp port = true →
    fn ∉ (d.ports[port]).stale → d.slotOfVf port fn = some n → c = (d.slot n).chan → c.stage = 3 → d.chanSlot n c = some m →
    d.dmaTargetCode m c = 0 →
    -- it waits while a capture or a restore uses the memory
    (d.memBusy m = true → Acts (.completionReceived port fn 0 data) d (d.setChan n { c with stage := 5, data := data })) ∧
    (∀ e : Device, d.memBusy m = false → d.dmaJudge n m c.len true = (true, e) →
      Acts (.completionReceived port fn 0 data) d
        (((e.hostWrite m c.mem (c.off + c.moved) (List.replicate c.len true) (padTo c.len data)).setChan n { c with data := [] }).dmaMoved
          n c.len)) ∧
    (∀ e : Device, d.memBusy m = false → d.dmaJudge n m c.len true = (false, e) →
      Acts (.completionReceived port fn 0 data) d (e.dmaDenied n))) ∧
  -- an error completion fails the descriptor with HOST_ERR
  (∀ (d : Device) (port : Fin 2) (fn status : Nat) (data : List Byte) (n : Fin 16) (p : Fin 2) (v : Nat), d.por = false →
    d.linkUp port = true → fn ∉ (d.ports[port]).stale → d.slotOfVf port fn = some n → (d.slot n).chan.stage = 3 →
    d.chanVf n = some (p, v) → status = 1 ∨ status = 4 →
    Acts (.completionReceived port fn status data) d (d.dmaFail n 0x53)) ∧
  -- one for a channel that has been reset is discarded
  (∀ (d : Device) (port : Fin 2) (fn status : Nat) (data : List Byte), d.por = false → d.linkUp port = true →
    fn ∈ (d.ports[port]).stale →
    Acts (.completionReceived port fn status data) d (d.modPort port fun q => { q with stale := q.stale.erase fn }))

/-- The DOE mailbox and the SPDM responder (R516 to R518, R782, R783). Choices of the model: assumption log 4, 11 and 12. -/
def Obligations.DoeAndSpdm : Prop :=
  -- a CMA/SPDM object is accepted with port event 11 and waits to be served
  (∀ (d : Device) (p : Fin 2) (dw : List Word), d.por = false → d.linkUp p = true → d.flag Fld.hwdStatusCmdReady = true →
    (d.ports[p]).doeIn = [] → (d.ports[p]).doeOut = [] → 2 ≤ dw.length → dw.length ≤ 1024 →
    (dw.getD 1 0).toNat % 2 ^ 18 = dw.length → (dw.headD 0).toNat % 2 ^ 16 = 1 → bitsOf (dw.headD 0).toNat 16 8 = 1 →
    Acts (.doeObject p dw) d ((d.portEvent p 11 []).modPort p fun q => { q with doeIn := dw })) ∧
  (∀ (d : Device) (p : Fin 2), d.por = false → d.linkUp p = true →
    Acts (.doeAbort p) d (d.modPort p fun q => { q with doeStage := [], doeIn := [], doeOut := [], doeErr := false })) ∧
  -- GET_VERSION, GET_CAPABILITIES, NEGOTIATE_ALGORITHMS
  (∀ (d : Device) (p : Fin 2) (r a : List Byte), SpdmServed d p 0x84 0x10 r → a = [0x10, 0x04, 0, 0, 0, 1, 0x00, 0x12] →
    Acts (.getVersion p) d
      ((d.modPort p fun q => { q with spdm := 1, spdmVca := r.take 4 ++ a, spdmCert := [], spdmMeas := [] }).spdmAnswer p a)) ∧
  (∀ (d : Device) (p : Fin 2) (r : List Byte), SpdmServed d p 0xE1 0x12 r → 1 ≤ (d.ports[p]).spdm →
    ∃ (ct : Nat) (a : List Byte), a = [0x12, 0x61, 0, 0, 0] ++ leBytes 1 ct ++ [0, 0] ++ leBytes 4 0x16 ++ leBytes 4 4088 ++ leBytes 4 4088 ∧
      Acts (.getCapabilities p) d
        (({ d with freeCtr := d.freeCtr + 1 }.modPort p fun q =>
          { q with spdm := 2, spdmVca := q.spdmVca ++ r.take 20 ++ a, spdmCert := [], spdmMeas := [] }).spdmAnswer p a)) ∧
  (∀ (d : Device) (p : Fin 2) (r a : List Byte), SpdmServed d p 0xE3 0x12 r → 2 ≤ (d.ports[p]).spdm →
    a = [0x12, 0x63, 0, 0] ++ leBytes 2 36 ++ leBytes 1 (leAt r 6 1 % 2) ++ [0] ++ leBytes 4 4 ++ leBytes 4 (Nat.land (leAt r 8 4) 0x80) ++
      leBytes 4 (Nat.land (leAt r 12 4) 2) ++ List.replicate 16 0 →
    Acts (.negotiateAlgorithms p) d
      ((d.modPort p fun q => { q with spdm := 3, spdmVca := q.spdmVca ++ r.take (leAt r 4 2) ++ a, spdmCert := [], spdmMeas := [] }).spdmAnswer
        p a)) ∧
  -- GET_DIGESTS and GET_CERTIFICATE of slot 0
  (∀ (d : Device) (p : Fin 2) (r a : List Byte), SpdmServed d p 0x81 0x12 r → 3 ≤ (d.ports[p]).spdm → d.hasIdk = true →
    a = [0x12, 0x01, 0, 1] ++ chainHash →
    Acts (.getDigests p) d ((d.modPort p fun q => { q with spdmCert := q.spdmCert ++ r.take 4 ++ a, spdmMeas := [] }).spdmAnswer p a)) ∧
  (∀ (d : Device) (p : Fin 2) (r a : List Byte) (o n : Nat), SpdmServed d p 0x82 0x12 r → 3 ≤ (d.ports[p]).spdm → d.hasIdk = true →
    leAt r 2 1 % 16 = 0 → o = leAt r 4 2 →
    n = min (min (leAt r 6 2) 4080) (Config.certChain.length - o) →
    a = [0x12, 0x02, 0, 0] ++ leBytes 2 n ++ leBytes 2 (Config.certChain.length - o - n) ++ (Config.certChain.drop o).take n →
    Acts (.getCertificate p) d
      (if o < Config.certChain.length then
        (d.modPort p fun q => { q with spdmCert := q.spdmCert ++ r.take 8 ++ a, spdmMeas := [] }).spdmAnswer p a
      else d.spdmAnswer p [0x12, 0x7F, 1, 0])) ∧
  -- CHALLENGE with no measurement summary: the answer is signed over the whole transcript, which then starts anew
  (∀ (d : Device) (p : Fin 2) (r a nonce sig : List Byte) (e f : Device), SpdmServed d p 0x83 0x12 r → 3 ≤ (d.ports[p]).spdm →
    d.hasIdk = true → leAt r 2 1 = 0 → leAt r 3 1 = 0 → d.drbg 32 = (nonce, e) →
    a = [0x12, 0x03, 0, 1] ++ chainHash ++ nonce ++ [] ++ [0, 0] →
    e.spdmSign "responder-challenge_auth signing" ((e.ports[p]).spdmVca ++ (e.ports[p]).spdmCert ++ r.take 36 ++ a) = (sig, f) →
    Acts (.challenge p) d
      ((f.spdmState p (e.ports[p]).spdm (e.ports[p]).spdmVca [] []).spdmAnswer p (a ++ sig))) ∧
  -- GET_MEASUREMENTS unsigned, of one index 1 to 20
  (∀ (d : Device) (p : Fin 2) (r a nonce : List Byte) (e : Device) (op : Nat), SpdmServed d p 0xE0 0x12 r → 3 ≤ (d.ports[p]).spdm →
    d.hasIdk = true → bitOf (leAt r 2 1) 0 = false → op = leAt r 3 1 → 1 ≤ op → op ≤ 20 → d.drbg 32 = (nonce, e) →
    a = [0x12, 0x60] ++ leBytes 1 0 ++ [0] ++ leBytes 1 1 ++ leBytes 3 (d.measureBlock op).length ++ d.measureBlock op ++ nonce ++ [0, 0] →
    Acts (.getMeasurements p) d
      ((e.spdmState p (e.ports[p]).spdm (e.ports[p]).spdmVca (e.ports[p]).spdmCert ((e.ports[p]).spdmMeas ++ r.take 4 ++ a)).spdmAnswer p a)) ∧
  -- any other request: ERROR UnsupportedRequest, or Unspecified while the device holds no IDK
  (∀ (d : Device) (p : Fin 2), d.por = false → d.spdmWaits p = true → spdmAccepts (leAt (d.doePayload p) 1 1) = false →
    Acts (.spdmUnsupportedRequest p) d
      (if d.hasIdk = true then d.spdmAnswer p ([0x12, 0x7F, 7] ++ leBytes 1 (leAt (d.doePayload p) 1 1)) else d.spdmAnswer p [0x12, 0x7F, 5, 0])) ∧
  -- a request that comes before its turn: ERROR UnexpectedRequest
  (∀ (d : Device) (p : Fin 2) (r : List Byte), SpdmServed d p 0x81 0x12 r → (d.ports[p]).spdm < 3 → d.hasIdk = true →
    Acts (.getDigests p) d (d.spdmAnswer p [0x12, 0x7F, 4, 0]))

/-- The DMA channels (R531, R532, R534, R536, R538, R550). Choices of the model: assumption log 8 and 48. -/
def Obligations.DmaChannels : Prop :=
  -- a write of DMA_TAIL takes the value modulo the ring size
  (∀ (d : Device) (n : Fin 16) (data : Word), d.por = false → ((d.members n).any fun m => (d.slot m).power == .retain) = false →
    Acts (.dmaTailWrite n data) d (d.setFld (Fld.dmaTailTail n) (data.toNat % 2 ^ 12 % d.ringEntries n))) ∧
  -- an active channel reads the descriptor at HEAD
  (∀ (d e : Device) (n : Fin 16) (data : List Byte) (p : Fin 2) (v : Nat), d.por = false → (d.slot n).chan.stage = 0 →
    d.dmaActive n = true → d.dmaMayIssue n = true → d.dmaWaits n n = false → d.chanVf n = some (p, v) →
    e = ((d.emit (.hostRead p v (d.descAddr n) 32)).setFlag (Fld.dmaStatusBusy n) true).modSlot n
      (fun s => { s with chan := ⟨2, padTo 32 data, 0, 0, []⟩ }) →
    Acts (.dmaDescriptorFetch n 0 data) d
      (if e.descCode n ⟨2, padTo 32 data, 0, 0, []⟩ = 0 then e else e.dmaFail n (e.descCode n ⟨2, padTo 32 data, 0, 0, []⟩))) ∧
  -- a descriptor read that the host refuses fails with HOST_ERR
  (∀ (d : Device) (n : Fin 16) (data : List Byte) (p : Fin 2) (v status : Nat), d.por = false → (d.slot n).chan.stage = 0 →
    d.dmaActive n = true → d.dmaMayIssue n = true → d.dmaWaits n n = false → d.chanVf n = some (p, v) → status = 1 ∨ status = 4 →
    Acts (.dmaDescriptorFetch n status data) d
      (((d.emit (.hostRead p v (d.descAddr n) 32)).setFlag (Fld.dmaStatusBusy n) true).dmaFail n 0x53)) ∧
  -- a chunk toward the host carries block memory; one from the host asks for it
  (∀ (d e : Device) (n m : Fin 16) (c : DmaChan) (p : Fin 2) (v : Nat), d.por = false → d.chunkReady n = true → c = (d.slot n).chan →
    d.chanVf n = some (p, v) → d.chanSlot n c = some m → d.dmaTargetCode m c = 0 → d.dmaPay n p v (d.chunkLen p c) = some e →
    Acts (.dmaChunk n) d
      (if c.toHost = true then
        -- the read of block memory is a transaction of M8 with the TCID of the channel's VF; one that the matrix denies fails the descriptor
        (if (e.dmaJudge n m (d.chunkLen p c) false).1 = true then
          ((e.dmaJudge n m (d.chunkLen p c) false).2.emit (.hostWrite p v (c.host + c.moved)
            ((e.dmaJudge n m (d.chunkLen p c) false).2.hostBytes m c.mem (c.off + c.moved) (d.chunkLen p c)))).dmaMoved n (d.chunkLen p c)
         else (e.dmaJudge n m (d.chunkLen p c) false).2.dmaDenied n)
       else (e.emit (.hostRead p v (c.host + c.moved) (d.chunkLen p c))).setChan n { c with stage := 3, len := d.chunkLen p c })) ∧
  -- the end of a descriptor: STATUS 0 and COMPL_TURN posted, HEAD advances, and event 14 where IRQ asks for it
  (∀ (d e : Device) (n : Fin 16) (p : Fin 2) (v : Nat), d.por = false → (d.slot n).chan.stage = 4 → d.chanVf n = some (p, v) →
    e = (((((d.emit (.hostWrite p v (d.descAddr n + 0x18) (leBytes 4 (2 ^ 31 + 0) ++ leBytes 4 (d.turnCount % 2 ^ 32)))).setFld
      (Fld.dmaHeadHead n) ((d.dmaHd n + 1) % d.ringEntries n)).setFld (Fld.dmaStatusLastCode n) 0).setFlag (Fld.dmaStatusBusy n) false).modSlot n
        (fun s => { s with chan := ⟨0, [], 0, 0, []⟩ })) →
    Acts (.dmaDescriptorDone n) d (if (d.slot n).chan.irq = true then e.raiseSlot n 14 [] else e)) ∧
  -- RESUME clears HALTED
  (∀ (d : Device) (n : Fin 16), d.por = false → Acts (.dmaResume n) d (d.setFlag (Fld.dmaStatusHalted n) false)) ∧
  -- a completion timeout is logged by the VF, raises port event 8, and fails the descriptor with HOST_ERR
  (∀ (d : Device) (n : Fin 16) (p : Fin 2) (v : Nat), d.por = false → (d.slot n).chan.stage = 3 → d.chanVf n = some (p, v) →
    Acts (.dmaCompletionTimeout n) d (((d.aerUncorrectable p v 14 false none).portEvent p 8 [(v, 5)]).dmaFail n 0x53))

/-- The bus matrix at work (R563, R572, R578, R713, R729). Choices of the model: assumption log 18, 19, 22 and 66. -/
def Obligations.MatrixArbitrationAndLocks : Prop :=
  -- a granted read that passes every step of the judgement leaves its queue and is answered GOOD with its target's data
  (∀ (d f : Device) (k : Fin 8) (s : State) (m : Nat) (tied : Bool) (e : MtxEntry) (data : List Byte), d = (s.mapDev id).dev →
    d.por = false → d.safety.inj = none → s.mtx.waiting = [] → (s.mapDev id).winner k = some (m, tied) → s.mtx.headOf k m = some e →
    m = 6 ∨ m = 7 ∨ m = 8 → e.txn.master.val = m → e.txn.write = false → e.txn.lock = false → e.txn.lockEnd = false →
    e.txn.corrupt = false → (∀ t : Fin 8, s.mtx.locks[t].holder ≠ some m) →
    d.decode e.txn.addr.toNat = some k.val → d.hasPath m k.val false = true →
    d.actGrants k.val m (txnTcid e.txn) e.txn.addr.toNat false = true → d.targetReady k.val e.txn.addr.toNat = true →
    d.targetRead k.val m (txnTcid e.txn) e.txn.addr.toNat e.txn.len e.txn.en = (0, data, f) →
    exec (.matrixGrant k [] 0) s = .next { s with
      mtx := { s.mtx with
        queues := s.mtx.queues.set k (s.mtx.queues[k].erase e)
        tie := if tied then s.mtx.tie.set k m else s.mtx.tie
        park := s.mtx.park.set k (some m) }
      dev := f.emit (.matrix m 0 data) }) ∧
  -- a port with nothing to grant stays as it is
  (∀ (s : State) (k : Fin 8), s.dev.por = false → s.mtx.waiting = [] → (s.mapDev id).winner k = none →
    exec (.matrixGrant k [] 0) s = .next (s.mapDev id)) ∧
  -- a head that has waited 256 cycles becomes aged, and is then arbitrated with priority 16
  (∀ (s : State) (k : Fin 8) (m : Fin 9) (e : MtxEntry), s.dev.por = false → s.mtx.headOf k m.val = some e →
    s.mtx.locks[k].holder = none →
    ∃ t, exec (.arbiterAgeing k m) s = .next t ∧ t.dev = (s.mapDev id).dev ∧ t.evq = s.evq ∧ t.pending = s.pending ∧
      t.mtx.headOf k m.val = some { e with aged := true } ∧ t.priority k m.val = 16 ∧
      ∀ j : Fin 8, j ≠ k → t.mtx.queues[j] = s.mtx.queues[j]) ∧
  -- a lock held for 64 cycles is released by force, counted, and raises event 436
  (∀ (s u : State) (k : Fin 8) (m : Nat), s.dev.por = false → s.mtx.locks[k].holder = some m →
    u = (s.mapDev id).modLock k (fun l => { holder := none, broken := l.broken ++ [m] }) →
    exec (.lockForcedRelease k) s = .next
      { u with dev := (u.dev.incFld Fld.bmxLockForcedCount).raise 436 [(m, 4), (k.val, 3)] } ∧
    u.mtx.locks[k].holder = none ∧ m ∈ u.mtx.locks[k].broken) ∧
  -- MATRIX_ACCESS issues one transaction of JTAG into the queue of the addressed target
  (∀ (s : State) (d : Device) (data : BitVec 80) (k : Nat) (x : Txn), d = (s.mapDev id).dev → d.por = false →
    d.lockBit 0 = false → d.lockBit 2 = false → d.flag Fld.devReadyAon = true → d.jtag.axBusy = false → x = axTxn data →
    s.mtx.waiting = [] → s.mtx.outstanding 5 < 16 → d.decode x.addr.toNat = some k → k < 8 → d.hasPath 5 k x.write = true →
    s.mtx.held 5 (targetFin k) < 4 →
    ∃ t, exec (.matrixAccess data) s = .next t ∧ t.pending = s.pending ∧ t.evq = s.evq ∧
      t.mtx = { s.mtx with queues := s.mtx.queues.set (targetFin k) (s.mtx.queues[targetFin k] ++ [⟨x, false, 0⟩]) } ∧
      t.dev = { (d.emit (.tdo 8 d.captureIr)).emit (.tdo 80 d.captureAx) with
        jtag := { d.jtag with ir := 0x20, axReg := data, axBusy := true, axDone := false, axRead := false, axCode := 0 } }) ∧
  -- the lowest PMP entry that covers an address decides a core's access where it is locked; an unlocked one does not bind machine mode
  (∀ (u : HwdUnit) (i : Fin 16) (a : Nat) (use : PmpUse), u.pmpCovers i a = true → (∀ j < i, u.pmpCovers j a = false) →
    u.pmpAllows a use = (!(u.pmp[i]).lock || (u.pmp[i]).permits use)) ∧
  (∀ (u : HwdUnit) (a : Nat) (use : PmpUse), (∀ i, u.pmpCovers i a = false) → u.pmpAllows a use = true) ∧
  -- a locked entry keeps its configuration and its address
  (∀ (u : HwdUnit) (i : Fin 16) (v : Nat) (w : Word), (u.pmp[i]).lock = true → u.pmpCfgWrite i v = u ∧ u.pmpAddrWrite i w = u) ∧
  -- what the PMP stops never reaches the matrix
  (∀ (s : State) (k : Fin 8) (x : Txn) (fault : Fin 3), s.dev.por = false → s.dev.pmpPasses x = false →
    exec (.matrixGrant k [x] fault) s = exec (.matrixGrant k [] fault) s)


/-- The lane requests of the coherence directory (R606, R613 to R625, R627, R633, R634). The agents are 0 the Scribe engine, 1 the
loader, 2 the D-cache. Choices of the model: assumption log 8 and 49. -/
def Obligations.BenchLineRequests : Prop :=
  -- GETS of a line that no cache holds in M: the array's data, and the agent shares the line
  (∀ (d : Device) (a : Fin 3) (line : BitVec 17) (l : Nat) (long : Bool), d.por = false → d.flag Fld.devReadyBench = true →
    l = line.toNat → (d.benchLine l).busy = false → d.benchBusy < 16 → d.laneWaiting a.val < 8 → (d.benchLine l).owner = none →
    (∀ i < 8, eccDecode (d.benchData (8 * l + i)) (d.benchCheck (8 * l + i)) = .clean) →
    Reaches (.getS a line long) d fun s t => a = 2 ∨ s.mtx.locks[1].holder ≠ some 3 →
      ∃ e, t = { s with dev := e } ∧ e.out = d.out ++ [.resp 0 (d.le (0x10000000 + 64 * l) 64)] ∧ e.mem = d.mem ∧ e.slots = d.slots ∧
        (e.benchLine l).owner = none ∧ bitOf (e.benchLine l).sharers.toNat a.val = true ∧ (e.benchLine l).busy = long ∧
        ∀ k, k ≠ l → e.benchLine k = d.benchLine k) ∧
  -- GETS of a line that a cache holds in M: the owner's copy is written to the array and given; owner and agent share the line
  (∀ (d : Device) (a o : Fin 3) (line : BitVec 17) (l : Nat), d.por = false → d.flag Fld.devReadyBench = true →
    l = line.toNat → (d.benchLine l).busy = false → d.benchBusy < 16 → d.laneWaiting a.val < 8 → (d.benchLine l).owner = some o →
    Reaches (.getS a line false) d fun s t => a = 2 ∨ s.mtx.locks[1].holder ≠ some 3 →
      ∃ e, t = { s with dev := e } ∧ e.out = d.out ++ [.resp 0 (d.benchLine l).data.toNat] ∧
        e.le (0x10000000 + 64 * l) 64 = (d.benchLine l).data.toNat ∧ (e.benchLine l).owner = none ∧
        bitOf (e.benchLine l).sharers.toNat a.val = true ∧ bitOf (e.benchLine l).sharers.toNat o.val = true) ∧
  -- GETM: the data, and the agent alone holds the line
  (∀ (d : Device) (a : Fin 3) (line : BitVec 17) (l : Nat) (long : Bool), d.por = false → d.flag Fld.devReadyBench = true →
    l = line.toNat → (d.benchLine l).busy = false → d.benchBusy < 16 → d.laneWaiting a.val < 8 → (d.benchLine l).owner = none →
    (∀ i < 8, eccDecode (d.benchData (8 * l + i)) (d.benchCheck (8 * l + i)) = .clean) →
    Reaches (.getM a line long) d fun s t => a = 2 ∨ s.mtx.locks[1].holder ≠ some 3 →
      ∃ e, t = { s with dev := e } ∧ e.out = d.out ++ [.resp 0 (d.le (0x10000000 + 64 * l) 64)] ∧ e.mem = d.mem ∧ e.slots = d.slots ∧
        (e.benchLine l).owner = some a ∧ (e.benchLine l).sharers = 0 ∧ (e.benchLine l).busy = long ∧
        ∀ k, k ≠ l → e.benchLine k = d.benchLine k) ∧
  -- an uncorrectable word: TGTERR, and an agent that does not share the line gets nothing
  (∀ (d : Device) (a : Fin 3) (line : BitVec 17) (l i : Nat), d.por = false → d.flag Fld.devReadyBench = true →
    l = line.toNat → (d.benchLine l).busy = false → d.benchBusy < 16 → d.laneWaiting a.val < 8 → (d.benchLine l).owner = none → i < 8 →
    bitOf (d.benchLine l).sharers.toNat a.val = false →
    eccDecode (d.benchData (8 * l + i)) (d.benchCheck (8 * l + i)) = .uncorrectable →
    Reaches (.getM a line false) d fun s t => a = 2 ∨ s.mtx.locks[1].holder ≠ some 3 →
      ∃ e, t = { s with dev := e } ∧ e.out.getLast? = some (.resp 4 0) ∧ (e.benchLine l).owner = none) ∧
  -- PUTM by the owner writes the line back and leaves it I; by another it changes nothing of the array
  (∀ (d : Device) (a : Fin 3) (line : BitVec 17) (l : Nat) (data : BitVec 512), d.por = false → d.flag Fld.devReadyBench = true →
    l = line.toNat → (d.benchLine l).busy = false → d.benchBusy < 16 → d.laneWaiting a.val < 8 →
    Reaches (.putM a line data false) d fun s t => a = 2 ∨ s.mtx.locks[1].holder ≠ some 3 →
      ∃ e, t = { s with dev := e } ∧ e.out = d.out ++ [.resp 0 0] ∧
        ((d.benchLine l).owner = some a → e.le (0x10000000 + 64 * l) 64 = data.toNat ∧ (e.benchLine l).owner = none ∧
          (e.benchLine l).sharers = 0) ∧
        ((d.benchLine l).owner ≠ some a → e.mem = d.mem ∧ e.benchLine l = d.benchLine l)) ∧
  -- WRLINE merges the enabled bytes into the array and leaves the line I; no other byte of memory but the line's check bytes changes
  (∀ (d : Device) (a : Fin 3) (line : BitVec 17) (l : Nat) (en : BitVec 64) (data : BitVec 512), d.por = false →
    d.flag Fld.devReadyBench = true → l = line.toNat → (d.benchLine l).busy = false → d.benchBusy < 16 → d.laneWaiting a.val < 8 → (d.benchLine l).owner = none →
    (∀ i < 8, eccDecode (d.benchData (8 * l + i)) (d.benchCheck (8 * l + i)) = .clean) →
    Reaches (.wrLine a line en data false) d fun s t => a = 2 ∨ s.mtx.locks[1].holder ≠ some 3 →
      ∃ e, t = { s with dev := e } ∧ e.out = d.out ++ [.resp 0 0] ∧ (e.benchLine l).owner = none ∧ (e.benchLine l).sharers = 0 ∧
        (∀ i < 64, e.byte (0x10000000 + 64 * l + i) =
          if en.getLsbD i then data.extractLsb' (8 * i) 8 else d.byte (0x10000000 + 64 * l + i)) ∧
        ∀ k, (k < 0x10000000 + 64 * l ∨ 0x10000000 + 64 * l + 64 ≤ k) → (k < keyBenchCheck (8 * l) ∨ keyBenchCheck (8 * l + 8) ≤ k) →
          e.byte k = d.byte k) ∧
  -- before Bench memory is ready a request gets NOTREADY
  (∀ (d : Device) (a : Fin 3) (line : BitVec 17) (op : Bool → Instr) (long : Bool), d.por = false → d.flag Fld.devReadyBench = false →
    op = Instr.getS a line ∨ op = Instr.getM a line ∨ (∃ data, op = Instr.putM a line data) ∨ (∃ en data, op = Instr.wrLine a line en data) →
    Acts (op long) d (d.emit (.resp 3 0))) ∧
  -- a request for a busy line, or while 16 lines are busy, waits in its source's pending slot; so does a request of the loader or of the
  -- Scribe engine while M3 holds the lock of T1
  (∀ (d : Device) (a : Fin 3) (line : BitVec 17) (l : Nat) (long : Bool), d.por = false → d.flag Fld.devReadyBench = true →
    l = line.toNat → (∀ q ∈ (d.benchLine l).pend, q.src.val ≠ a.val) → d.laneWaiting a.val < 8 →
    ((d.benchLine l).busy = true ∨ 16 ≤ d.benchBusy →
      Acts (.getS a line long) d (d.setBenchLine { d.benchLine l with pend := (d.benchLine l).pend ++ [⟨a.castSucc, d.now, .getS⟩] })) ∧
    Reaches (.getM a line long) d fun s t => a ≠ 2 → s.mtx.locks[1].holder = some 3 →
      t = { s with dev :=
        d.setBenchLine { d.benchLine l with pend := (d.benchLine l).pend ++ [⟨a.castSucc, d.now, .getM⟩] } }) ∧
  -- an agent with 8 requests waiting sends no other
  (∀ (d : Device) (a : Fin 3) (line : BitVec 17) (op : Bool → Instr) (long : Bool), d.por = false → d.flag Fld.devReadyBench = true →
    8 ≤ d.laneWaiting a.val →
    op = Instr.getS a line ∨ op = Instr.getM a line ∨ (∃ data, op = Instr.putM a line data) ∨ (∃ en data, op = Instr.wrLine a line en data) →
    Acts (op long) d d) ∧
  -- a line that ceases to be busy with nothing waiting is free
  (∀ (d : Device) (line : BitVec 17), d.por = false → (d.benchLine line.toNat).pend = [] →
    Acts (.pendingLineService line) d (d.benchSetBusy line.toNat false)) ∧
  -- the request served next is the oldest, and of one cycle PutM before the agents by number
  (∀ (l : List LineReq) (q : LineReq), nextLineReq l = some q →
    q ∈ l ∧ ∀ r ∈ l, q.cycle < r.cycle ∨ (q.cycle = r.cycle ∧ q.rank ≤ r.rank)) ∧
  -- a GETS that waited is served when its line ceases to be busy
  (∀ (d : Device) (a : Fin 3) (line : BitVec 17) (l cycle : Nat), d.por = false → l = line.toNat →
    (d.benchLine l).pend = [⟨a.castSucc, cycle, .getS⟩] → (d.benchLine l).owner = none →
    (∀ i < 8, eccDecode (d.benchData (8 * l + i)) (d.benchCheck (8 * l + i)) = .clean) →
    Reaches (.pendingLineService line) d fun s t => a = 2 ∨ s.mtx.locks[1].holder ≠ some 3 →
      ∃ e, t = { s with dev := e } ∧ e.out = d.out ++ [.resp 0 (d.le (0x10000000 + 64 * l) 64)] ∧ e.mem = d.mem ∧
        (e.benchLine l).busy = false ∧ (e.benchLine l).pend = [] ∧ bitOf (e.benchLine l).sharers.toNat a.val = true)

/-- The patrol, the sleeping banks, the end of zeroing, and the D-cache's write-backs (R604, R605, R608, R610, R615, R627, R638, R730).
Choices of the model: assumption log 8 and 49. -/
def Obligations.BenchPatrolAndCache : Prop :=
  -- the patrol reads the next word and wakes its bank: clean words are left, a correctable one is counted, raises event 440 and is written back unless a
  -- cache holds its line in M, an uncorrectable one is left as stored and raises event 442
  (∀ (d : Device) (w : Nat) (p : Device), d.por = false → d.flag Fld.devReadyBench = true → d.flag Fld.benchPatrolCtlEn = true →
    w = d.bench.patrol →
    p = ({ d with bench := { d.bench with patrol := (w + 1) % 0x100000 } }).setFldBit Fld.benchStatusAwake (8 * w / 0x100000 % 8) true →
    (eccDecode (d.benchData w) (d.benchCheck w) = .clean → Acts .benchPatrol d p) ∧
    (∀ v, eccDecode (d.benchData w) (d.benchCheck w) = .corrected v → Acts .benchPatrol d
      (let q := (p.incFld Fld.benchEccCorrCount).raise 440 [(8 * w, 23)]
       if (d.benchLine (w / 8)).owner = none then q.setBenchWord w v else q)) ∧
    (eccDecode (d.benchData w) (d.benchCheck w) = .uncorrectable → Acts .benchPatrol d
      ((((p.benchLatch w true).incFld Fld.benchEccUncCount).raise 442 [(8 * w, 23)]).signal 11 488 [(1, 4)]))) ∧
  (∀ d : Device, d.por = false → d.flag Fld.devReadyBench = false ∨ d.flag Fld.benchPatrolCtlEn = false → Acts .benchPatrol d d) ∧
  -- an idle bank sleeps where SLEEP_EN says so
  (∀ (d : Device) (b : Fin 8), d.por = false → Acts (.bankSleep b) d
    (if d.fldBit Fld.benchSleepCtlSleepEn b.val = true then d.setFldBit Fld.benchStatusAwake b.val false else d)) ∧
  -- zeroing ends: every byte is 0, every word is clean, every line is I, and Bench memory is ready
  (∀ d : Device, d.por = false → d.flag Fld.benchStatusZeroing = true → d.fldBit Fld.pwrDomStatusOn 18 = true →
    d.flag Fld.secStatusErasing = false →
    ∃ e, Acts .benchZeroingDone d e ∧ e.slots = d.slots ∧ e.hwd = d.hwd ∧ e.latches = d.latches ∧ e.out = d.out ∧
      e.flag Fld.benchStatusZeroing = false ∧ e.flag Fld.benchStatusReady = true ∧ e.flag Fld.devReadyBench = true ∧
      (∀ k, 0x10000000 ≤ k → k < 0x10800000 → e.byte k = 0) ∧
      (∀ w < 0x100000, eccDecode (e.benchData w) (e.benchCheck w) = .clean) ∧
      (∀ l, (e.benchLine l).owner = none ∧ (e.benchLine l).sharers = 0) ∧
      ∀ k, (k < 0x10000000 ∨ 0x10800000 ≤ k) → (k < keyBenchCheck 0 ∨ keyBenchCheck 0x100000 ≤ k) → e.byte k = d.byte k) ∧
  (∀ d : Device, d.por = false → d.flag Fld.benchStatusZeroing = false ∨ d.fldBit Fld.pwrDomStatusOn 18 = false ∨
      d.flag Fld.secStatusErasing = true →
    Acts .benchZeroingDone d d) ∧
  -- a write-back of one line: a line that the D-cache holds in M goes to the array and is dropped, any other is left
  (∀ (d : Device) (addr : Word) (data : BitVec 512) (l : Nat), d.por = false → 0x10000000 ≤ addr.toNat → addr.toNat < 0x10800000 →
    l = (addr.toNat - 0x10000000) / 64 →
    ((d.benchLine l).owner = some 2 → ∃ e, Acts (.dcline addr data) d e ∧ e.slots = d.slots ∧ e.out = d.out ∧
      e.le (0x10000000 + 64 * l) 64 = data.toNat ∧ (e.benchLine l).owner = none ∧ (e.benchLine l).sharers = 0 ∧
      (∀ i < 8, eccDecode (e.benchData (8 * l + i)) (e.benchCheck (8 * l + i)) = .clean) ∧ ∀ k, k ≠ l → e.benchLine k = d.benchLine k) ∧
    ((d.benchLine l).owner ≠ some 2 → Acts (.dcline addr data) d d)) ∧
  (∀ (d : Device) (addr : Word) (data : BitVec 512), d.por = false → addr.toNat < 0x10000000 ∨ 0x10800000 ≤ addr.toNat →
    Acts (.dcline addr data) d d) ∧
  -- a write-back of every line: each line held in M goes to the array with its contents, and none is held in M any more
  (∀ (d : Device) (datas : List (BitVec 512)) (ls : List Nat), d.por = false →
    ls = (d.bench.lines.filter fun x => x.owner == some 2).map (·.line) →
    ∃ e, Acts (.dcall datas) d e ∧ e.slots = d.slots ∧ e.out = d.out ∧ (∀ l, (e.benchLine l).owner ≠ some 2) ∧
      ∀ l < 0x20000, (d.benchLine l).owner = some 2 → e.le (0x10000000 + 64 * l) 64 = ((datas[ls.idxOf l]?).getD 0).toNat)

/-- The boot ROM and command-ready (R734 to R738, R757, R937, R944, R970). Choices of the model: assumption log 3 and 13. -/
def Obligations.BootAndCommandReady : Prop :=
  -- the boot ROM halts at step 1 where the OTP words are not right
  (∀ d : Device, d.por = false → d.warm = false → d.hwd.boot = 1 → d.safety.test ≠ 2 → d.flag Fld.secStatusOtpOk = false →
    ∃ e, Acts .boot d e ∧ e.hwd = { d.hwd with boot := 3 } ∧ e.flag Fld.hwdStatusBootFail = true ∧ e.evtStatus 457 = true ∧
      e.mem = d.mem ∧ e.slots = d.slots) ∧
  -- with Grain channel D and the resident store ready it runs the preferred copy where that is right, else the other, with FALLBACK
  -- and event 453, else it halts at step 4
  (∀ (d m r r' : Device) (pref : Nat) (a b : FwAccess), d.por = false → d.warm = false → d.hwd.boot = 1 → d.safety.test ≠ 2 →
    d.flag Fld.secStatusOtpOk = true → d.flag Fld.devReadyAon = true → d.flag Fld.devReadyGrainD = true →
    d.flag Fld.devReadyResident = true → m = d.findHead →
    pref = (match m.recordRead 0x0002 with | some (_, p) => leAt p 0 1 % 2 | none => 0) →
    m.readCopy (pref * 0x1000000) 0x1000000 = (a, r) → r.readCopy ((1 - pref) * 0x1000000) 0x1000000 = (b, r') →
    ∃ e, Acts .boot d e ∧ e.slots = d.slots ∧
      (if a.code = 0 ∧ r.copyCode a.data = 0 then
        e.hwd.boot = 2 ∧ e.fld Fld.hwdStatusBootCopy = pref ∧ e.fld Fld.hwdFwVersionVersion = leAt a.data 4 4 ∧
        e.fld Fld.hwdSvnSvn = leAt a.data 8 4 ∧ e.flag Fld.hwdStatusFallback = r.flag Fld.hwdStatusFallback
      else if b.code = 0 ∧ r'.copyCode b.data = 0 then
        e.hwd.boot = 2 ∧ e.fld Fld.hwdStatusBootCopy = 1 - pref ∧ e.fld Fld.hwdFwVersionVersion = leAt b.data 4 4 ∧
        e.fld Fld.hwdSvnSvn = leAt b.data 8 4 ∧ e.flag Fld.hwdStatusFallback = true ∧ e.evtStatus 453 = true
      else e.hwd.boot = 3 ∧ e.flag Fld.hwdStatusBootFail = true ∧ e.evtStatus 457 = true)) ∧
  -- until those are ready it waits, and once it has ended it does nothing
  (∀ d : Device, d.por = false → d.warm = true ∨ d.hwd.boot ≠ 1 ∨ d.safety.test = 2 ∨
      (d.flag Fld.secStatusOtpOk = true ∧ (d.flag Fld.devReadyAon = false ∨ d.flag Fld.devReadyGrainD = false ∨
        d.flag Fld.devReadyResident = false)) → Acts .boot d d) ∧
  -- command-ready: CMD_READY and DEV_READY say so with event 452, SAFE_N may be released, and the access control tables are restored
  (∀ d : Device, d.por = false → d.warm = false → d.hwd.boot = 2 → d.flag Fld.hwdStatusCmdReady = false →
    ∃ e, Acts .commandReady d e ∧ e.flag Fld.hwdStatusCmdReady = true ∧ e.flag Fld.devReadyHwd = true ∧ e.evtStatus 452 = true ∧
      e.flag Fld.bmxCtlActRestored = true ∧
      (d.fld Fld.hwdSvnSvn ≤ d.rollback → d.recordRead 0x0210 = none → e.slots = d.slots) ∧ (d.fld Fld.devStrapBootSel = 0 → e.flag Fld.devReadyAutoload = true) ∧
      (d.flag Fld.safeStatusSelftestDone = true → d.fldBit Fld.safeActiveActive 14 = false → d.fldBit Fld.safeActiveActive 12 = false →
        e.flag Fld.safeStatusArmed = true)) ∧
  -- where nothing is recorded, the default grants of T1, T2 and T6 are installed, and event 454 says so
  (∀ d : Device, d.por = false → d.warm = false → d.hwd.boot = 2 → d.flag Fld.hwdStatusCmdReady = false →
    d.fld Fld.hwdSvnSvn ≤ d.rollback → (∀ n, (d.slot n).binding = none) → (∀ t < 8, d.actRecorded t = none) →
    ∃ e, Acts .commandReady d e ∧ e.evtStatus 454 = true ∧ e.flag Fld.hwdStatusDefaultGrants = true ∧
      (∀ x ∈ [(1, 0x007FF000), (2, 0x0011F000), (6, 0x00FFF000)], e.rd (Reg.actRgnBase x.1 0) = 1 ∧
        e.rd (Reg.actRgnLimit x.1 0) = x.2 ∧ e.rd (Reg.actEntKey x.1 2) = 0x80010000 ∧ e.rd (Reg.actEntPerm x.1 2) = 0x00010001 ∧
        e.rd (Reg.actEntKey x.1 3) = 0x80020020 ∧ e.rd (Reg.actEntPerm x.1 3) = 0x00010001) ∧
      ∀ t ∈ [1, 6], e.rd (Reg.actEntKey t 4) = 0x8010003D ∧ e.rd (Reg.actEntPerm t 4) = 0x00010001) ∧
  (∀ d : Device, d.por = false → d.warm = true ∨ d.hwd.boot ≠ 2 ∨ d.flag Fld.hwdStatusCmdReady = true → Acts .commandReady d d)

/-- Autoload from the resident store (R944 to R949). Choices of the model: assumption log 15 and 16. -/
def Obligations.Autoload : Prop :=
  -- it runs only by command-ready firmware, after ACT_RESTORED, where BOOT_SEL asks for it, after a boot of the power-on class, and once
  (∀ d : Device, d.por = false → d.fwRuns = false ∨ d.flag Fld.bmxCtlActRestored = false ∨ d.fld Fld.devStrapBootSel = 0 ∨
      5 ≤ d.fld Fld.devBootCauseCause ∨ d.flag Fld.devAutoloadDone = true → Acts .autoload d d) ∧
  -- a directory in a TORN sector is bad, and nothing is loaded
  (∀ (d : Device) (a : Nat), d.por = false → d.fwRuns = true → d.flag Fld.bmxCtlActRestored = true → d.fld Fld.devStrapBootSel ≠ 0 →
    d.fld Fld.devBootCauseCause < 5 → d.flag Fld.devAutoloadDone = false → d.hwd.auto = none →
    a = (if d.fld Fld.devStrapBootSel = 3 then 0x01FF0000 else 0x00FF0000) → d.torn (a / 0x10000) = true →
    ∃ e, Acts .autoload d e ∧ e.flag Fld.devAutoloadDirBad = true ∧ e.flag Fld.devAutoloadRunning = false ∧
      e.flag Fld.devAutoloadDone = true ∧ e.flag Fld.devReadyAutoload = true ∧ e.slots = d.slots ∧ e.mem = d.mem) ∧
  -- a directory that breaks a rule of R946 is bad too
  (∀ (d r r' : Device) (a x y : Nat) (h es : List Byte), d.por = false → d.fwRuns = true → d.flag Fld.bmxCtlActRestored = true →
    d.fld Fld.devStrapBootSel ≠ 0 → d.fld Fld.devBootCauseCause < 5 → d.flag Fld.devAutoloadDone = false → d.hwd.auto = none →
    a = (if d.fld Fld.devStrapBootSel = 3 then 0x01FF0000 else 0x00FF0000) → d.torn (a / 0x10000) = false →
    (d.setFlag Fld.devAutoloadRunning true).fwRead a 64 = (⟨0, x, h⟩, r) →
    r.fwRead (a + 64) (64 * min 16 (leAt h 5 1)) = (⟨0, y, es⟩, r') → autoValid h es = false →
    ∃ e, Acts .autoload d e ∧ e.flag Fld.devAutoloadDirBad = true ∧ e.flag Fld.devAutoloadDone = true ∧ e.slots = d.slots) ∧
  -- a directory of no entries under BOOT_SEL 1 ends at once; under 2 and 3 the turn settings are written and RUN is set first
  (∀ (d r r' : Device) (a x y : Nat) (h es : List Byte), d.por = false → d.fwRuns = true → d.flag Fld.bmxCtlActRestored = true →
    d.fld Fld.devStrapBootSel ≠ 0 → d.fld Fld.devBootCauseCause < 5 → d.flag Fld.devAutoloadDone = false → d.hwd.auto = none →
    a = (if d.fld Fld.devStrapBootSel = 3 then 0x01FF0000 else 0x00FF0000) → d.torn (a / 0x10000) = false →
    (d.setFlag Fld.devAutoloadRunning true).fwRead a 64 = (⟨0, x, h⟩, r) → leAt h 5 1 = 0 →
    r.fwRead (a + 64) 0 = (⟨0, y, es⟩, r') → autoValid h es = true →
    ∃ e, Acts .autoload d e ∧ e.flag Fld.devAutoloadDone = true ∧ e.flag Fld.devAutoloadRunning = false ∧ e.fld Fld.devAutoloadCount = 0 ∧
      e.slots = d.slots ∧ (d.fld Fld.devStrapBootSel ≠ 1 → e.flag Fld.turnCtlRun = true ∧ e.rd Reg.turnOvrPolicy = leAt h 0x0C 4 ∧
        e.fld Fld.turnCtlSrc = leAt h 6 1 % 4)) ∧
  -- an entry for one slot binds it and places its load job; an entry that is not right fails with its code, and the next is taken
  (∀ (d r r' : Device) (a x y v : Nat) (p : Fin 2) (n : Fin 16) (h en : List Byte), d.por = false → d.fwRuns = true →
    d.flag Fld.bmxCtlActRestored = true → d.fld Fld.devStrapBootSel = 1 → d.fld Fld.devBootCauseCause < 5 →
    d.flag Fld.devAutoloadDone = false → d.hwd.auto = none → d.torn 0xFF = false → a = 0x00FF0000 →
    (d.setFlag Fld.devAutoloadRunning true).fwRead a 64 = (⟨0, x, h⟩, r) → leAt h 5 1 = 1 →
    r.fwRead (a + 64) 64 = (⟨0, y, en⟩, r') → autoValid h en = true → r'.fld Fld.ldrJqStatusDepth < 16 →
    (3 < leAt en 0 1 → ∃ e, Acts .autoload d e ∧ e.flag Fld.devAutoloadDone = true ∧ e.fldBit Fld.devAutoloadFailed 0 = true ∧
      e.fld (Fld.devAutoloadErrCode 0 0) = 0x81 ∧ e.slots = d.slots) ∧
    (leAt en 0 1 = 0 → leAt en 1 1 = n.val → leAt en 2 1 = p.val → leAt en 3 1 = v → 1 ≤ v → v ≤ 16 → (d.slot n).gkind = 0 →
      (d.slot n).gmember = 0 → (d.slot n).st = .empty → (d.slot n).binding = none → (d.slot n).pend5 = none →
      bitOf (r'.rd (Reg.slcFault n)) faultSweep = false → (∀ m, (d.slot m).binding ≠ some (p, v)) →
      ∃ (e : Device) (j : AutoJob), Acts .autoload d e ∧ (e.slot n).st = .bound ∧ (e.slot n).binding = some (p, v) ∧
        (∀ m, m ≠ n → e.slot m = d.slot m) ∧ e.flag Fld.devAutoloadRunning = true ∧ e.flag Fld.devAutoloadDone = false ∧
        e.fld Fld.devAutoloadCount = 1 ∧ e.hwd.auto = some j ∧ j.loading = some 0 ∧ j.next = 1 ∧
        e.fld Fld.ldrJqStatusDepth = r'.fld Fld.ldrJqStatusDepth + 1))
/-- The STORE and RECALL commands (R644, R645, R647, R649, R675). Choices of the model: assumption log 8 and 42. -/
def Obligations.GrainStoreAndRecall : Prop :=
  -- STORE_CMD starts a STORE into the bank other than the newest
  (∀ (d : Device) (data : Word) (b : Nat), d.por = false → bitOf data.toNat 0 = true → d.grain.store = none →
    d.flag Fld.grnStatusArmed = true → d.newestBank = some b →
    Acts (.storeCmd data) d
      { ((d.writeHeader (1 - b) (d.bankSsn b + 1) 1 1 0 (d.rd Reg.turnCountLo)).setFlag Fld.grnStatusStoreBusy true) with
        grain := { d.grain with store := some ⟨1 - b, d.bankSsn b + 1, 1⟩ } }) ∧
  -- with no readable bank it starts SSN 1 in bank 0
  (∀ (d : Device) (data : Word), d.por = false → bitOf data.toNat 0 = true → d.grain.store = none →
    d.flag Fld.grnStatusArmed = true → d.newestBank = none →
    Acts (.storeCmd data) d
      { ((d.writeHeader 0 1 1 1 0 (d.rd Reg.turnCountLo)).setFlag Fld.grnStatusStoreBusy true) with
        grain := { d.grain with store := some ⟨0, 1, 1⟩ } }) ∧
  -- not armed: event 423 alone
  (∀ (d : Device) (data : Word), d.por = false → bitOf data.toNat 0 = true → d.grain.store = none →
    d.flag Fld.grnStatusArmed = false → Acts (.storeCmd data) d (d.raise 423 [])) ∧
  -- during a STORE the request is satisfied by it
  (∀ (d : Device) (data : Word), d.por = false → d.grain.store.isSome = true → Acts (.storeCmd data) d d) ∧
  -- STORE_DONE copies channel S, closes the header, and reports event 416
  (∀ (d : Device) (j : StoreJob), d.por = false → d.grain.store = some j → d.grain.waiters = [] → d.power.grainOff ≠ 2 →
    d.power.hib = none →
    let m := d.copyMem (grainBase 0) (keyShadow j.bank) 0x40000
    let w := m.writeHeader j.bank j.ssn 2 j.cause (crc32c (m.bytes (keyShadow j.bank) 0x40000)) (leAt (d.bankHeader j.bank) 16 4)
    ∃ e, Acts .storeDone d e ∧
      e = { (((w.wr Reg.grnSSsn j.ssn).setFld Fld.grnStatusLastCause (min 3 j.cause)).setFlag Fld.grnStatusStoreBusy false).raise 416
              [(j.cause, 4), (j.ssn, 32)] with
            grain := { d.grain with store := none, waiters := [], pfStored := d.grain.pfStored || d.grain.pfail } }) ∧
  -- STORE_ARMED_TIMEOUT while a power-off of the GRAIN domain waits
  (∀ d : Device, d.por = false → d.flag Fld.grnStatusArmed = false → d.power.hib = none → d.power.grainOff = 1 →
    Acts .storeArmedTimeout d
      (({ d with power := { d.power with grainOff := 0 } }.setFldBit Fld.pwrDomCtlOff 3 false).raise 423 [])) ∧
  -- RECALL_DONE from a valid newest bank: the outcome, the SSN that the bank's header holds, and ready; only memory changes beside
  (∀ (d : Device) (b : Nat), d.por = false → d.fldBit Fld.pwrDomStatusOn 19 = true → d.flag Fld.grnStatusSReady = false →
    d.newestBank = some b → d.bankValid b = true →
    ∃ m : Device, m = { d with mem := m.mem } ∧
      Acts .recallDone d
        (((((m.setFld Fld.grnStatusRecallBank b).wr Reg.grnSSsn (m.bankSsn b)).setFlag Fld.grnStatusSReady true).setFlag
          Fld.devReadyGrainS true).raise 417 [(0, 4), (m.bankSsn b, 32)])) ∧
  -- RECALL_DONE with no readable bank: channel S reads zeros, RECALL_NONE, and ready
  (∀ d : Device, d.por = false → d.fldBit Fld.pwrDomStatusOn 19 = true → d.flag Fld.grnStatusSReady = false → d.newestBank = none →
    Acts .recallDone d
      (((((((d.clearMem (grainBase 0) 0x40000).clearMem (grainCheckKey 0 0) 0x8000).setFld Fld.grnStatusRecallBank 0).wr Reg.grnSSsn
        0).setFlag Fld.grnStatusRecallNone true).setFlag Fld.grnStatusSReady true).setFlag Fld.devReadyGrainS true |>.raise 417
          [(3, 4), (0, 32)]))

/-- The page buffer's write, its end, and the patrol of the Grain store (R653 to R658). Choices of the model: assumption log 3 and 42. -/
def Obligations.GrainPagesAndPatrol : Prop :=
  -- an accepted page write takes the bytes of the page buffer
  (∀ (d e : Device) (tcid : Fin 64) (data : Word) (len off ch : Nat), d.por = false → bitOf data.toNat 31 = true →
    len = bitsOf data.toNat 19 7 → off = bitsOf data.toNat 0 18 → ch = bitsOf data.toNat 18 1 →
    d.grain.page = none → 0 < len → len ≤ 64 → off + len ≤ grainSize ch → (ch = 1 → off % 64 + len ≤ 64) →
    d.judgeSpan (masterOfTcid tcid.val) tcid.val 2 (grainBase ch + off) len true = (true, e) → e.grain.page = none →
    e.grainJudge tcid.val ch off len true = (true, e) →
    (ch = 0 → e.flag Fld.grnStatusSReady = true ∧ e.grainPfBlocked = false) →
    Acts (.pageWrite tcid data) d
      { (e.setFlag Fld.grnStatusPgwrBusy true) with
        grain := { e.grain with
          page := some ⟨tcid.val, ch, off, ((List.range 16).flatMap fun k => leBytes 4 (e.rd (Reg.grnPgbuf k))).take len⟩ } }) ∧
  -- a further GO while a page write is in progress is ignored with code 0x6A
  (∀ (d : Device) (tcid : Fin 64) (data : Word), d.por = false → bitOf data.toNat 31 = true → d.grain.page.isSome = true →
    Acts (.pageWrite tcid data) d (d.wr Reg.grnPgwrResult 0x6A)) ∧
  -- the end of a page write stores its bytes
  (∀ (d e : Device) (j : PageJob) (ok : Bool), d.por = false → d.grain.page = some j → (j.ch = 0 → d.grain.store = none) →
    d.grainWrite j.ch j.off (List.replicate j.data.length true) j.data = (ok, e) →
    Acts .pageWriteDone d
      ({ (e.setFlag Fld.grnStatusPgwrBusy false) with grain := { e.grain with page := none } }.wr Reg.grnPgwrResult
        (if ok then 0 else 0x6C))) ∧
  -- the patrol reads the next group and leaves a clean one as it is
  (∀ (d : Device) (k ch g : Nat), d.por = false → d.fldBit Fld.pwrDomStatusOn 19 = true → d.flag Fld.grnPatrolCtlEn = true →
    k = d.grain.patrol → (k < 0x8000 ∧ ch = 0 ∧ g = k ∧ d.flag Fld.grnStatusSReady = true ∨ 0x8000 ≤ k ∧ ch = 1 ∧ g = k - 0x8000) →
    eccDecode (d.grainData ch g) (d.grainCheck ch g) = .clean →
    Acts .grainPatrol d { d with grain := { d.grain with patrol := (k + 1) % 0xC000 } }) ∧
  -- it writes a correctable group back, counts it and raises event 418
  (∀ (d : Device) (k ch g v : Nat), d.por = false → d.fldBit Fld.pwrDomStatusOn 19 = true → d.flag Fld.grnPatrolCtlEn = true →
    k = d.grain.patrol → (k < 0x8000 ∧ ch = 0 ∧ g = k ∧ d.flag Fld.grnStatusSReady = true ∨ 0x8000 ≤ k ∧ ch = 1 ∧ g = k - 0x8000) →
    eccDecode (d.grainData ch g) (d.grainCheck ch g) = .corrected v →
    Acts .grainPatrol d
      (((({ d with grain := { d.grain with patrol := (k + 1) % 0xC000 } }.incFld Fld.grnEccCorrCount).raise 418
        [(ch * 0x100000 + 8 * g, 23)]).setGroup ch g v)))

/-- Unlocks and passwords of the Grain regions (R660, R661, R662, R663). Choices of the model: assumption log 8 and 42. -/
def Obligations.GrainUnlocksAndPasswords : Prop :=
  -- a candidate that equals the password: granted to that TCID alone, result 0x00, failure count 0
  (∀ (d : Device) (tcid : Fin 64) (ch : Fin 2) (region : Fin 8) (write : Bool), d.por = false →
    d.fldBit Fld.grnUnlockFailLockout (8 * ch.val + region.val) = false →
    d.rd (perTcid tcid.val Reg.grnUnlockLo) + 2 ^ 32 * d.rd (perTcid tcid.val Reg.grnUnlockHi) = d.password ch.val region.val write →
    d.unlocked tcid.val ch.val region.val write = false →
    Acts (.grnUnlock tcid ch region write) d
      ({ d with grain := { d.grain with
          unlocks := d.grain.unlocks ++ [Unlock.mk tcid.val ch.val region.val write]
          fails := d.grain.fails.set! (8 * ch.val + region.val) 0 } }.wr (perTcid tcid.val Reg.grnOpResult) 0)) ∧
  -- any other candidate below the lockout: result 0x66, the failure count increments, event 421
  (∀ (d : Device) (tcid : Fin 64) (ch : Fin 2) (region : Fin 8) (write : Bool) (n : Nat), d.por = false →
    d.fldBit Fld.grnUnlockFailLockout (8 * ch.val + region.val) = false →
    d.rd (perTcid tcid.val Reg.grnUnlockLo) + 2 ^ 32 * d.rd (perTcid tcid.val Reg.grnUnlockHi) ≠ d.password ch.val region.val write →
    d.grain.fails[8 * ch.val + region.val]? = some n → n + 1 < 8 →
    Acts (.grnUnlock tcid ch region write) d
      (({ d with grain := { d.grain with fails := d.grain.fails.set! (8 * ch.val + region.val) (n + 1) } }.wr
        (perTcid tcid.val Reg.grnOpResult) 0x66).raise 421 [(tcid.val, 6), (ch.val, 1), (region.val, 3)])) ∧
  -- a region in lockout: result 0x67 and event 421, whatever the candidate
  (∀ (d : Device) (tcid : Fin 64) (ch : Fin 2) (region : Fin 8) (write : Bool), d.por = false →
    d.fldBit Fld.grnUnlockFailLockout (8 * ch.val + region.val) = true →
    Acts (.grnUnlock tcid ch region write) d
      ((d.wr (perTcid tcid.val Reg.grnOpResult) 0x67).raise 421 [(tcid.val, 6), (ch.val, 1), (region.val, 3)])) ∧
  -- RELOCK ends the one unlock it names, RELOCK_ALL every unlock of the TCID
  (∀ (d : Device) (tcid : Fin 64) (ch : Fin 2) (region : Fin 8) (write : Bool), d.por = false →
    Acts (.relock tcid ch region write) d
      ({ d with grain := { d.grain with
          unlocks := d.grain.unlocks.filter fun u => !(u == Unlock.mk tcid.val ch.val region.val write) } }.wr
        (perTcid tcid.val Reg.grnOpResult) 0)) ∧
  (∀ (d : Device) (tcid : Fin 64), d.por = false →
    Acts (.relockAll tcid) d
      ({ d with grain := { d.grain with unlocks := d.grain.unlocks.filter fun u => !(u.tcid == tcid.val) } }.wr
        (perTcid tcid.val Reg.grnOpResult) 0)) ∧
  -- a timeout ends the unlock, unless the timeout is disabled
  (∀ (d : Device) (tcid : Fin 64) (ch : Fin 2) (region : Fin 8) (write : Bool), d.por = false →
    Acts (.unlockTimeout tcid ch region write) d
      (if d.fld Fld.grnUnlockTimeoutMs = 0 then d
       else { d with grain := { d.grain with
          unlocks := d.grain.unlocks.filter fun u => !(u == Unlock.mk tcid.val ch.val region.val write) } })) ∧
  -- a password is set only by a holder of a write unlock, or while the write password is 0; otherwise 0x68
  (∀ (d : Device) (tcid : Fin 64) (ch : Fin 2) (region : Fin 8) (write : Bool), d.por = false →
    Acts (.pwSet tcid ch region write) d
      (if d.unlocked tcid.val ch.val region.val true = true ∨ d.password ch.val region.val true = 0 then
        (d.setLe (keyPassword + 16 * (8 * ch.val + region.val) + 8 * natOf write) 8
          (d.rd (perTcid tcid.val Reg.grnPwLo) + 2 ^ 32 * d.rd (perTcid tcid.val Reg.grnPwHi))).wr
            (perTcid tcid.val Reg.grnOpResult) 0
       else d.wr (perTcid tcid.val Reg.grnOpResult) 0x68))

/-- The controller of the resident store (R690 to R698, R702, R710). Choices of the model: assumption log 3, 8 and 43. -/
def Obligations.ResidentStoreController : Prop :=
  -- PROGRAM of the bound page starts, takes the buffer and empties it
  (∀ (d : Device) (page : Nat), d.por = false → d.resident.job = none → d.flag Fld.resStatusIscMode = false →
    d.flag Fld.resBufValid = true → page = d.fld Fld.resBufPage → d.resProtected (page / 256) = false → d.torn (page / 256) = false →
    ((d.resident.page.zip (d.bytes (256 * page) 256)).any fun x => x.1 &&& x.2 != x.1) = false →
    Acts .program d
      ((d.wr Reg.resStatus (page / 256 * 128 + d.fld Fld.resStatusIscMode * 64 + 8 + page / 256 / 256 * 4 + 2 +
          d.fld Fld.resStatusReady)).wr Reg.resBuf 0 |> fun e =>
        { e with resident := { d.resident with job := some ⟨1, false, page, d.resident.page, d.now⟩, page := [] } })) ∧
  -- a PROGRAM that would need a bit to rise is refused with 0x74 and nothing is programmed
  (∀ (d : Device) (page : Nat), d.por = false → d.resident.job = none → d.flag Fld.resStatusIscMode = false →
    d.flag Fld.resBufValid = true → page = d.fld Fld.resBufPage → d.resProtected (page / 256) = false → d.torn (page / 256) = false →
    ((d.resident.page.zip (d.bytes (256 * page) 256)).any fun x => x.1 &&& x.2 != x.1) = true →
    Acts .program d (d.resResult 1 0x74 false 0)) ∧
  -- ERASE marks the sector's entry OPEN before it starts
  (∀ (d : Device) (s : Fin 512) (st count : Nat), d.por = false → d.resident.job = none → d.flag Fld.resStatusIscMode = false →
    d.resProtected s.val = false → d.flag Fld.grnStatusDReady = true → d.sectorEntry s.val = some (st, count) →
    Acts (.erase s) d ((d.setSector s.val 0xA5 count).resStart ⟨2, false, s.val, [], d.now⟩)) ∧
  -- an operation in progress refuses either with 0x70
  (∀ d : Device, d.por = false → d.resident.job.isSome = true →
    Acts .program d (d.resResult 1 0x70 false 0) ∧ ∀ s : Fin 512, Acts (.erase s) d (d.resResult 2 0x70 false 0)) ∧
  -- BUF_CLEAR empties the buffer; ISC mode refuses it
  (∀ d : Device, d.por = false →
    (d.flag Fld.resStatusIscMode = false → Acts .bufClear d { d.wr Reg.resBuf 0 with resident := { d.resident with page := [] } }) ∧
    (d.flag Fld.resStatusIscMode = true → Acts .bufClear d (d.resResult 3 0x79 false 0))) ∧
  -- where no firmware command or HIBERNATE waits: a verified program leaves the bitwise and of buffer and array in the page
  (∀ (d : Device) (j : ResJob), d.por = false → d.resident.job = some j → j.op = 1 → d.flag Fld.resStatusSuspended = false →
    d.hwd.cmds = [] → d.power.hib = none →
    Acts (.programDone true) d
      (((d.setBytes (256 * j.unit_) ((j.data.zip (d.bytes (256 * j.unit_) 256)).map fun x => x.1 &&& x.2)).resIdle).resResult 1 0 j.isc
        (d.elapsedUs j.start))) ∧
  -- a verified erase leaves the sector erased and its entry CLOSED with its count raised; a failed one leaves it TORN with 0x77
  (∀ (d : Device) (j : ResJob), d.por = false → d.resident.job = some j → j.op = 2 → d.flag Fld.resStatusSuspended = false →
    d.hwd.cmds = [] → d.power.hib = none →
    (∃ (m : Device) (count : Nat), (count, m) = (d.clearMem (0x10000 * j.unit_) 0x10000).eraseCount j.unit_ ∧
      (∀ st c, (d.clearMem (0x10000 * j.unit_) 0x10000).sectorEntry j.unit_ = some (st, c) → count = c) ∧
      Acts (.eraseDone true) d
        ((((m.setSector j.unit_ 0x5A (satInc 0xFFFFFF count)).setTorn j.unit_ false).resIdle).resResult 2 0 j.isc
          (d.elapsedUs j.start))) ∧
    Acts (.eraseDone false) d (((d.setTorn j.unit_ true).resIdle).resResult 2 0x77 j.isc (d.elapsedUs j.start))) ∧
  -- SUSPEND and RESUME
  (∀ d : Device, d.por = false → d.resident.job.isSome = true → d.flag Fld.resStatusSuspended = false →
    Acts .suspend d ((d.setFlag Fld.resStatusSuspended true).incFld Fld.resSuspCountCount)) ∧
  (∀ d : Device, d.por = false → Acts .resume d (d.setFlag Fld.resStatusSuspended false)) ∧
  -- TORN_SCAN with no OPEN entry
  (∀ d : Device, d.por = false → d.fldBit Fld.pwrDomStatusOn 20 = true → d.flag Fld.grnStatusDReady = true →
    d.flag Fld.resStatusReady = false → (∀ s < 512, d.sectorOpen s = false) →
    Acts .tornScan d
      (((iter 16 (fun i d => d.wr (Reg.resTornMap i) 0) d).setFlag Fld.resStatusReady true).setFlag Fld.devReadyResident true)) ∧
  -- TORN_SCAN with OPEN entries marks exactly them and raises event 427 with their number
  (∀ (d : Device) (l : List Nat), d.por = false → d.fldBit Fld.pwrDomStatusOn 20 = true → d.flag Fld.grnStatusDReady = true →
    d.flag Fld.resStatusReady = false → l = (List.range 512).filter d.sectorOpen → l ≠ [] →
    Acts .tornScan d
      ((((iter 16 (fun i d => d.wr (Reg.resTornMap i) (ofBits ((List.range 32).map fun k => decide (32 * i + k ∈ l)))) d).raise 427
        [(l.length, 16)]).setFlag Fld.resStatusReady true).setFlag Fld.devReadyResident true))

/-- The boundary-scan instructions of the TAP with no lock bit in force, and its reset (R66, R595, R706 to R708, R714, R721). Choices of the model:
assumption log 29. -/
def Obligations.TapInstructions : Prop :=
  (∀ (d : Device) (levels cells : BitVec 1573), d.por = false → d.lockBit 0 = false →
    -- EXTEST takes the balls: event 429
    Acts (.extest levels cells) d
      (let e := ({ d.emit (.tdo 8 d.captureIr) with jtag := { d.jtag with ir := 0x00 } }.raise 429 []).emit (.tdo 1573 levels.toNat)
       { e with jtag := { d.jtag with ir := 0x00, bscan := cells } }) ∧
    Acts (.samplePreload levels cells) d
      { (d.emit (.tdo 8 d.captureIr)).emit (.tdo 1573 levels.toNat) with jtag := { d.jtag with ir := 0x01, bscan := cells } }) ∧
  (∀ d : Device, d.por = false → d.lockBit 0 = false →
    Acts .highz d (({ d.emit (.tdo 8 d.captureIr) with jtag := { d.jtag with ir := 0x0C } }.raise 429 []).emit (.tdo 1 0)) ∧
    Acts .clamp d (({ d.emit (.tdo 8 d.captureIr) with jtag := { d.jtag with ir := 0x0D } }.raise 429 []).emit (.tdo 1 0)) ∧
    Acts .bypass d ({ d.emit (.tdo 8 d.captureIr) with jtag := { d.jtag with ir := 0xFF } }.emit (.tdo 1 0))) ∧
  -- IDCODE answers under every lock
  (∀ d : Device, d.por = false →
    Acts .idcode d ({ d.emit (.tdo 8 d.captureIr) with jtag := { d.jtag with ir := 0x09 } }.emit (.tdo 32 0x2316C0B5))) ∧
  -- under JTAG_DISABLE every other instruction acts as BYPASS
  (∀ (d : Device) (levels cells : BitVec 1573), d.por = false → d.lockBit 0 = true →
    ∀ i ∈ [Instr.extest levels cells, .samplePreload levels cells, .highz, .clamp, .bypass, .iscEnable, .iscDisable, .iscNoop, .iscProgram,
        .iscErase, .iscRead],
      Acts i d ({ d.emit (.tdo 8 d.captureIr) with jtag := { d.jtag with ir := 0xFF } }.emit (.tdo 1 0))) ∧
  -- while EXTEST or CLAMP is current a ball of a powered bank shows its output cell where the enable cell is 1, whatever its slot does;
  -- under HIGHZ no ball is driven
  (∀ (d : Device) (v : Fin 16 → FabView) (n : Fin 16) (i : Nat), d.bankOn n = true →
    (d.jtag.ir = 0x00 ∨ d.jtag.ir = 0x0D → d.ballDrive v n i =
      if d.jtag.bscan.getLsbD (96 * n.val + 3 * i + 2) then some (d.jtag.bscan.getLsbD (96 * n.val + 3 * i + 1)) else none) ∧
    (d.jtag.ir = 0x0C → d.ballDrive v n i = none)) ∧
  -- TRST_N makes IDCODE current, ends what JTAG has in flight and the lock that it holds, and ends ISC mode once no operation runs
  (∀ s : State, s.dev.por = false →
    ∃ t, exec .trstN s = .next t ∧ t.pending = s.pending ∧ t.evq = s.evq ∧
      t.mtx.queues = (s.mtx.queues.map fun q => q.filter fun e => e.txn.master != 5) ∧
      t.mtx.waiting = s.mtx.waiting.filter (fun e => e.txn.master != 5) ∧ t.mtx.reqs = s.mtx.reqs ∧
      (s.mtx.lockOf 5 = none → t.mtx.locks = s.mtx.locks) ∧
      (∀ k : Fin 8, s.mtx.lockOf 5 = some k → t.mtx.locks = s.mtx.locks.set k { s.mtx.locks[k] with holder := none }) ∧
      t.dev.jtag = { s.dev.jtag with ir := 9, axBusy := false, axDone := false, axRead := false, axCode := 0 } ∧
      (s.dev.resident.job = none → t.dev.flag Fld.resStatusIscMode = false ∧ t.dev.resident.iscWait = none) ∧
      (s.dev.resident.job ≠ none → t.dev.resident = { s.dev.resident with iscWait := some false }) ∧
      t.dev.mem = s.dev.mem ∧ t.dev.slots = s.dev.slots ∧ t.dev.hwd = s.dev.hwd ∧ t.dev.grain = s.dev.grain)

/-- In-system programming through the TAP with JTAG_DISABLE not in force (R709 to R712, R714). Choices of the model: assumption log 29
and 43. -/
def Obligations.IscInstructions : Prop :=
  (∀ (d b : Device), d.por = false → d.lockBit 0 = false →
    (∀ op : Nat, ∀ e : Device, e = { d.emit (.tdo 8 d.captureIr) with jtag := { d.jtag with ir := op } } →
      -- ISC_ENABLE enters ISC mode, and raises event 428 where it was off
      (op = 0x10 → d.lockBit 1 = false → d.resident.job = none → d.flag Fld.resStatusIscMode = false →
        Acts .iscEnable d
          ({ (e.emit (.tdo 1 0)).setFlag Fld.resStatusIscMode true with resident := { d.resident with iscWait := none } }.raise 428 [])) ∧
      -- under ISP_LOCK it changes nothing but the instruction
      (op = 0x10 → d.lockBit 1 = true → Acts .iscEnable d (e.emit (.tdo 1 0))) ∧
      (op = 0x11 → d.resident.job = none →
        Acts .iscDisable d { (e.emit (.tdo 1 0)).setFlag Fld.resStatusIscMode false with resident := { d.resident with iscWait := none } }) ∧
      (op = 0x12 → Acts .iscNoop d (e.emit (.tdo 1 0))) ∧
      (∀ a : BitVec 25, op = 0x13 → Acts (.iscAddressShift a) d { e with jtag := { e.jtag with iscAddr := a } }) ∧
      (∀ x : BitVec 2048, op = 0x14 → Acts (.iscDataShift x) d { e with jtag := { e.jtag with iscData := x } }) ∧
      -- in ISC mode a program and an erase start as the controller's own do, and the address of a program advances by one page
      (op = 0x15 → b = e.emit (.tdo 1 0) → d.lockBit 1 = false → d.flag Fld.resStatusIscMode = true →
        d.fldBit Fld.pwrDomStatusOn 20 = true → d.resident.job = none →
        b.programCode (d.jtag.iscAddr.toNat / 256) (leBytes 256 d.jtag.iscData.toNat) = 0 →
        Acts .iscProgram d
          ((b.resStart ⟨1, true, d.jtag.iscAddr.toNat / 256, leBytes 256 d.jtag.iscData.toNat, d.now⟩).iscAdvance 0x100)) ∧
      (op = 0x16 → b = e.emit (.tdo 1 0) → d.lockBit 1 = false → d.flag Fld.resStatusIscMode = true →
        d.fldBit Fld.pwrDomStatusOn 20 = true →
        Acts .iscErase d (b.eraseSector (d.jtag.iscAddr.toNat / 0x10000) true).2) ∧
      -- under ISP_LOCK both are refused with 0x71
      (op = 0x15 → d.lockBit 1 = true → Acts .iscProgram d ((e.emit (.tdo 1 0)).resResult 1 0x71 true 0)) ∧
      (op = 0x16 → d.lockBit 1 = true → Acts .iscErase d ((e.emit (.tdo 1 0)).resResult 2 0x71 true 0)) ∧
      -- ISC_READ shifts out 16 bytes of the array and advances the address by 16
      (∀ at_ v : Nat, op = 0x17 → at_ = d.jtag.iscAddr.toNat / 16 * 16 → d.lockBit 1 = false → d.torn (at_ / 0x10000) = false →
        d.resident.job = none → v = leOf (d.bytes at_ 16) →
        Acts .iscRead d
          { e.emit (.tdo 128 (v % 2 ^ 128)) with
            jtag := { e.jtag with iscRead := BitVec.ofNat 128 v, iscAddr := d.jtag.iscAddr + BitVec.ofNat 25 16 } }) ∧
      (op = 0x17 → d.lockBit 1 = true →
        Acts .iscRead d
          { e.emit (.tdo 128 0) with
            jtag := { e.jtag with iscRead := 0, iscFail := true, iscAddr := d.jtag.iscAddr + BitVec.ofNat 25 16 } })))

/-- The SMBus bridge (R751 to R756). Choices of the model: assumption log 21 and 28. -/
def Obligations.SmbusBridge : Prop :=
  -- an accepted WRITE holds its transactions for issue, and LAST_STATUS starts anew
  (∀ (d : Device) (bytes : List Byte) (pec : Option Byte) (l : List Txn), d.por = false → d.flag Fld.devReadyAon = true →
    d.smb.writes = 0 → d.smb.reading = false → smbWriteOk bytes = true → d.pecOk 1 bytes pec = true →
    l = smbTxns (leAt bytes 0 5) (bytes.drop 5) →
    Reaches (.smbWrite bytes pec) d fun s t =>
      t = State.pump { s with
        dev := { d with smb := { d.smb with writes := l.length, status := 0 } }
        mtx := { s.mtx with waiting := s.mtx.waiting ++ l.map fun x => ⟨x, false, 0⟩ } }) ∧
  -- an accepted READ_SETUP makes one read pending
  (∀ (d : Device) (bytes : List Byte) (pec : Option Byte), d.por = false → d.flag Fld.devReadyAon = true →
    d.smb.writes = 0 → d.smb.reading = false → smbReadOk bytes = true → d.pecOk 2 bytes pec = true →
    Reaches (.readSetup bytes pec) d fun s t =>
      t = State.pump { s with
        dev := { d with smb := { d.smb with reading := true, readCode := 0, readData := [] } }
        mtx := { s.mtx with waiting := s.mtx.waiting ++
          [⟨⟨4, 0x3D, 0, BitVec.ofNat 40 (leAt bytes 0 5), false, false, false, leAt bytes 5 1,
             List.replicate (leAt bytes 5 1) true, [], false⟩, false, 0⟩] } }) ∧
  -- while one is pending, neither is acknowledged
  (∀ (d : Device) (bytes : List Byte) (pec : Option Byte), d.por = false → 0 < d.smb.writes ∨ d.smb.reading = true →
    Acts (.smbWrite bytes pec) d (d.emit .smbusNack) ∧ Acts (.readSetup bytes pec) d (d.emit .smbusNack)) ∧
  -- a wrong PEC discards the write, counts, and raises event 456
  (∀ (d : Device) (bytes : List Byte) (pec : Option Byte), d.por = false → d.flag Fld.devReadyAon = true →
    d.smb.writes = 0 → d.smb.reading = false → smbWriteOk bytes = true → d.pecOk 1 bytes pec = false →
    Acts (.smbWrite bytes pec) d (((d.incFld Fld.hwdSmbStatusPecErrs).raise 456 [(0, 4)]).emit .smbusNack)) ∧
  -- READ and LAST_STATUS
  (∀ d : Device, d.por = false → d.flag Fld.devReadyAon = true →
    (d.smb.reading = true → Acts .smbRead d (d.smbReturn 3 [1, 0xFF])) ∧
    (d.smb.reading = false → d.smb.readCode = 0 →
      Acts .smbRead d (d.smbReturn 3 ([BitVec.ofNat 8 (1 + d.smb.readData.length), 0] ++ d.smb.readData))) ∧
    (d.smb.reading = false → d.smb.readCode ≠ 0 → Acts .smbRead d (d.smbReturn 3 [1, BitVec.ofNat 8 d.smb.readCode])) ∧
    (d.smb.writes = 0 → Acts .lastStatus d (d.smbReturn 4 [BitVec.ofNat 8 d.smb.status])) ∧
    (0 < d.smb.writes → Acts .lastStatus d (d.smbReturn 4 [0xFF]))) ∧
  -- the alert response address answers only while SMB_ALERT_N is asserted
  (∀ d : Device, d.por = false → d.flag Fld.devReadyAon = true →
    Acts .alertResponse d (if d.smbAlert = true then d.emit (.smbus [BitVec.ofNat 8 (2 * d.smbAddr)]) else d.emit .smbusNack)) ∧
  -- a timeout is counted and raises event 456
  (∀ d : Device, d.por = false → Acts .smbusTimeout d ((d.incFld Fld.hwdSmbStatusTimeouts).raise 456 [(1, 4)]))


/-- The operations of the security engine ("T3 window" and "Engine operations" tables, R351, R352, R773, R778, R784 to R786). Choices
of the model: assumption log 4 and 14. -/
def Obligations.SecurityEngine : Prop :=
  -- a write of ENG_OP starts the operation; TCID 0x3F may start HASH and RANDOM only
  (∀ (d : Device) (tcid : Fin 64) (op : Nat) (c : Instr), d.por = false → d.flag Fld.devReadySec = true → d.sec.engine = none →
    (c, op) ∈ [(Instr.hash tcid, 1), (.verify tcid, 2), (.unwrapImage tcid, 3), (.signId tcid, 4), (.random tcid, 5),
      (.unwrapTsk tcid, 6), (.recordKey tcid, 7), (.engineErase tcid, 8)] →
    (tcid.val ≠ 0x3F ∨ op = 1 ∨ op = 5 → Acts c d
      (({ d with sec := { d.sec with engine := some (tcid.val, op) } } : Device).setFlag Fld.engStatusBusy true)) ∧
    (tcid.val = 0x3F → op ≠ 1 → op ≠ 5 → Acts c d (d.setFld Fld.engStatusResult 0xA3))) ∧
  -- while one is in progress, or before the engine is ready, it starts nothing
  (∀ (d : Device) (tcid : Fin 64) (c : Instr), d.por = false → d.flag Fld.devReadySec = false ∨ d.sec.engine ≠ none →
    c ∈ [Instr.hash tcid, .verify tcid, .unwrapImage tcid, .signId tcid, .random tcid, .unwrapTsk tcid, .recordKey tcid,
      .engineErase tcid] → Acts c d d) ∧
  -- with no operation in progress nothing ends
  (∀ (d : Device) (v : Bool), d.por = false → d.sec.engine = none → Acts (.engineOperationDone v) d d) ∧
  -- a source that cannot be read ends any but RANDOM with 0xA7
  (∀ (d r : Device) (tcid op : Nat) (v : Bool) (a : FwAccess), d.por = false → d.sec.engine = some (tcid, op) → op ≠ 5 →
    d.fwRead d.engineSrc (d.fld Fld.engSrcLenLen) = (a, r) → a.code ≠ 0 → Acts (.engineOperationDone v) d (r.engineEnded 0xA7)) ∧
  -- HASH: the SHA-384 digest of the source goes to the destination
  (∀ (d r e : Device) (tcid x : Nat) (v : Bool) (src : List Byte) (a : FwAccess), d.por = false → d.sec.engine = some (tcid, 1) →
    d.fwRead d.engineSrc (d.fld Fld.engSrcLenLen) = (⟨0, x, src⟩, r) →
    r.fwWrite r.engineDst (padTo 48 (Config.sha384 src)) = (a, e) →
    (r.fld Fld.engDstLenLen < 48 → Acts (.engineOperationDone v) d (r.engineEnded 0xA7)) ∧
    (48 ≤ r.fld Fld.engDstLenLen → Acts (.engineOperationDone v) d (e.engineEnded (if a.code = 0 then 0 else 0xA7)))) ∧
  -- VERIFY: 0 where the signature verifies, else 0xA1
  (∀ (d r : Device) (tcid x : Nat) (v : Bool) (src : List Byte), d.por = false → d.sec.engine = some (tcid, 2) →
    d.fwRead d.engineSrc (d.fld Fld.engSrcLenLen) = (⟨0, x, src⟩, r) →
    (src.length ≠ 240 → Acts (.engineOperationDone v) d (r.engineEnded 0xA7)) ∧
    (src.length = 240 → Acts (.engineOperationDone v) d
      (r.engineEnded (if Config.ecdsaVerifyDigest (src.take 96) (src.drop 192) ((src.drop 96).take 96) = true then 0 else 0xA1)))) ∧
  -- UNWRAP_IMAGE: 0xA3 without KAK; the content key goes to the loader, or 0xA4
  (∀ (d r : Device) (tcid x : Nat) (v : Bool) (src : List Byte), d.por = false → d.sec.engine = some (tcid, 3) →
    d.fwRead d.engineSrc (d.fld Fld.engSrcLenLen) = (⟨0, x, src⟩, r) → src.length = 224 →
    (r.hasKak = false → Acts (.engineOperationDone v) d (r.engineEnded 0xA3)) ∧
    (r.hasKak = true → Acts (.engineOperationDone v) d
      (match gcmOpen (r.kek ((src.drop 16).take 96) "GDNI-KEK" (src.drop 176)) ((src.drop 112).take 12) r.keyId
          ((src.drop 124).take 32) ((src.drop 156).take 16) with
        | some key => ({ r with sec := { r.sec with loaderKey := key } } : Device).engineEnded 0
        | none => r.engineEnded 0xA4))) ∧
  -- SIGN_ID: 0xA3 without IDK; the signature of the digest goes to the destination
  (∀ (d r q e : Device) (tcid x : Nat) (v : Bool) (src sig : List Byte) (a : FwAccess), d.por = false → d.sec.engine = some (tcid, 4) →
    d.fwRead d.engineSrc (d.fld Fld.engSrcLenLen) = (⟨0, x, src⟩, r) → src.length = 48 → r.idkSignDigest src = (sig, q) →
    q.fwWrite q.engineDst sig = (a, e) →
    (r.hasIdk = false → Acts (.engineOperationDone v) d (r.engineEnded 0xA3)) ∧
    (r.hasIdk = true → Acts (.engineOperationDone v) d
      (if q.fld Fld.engDstLenLen < sig.length then q.engineEnded 0xA7 else e.engineEnded (if a.code = 0 then 0 else 0xA7)))) ∧
  -- RANDOM: 1 to 64 bytes from the DRBG go to the destination
  (∀ (d q e : Device) (tcid n : Nat) (v : Bool) (out : List Byte) (a : FwAccess), d.por = false → d.sec.engine = some (tcid, 5) →
    n = d.fld Fld.engDstLenLen → d.drbg n = (out, q) → q.fwWrite q.engineDst out = (a, e) →
    (n = 0 ∨ 64 < n → Acts (.engineOperationDone v) d (d.engineEnded 0xA7)) ∧
    (1 ≤ n → n ≤ 64 → Acts (.engineOperationDone v) d
      (if q.fld Fld.engDstLenLen < out.length then q.engineEnded 0xA7 else e.engineEnded (if a.code = 0 then 0 else 0xA7)))) ∧
  -- UNWRAP_TSK: what TSK_IMPORT does with the package
  (∀ (d r e : Device) (tcid x code : Nat) (v : Bool) (src data : List Byte), d.por = false → d.sec.engine = some (tcid, 6) →
    d.fwRead d.engineSrc (d.fld Fld.engSrcLenLen) = (⟨0, x, src⟩, r) → r.tskImport src v = (code, data, e) →
    Acts (.engineOperationDone v) d (e.engineEnded code)) ∧
  -- RECORD_KEY: 0xA6 where no state key of the tenant is held; else the record key goes to the Scribe engine
  (∀ (d r : Device) (tcid x : Nat) (v : Bool) (src : List Byte), d.por = false → d.sec.engine = some (tcid, 7) →
    d.fwRead d.engineSrc (d.fld Fld.engSrcLenLen) = (⟨0, x, src⟩, r) → src.length = 64 →
    (r.tskSlot (src.take 16) = none → Acts (.engineOperationDone v) d (r.engineEnded 0xA6)) ∧
    (∀ i, r.tskSlot (src.take 16) = some i → Acts (.engineOperationDone v) d
      (({ r with sec := { r.sec with scribeKey := recordKeyOf (r.tsk i) (src.drop 16) } } : Device).engineEnded 0))) ∧
  -- ERASE: one state key, all of them, or every key with event 471; a write of the key store that does not verify is 0xAA
  (∀ (d r : Device) (tcid x : Nat) (v : Bool) (src : List Byte), d.por = false → d.sec.engine = some (tcid, 8) →
    d.fwRead d.engineSrc (d.fld Fld.engSrcLenLen) = (⟨0, x, src⟩, r) →
    (leAt src 0 1 = 1 → src.length = 17 → ∀ code e, r.tskDestroy (src.drop 1) v = (code, e) →
      Acts (.engineOperationDone v) d (e.engineEnded code)) ∧
    (leAt src 0 1 = 2 → src.length = 1 → ∀ code e, r.tskDestroyAll [] v = (code, e) →
      Acts (.engineOperationDone v) d (e.engineEnded code)) ∧
    (leAt src 0 1 = 3 → src.length = 1 → v = true → ∃ e, Acts (.engineOperationDone v) d e ∧ e.fld Fld.engStatusResult = 0 ∧
      e.flag Fld.engStatusBusy = false ∧ e.evtStatus 471 = true ∧ e.hasIdk = false ∧ e.hasKak = false ∧ ∀ i < 32, e.tskUsed i = false) ∧
    (leAt src 0 1 = 3 → src.length = 1 → v = false → Acts (.engineOperationDone v) d (r.engineEnded 0xAA)))

/-- Power domains, DOZE, hibernate, and the relock of a slot's synthesisers (R74, R116, R178, R184, R185, R897 to R900, R906, R910,
R911, R925). Choices of the model: assumption log 8, 53 and 69. -/
def Obligations.DomainsDozeAndHibernate : Prop :=
  -- only Heartwood asks; a second request, or one for a domain that is off, changes no more than the request bit
  (∀ (d : Device) (t : Fin 64) (j : Fin 6), d.por = false → t.val ≠ 0x3E →
    Acts (.domainPowerOff t j) d d ∧ Acts (.domainPowerOn t j) d d) ∧
  (∀ (d : Device) (j : Fin 6), d.por = false → d.fldBit Fld.pwrDomCtlOff j.val = true → Acts (.domainPowerOff 0x3E j) d d) ∧
  (∀ (d : Device) (j : Fin 6), d.por = false → d.fldBit Fld.pwrDomCtlOff j.val = false →
    d.fldBit Fld.pwrDomStatusOn (16 + j.val) = false →
    Acts (.domainPowerOff 0x3E j) d (d.setFldBit Fld.pwrDomCtlOff j.val true)) ∧
  -- PORTA and PORTB go off at once, and the port acts as under PERST#
  (∀ (d : Device) (j : Fin 6), d.por = false → j.val ≤ 1 → d.fldBit Fld.pwrDomCtlOff j.val = false →
    d.fldBit Fld.pwrDomStatusOn (16 + j.val) = true →
    Reaches (.domainPowerOff 0x3E j) d fun s t =>
      t.pending = s.pending ∧ t.evq = s.evq ∧ (∀ r ∈ t.mtx.reqs, r.port ≠ supplyPort j.val) ∧
      t.dev.fldBit Fld.pwrDomCtlOff j.val = true ∧ t.dev.fldBit Fld.pwrDomStatusOn (16 + j.val) = false ∧ t.dev.evtStatus 511 = true ∧
      (t.dev.ports[supplyPort j.val]).link = .down) ∧
  -- RING too; BENCH and RESIDENT wait until they are idle, GRAIN for its STORE of cause 4
  (∀ d : Device, d.por = false → d.fldBit Fld.pwrDomCtlOff 5 = false → d.fldBit Fld.pwrDomStatusOn 21 = true →
    ∃ e, Acts (.domainPowerOff 0x3E 5) d e ∧ e.fldBit Fld.pwrDomCtlOff 5 = true ∧ e.fldBit Fld.pwrDomStatusOn 21 = false ∧
      e.evtStatus 511 = true ∧ e.ringOn = false) ∧
  (∀ (d : Device) (j : Fin 6), d.por = false → j.val = 2 ∨ j.val = 4 → d.fldBit Fld.pwrDomCtlOff j.val = false →
    Acts (.domainPowerOff 0x3E j) d (d.setFldBit Fld.pwrDomCtlOff j.val true)) ∧
  (∀ d : Device, d.por = false → d.fldBit Fld.pwrDomCtlOff 3 = false → d.fldBit Fld.pwrDomStatusOn 19 = true →
    (d.flag Fld.grnStatusArmed = false → ∃ e, Acts (.domainPowerOff 0x3E 3) d e ∧ e.power.grainOff = 1 ∧ e.grain = d.grain) ∧
    (d.flag Fld.grnStatusArmed = true → d.grain.store = none → ∀ b, d.newestBank = some b →
      ∃ e, Acts (.domainPowerOff 0x3E 3) d e ∧ e.power.grainOff = 2 ∧ e.grain.store = some ⟨1 - b, d.bankSsn b + 1, 4⟩)) ∧
  -- DOMAIN_OFF_DONE: what the domain held is gone
  (∀ d : Device, d.por = false → d.fldBit Fld.pwrDomCtlOff 2 = true → d.fldBit Fld.pwrDomStatusOn 18 = true → d.benchBusy = 0 →
    (∀ x ∈ d.bench.lines, x.owner = none) → d.loader.job = none → d.scribe.captures = [] → d.scribe.restores = [] →
    ∃ e, Acts (.domainOffDone 2) d e ∧ e.fldBit Fld.pwrDomStatusOn 18 = false ∧ e.flag Fld.devReadyBench = false ∧
      e.evtStatus 511 = true ∧ e.slots = d.slots ∧ ∀ k, 0x10000000 ≤ k → k < 0x10800000 → e.byte k = 0) ∧
  (∀ d : Device, d.por = false → d.fldBit Fld.pwrDomCtlOff 3 = true → d.fldBit Fld.pwrDomStatusOn 19 = true → d.power.grainOff = 3 →
    ∃ e, Acts (.domainOffDone 3) d e ∧ e.fldBit Fld.pwrDomStatusOn 19 = false ∧ e.flag Fld.devReadyGrainS = false ∧
      e.flag Fld.devReadyGrainD = false ∧ e.power.grainOff = 0 ∧ e.evtStatus 511 = true ∧
      ∀ k, 0x20000000 ≤ k → k < 0x20040000 → e.byte k = 0) ∧
  (∀ d : Device, d.por = false → d.fldBit Fld.pwrDomCtlOff 4 = true → d.fldBit Fld.pwrDomStatusOn 20 = true → d.resident.job = none →
    ∃ e, Acts (.domainOffDone 4) d e ∧ e.fldBit Fld.pwrDomStatusOn 20 = false ∧ e.flag Fld.devReadyResident = false ∧
      e.rd Reg.resBuf = 0 ∧ e.evtStatus 511 = true ∧ e.mem = d.mem) ∧
  (∀ (d : Device) (j : Fin 6), d.por = false → d.fldBit Fld.pwrDomCtlOff j.val = false ∨
      d.fldBit Fld.pwrDomStatusOn (16 + j.val) = false ∨ d.domainIdle j.val = false → Acts (.domainOffDone j) d d) ∧
  -- DOMAIN_POWER_ON: of a domain that is on, only the request is withdrawn; else it is on with event 511, and starts as its chapter gives
  (∀ (d : Device) (j : Fin 6), d.por = false → j.val ≠ 3 → d.fldBit Fld.pwrDomStatusOn (16 + j.val) = true →
    Acts (.domainPowerOn 0x3E j) d (d.setFldBit Fld.pwrDomCtlOff j.val false)) ∧
  (∀ (d o : Device) (j : Fin 6), d.por = false → d.fldBit Fld.pwrDomStatusOn (16 + j.val) = false →
    o = ((d.setFldBit Fld.pwrDomCtlOff j.val false).setFldBit Fld.pwrDomStatusOn (16 + j.val) true).raise 511
      [(2, 4), (16 + j.val, 16)] →
    (j.val ≤ 1 → Acts (.domainPowerOn 0x3E j) d (o.portTrain (supplyPort j.val))) ∧
    (j = 2 → Acts (.domainPowerOn 0x3E j) d ((o.setFlag Fld.benchStatusReady false).setFlag Fld.benchStatusZeroing true)) ∧
    (j = 3 → ∃ e, Acts (.domainPowerOn 0x3E j) d e ∧ e.regs = (o.recallStart).regs ∧ e.power.grainOff = 0) ∧
    (j = 4 → Acts (.domainPowerOn 0x3E j) d o) ∧ (j = 5 → Acts (.domainPowerOn 0x3E j) d o.ringRefresh)) ∧
  -- DOZE is entered when its conditions hold, and left at an exit, each with event 511
  (∀ d : Device, d.por = false → d.flag Fld.pwrCtlDozeEn = true → (∀ n, (d.slot n).st ≠ .running ∨ (d.slot n).power ≠ .on) →
    (∀ p : Fin 2, (d.ports[p]).link = .l1 ∨ d.linkUp p = false) → d.loader.job = none → d.scribe.captures = [] →
    d.scribe.restores = [] → d.grain.store = none → d.resident.job = none → d.ring.txs = [] → d.ring.rxs = [] →
    Acts .dozeEntry d (if d.flag Fld.pwrStatusDevState = true then d else (d.setFlag Fld.pwrStatusDevState true).raise 511 [(1, 4)])) ∧
  (∀ (d : Device) (n : Fin 16), d.por = false → d.flag Fld.pwrCtlDozeEn = false ∨ ((d.slot n).st = .running ∧ (d.slot n).power = .on) ∨
      d.loader.job ≠ none ∨ d.scribe.captures ≠ [] ∨ d.grain.store ≠ none ∨ d.resident.job ≠ none → Acts .dozeEntry d d) ∧
  (∀ d : Device, d.por = false →
    Acts .dozeExit d (if d.flag Fld.pwrStatusDevState = true then (d.setFlag Fld.pwrStatusDevState false).raise 511 [(0, 4)] else d)) ∧
  -- the synthesisers of a slot that is ON relock; a watched output that cannot lock stays a fault
  (∀ (d : Device) (n : Fin 16) (a b bad : BitVec 4), d.por = false → (d.slot n).power = .on → d.refclk = true → a = d.lockable n 0 →
    b = d.lockable n 1 → bad = d.watched n &&& ~~~(if (d.slot n).active then b else a) →
    Acts (.synthRelockDone n) d
      (let r := d.modSlot n fun s => { s with clk := { s.clk with lockA := a, lockB := b, rangeErr := bad } }
       if bad = 0 then r.clkFault n false else r)) ∧
  (∀ (d : Device) (n : Fin 16), d.por = false → (d.slot n).power ≠ .on ∨ d.refclk = false → Acts (.synthRelockDone n) d d) ∧
  -- after its STORE a HIBERNATE drives PSU_EN low: power-on reset, with the hibernate latch and MIN_OFF_MS held by VBAT; with VBAT
  -- invalid PSU_EN is high-Z and no hibernate is latched
  (∀ (d : Device) (j : HibJob), d.por = false → d.power.hib = some j → j.stage = 3 →
    Reaches .hibernatePsuOff d fun s t => t.pending = s.pending ∧ (∀ q : Fin 4, t.evq[q] = []) ∧ t.mtx = MtxUnit.reset ∧
      t.dev.por = true ∧ t.dev.regs = [] ∧ t.dev.power.hibLatch = d.power.vbat ∧ t.dev.power.psuLow = d.power.vbat ∧
      t.dev.power.minOff = max 1 (d.fld Fld.pwrHibMinOffMs)) ∧
  (∀ d : Device, d.por = false → (∀ j, d.power.hib = some j → j.stage ≠ 3) → Acts .hibernatePsuOff d d) ∧
  -- PSU_EN rises once a wake is latched
  (∀ d : Device, d.power.psuLow = true → d.power.wakeLatch = true →
    Acts .psuEnRise d { d with power := { d.power with psuLow := false, wakeLatch := false } }) ∧
  (∀ d : Device, d.power.psuLow = false ∨ d.power.wakeLatch = false → Acts .psuEnRise d d)

/-- The device safe state and the slot safe state (R963, R964, R966, R969). Choices of the model: assumption log 39. -/
def Obligations.SafeStates : Prop :=
  -- a device-scope detection: the cause is recorded, its event raised, SAFE_N driven low, and DSS set
  (∀ (d e : Device) (cause ev : Nat) (syn : List (Nat × Nat)), cause < 17 → ev < 512 → e = d.detectDevice cause ev syn →
    e.fldBit Fld.safeCauseSeen cause = true ∧ e.fldBit Fld.safeDssCauses cause = true ∧ e.evtStatus ev = true ∧
    e.flag Fld.safeStatusDss = true ∧ e.flag Fld.safeStatusDrive = true ∧ (d.flag Fld.safeStatusDss = false → e.evtStatus 492 = true) ∧
    -- every LOADED, RUNNING or HELD slot is FAULTED with DEVICE and the cause's bit; every other keeps its state
    ∀ n : Fin 16,
      ((d.slot n).st = .loaded ∨ (d.slot n).st = .running ∨ (d.slot n).st = .held →
        (e.slot n).st = .faulted ∧ (e.slot n).strobe = 0 ∧ bitOf (e.rd (Reg.slcFault n)) 6 = true ∧
        (cause = 3 → bitOf (e.rd (Reg.slcFault n)) 3 = true) ∧ (cause = 6 → bitOf (e.rd (Reg.slcFault n)) 4 = true) ∧
        (cause = 10 → bitOf (e.rd (Reg.slcFault n)) 5 = true)) ∧
      ((d.slot n).st = .empty ∨ (d.slot n).st = .bound ∨ (d.slot n).st = .sweeping ∨ (d.slot n).st = .faulted →
        (e.slot n).st = (d.slot n).st)) ∧
  -- a slot-scope detection concerns its slot alone; an EMPTY or BOUND slot takes no fault bit
  (∀ (d e : Device) (cause ev bit : Nat) (syn : List (Nat × Nat)) (n : Fin 16), cause < 17 → ev < 512 → bit < 8 →
    e = d.detectSlot cause ev syn n bit →
    e.fldBit Fld.safeCauseSeen cause = true ∧ e.evtStatus ev = true ∧ (∀ m, m ≠ n → (e.slot m).st = (d.slot m).st) ∧
    ((d.slot n).st = .loaded ∨ (d.slot n).st = .running ∨ (d.slot n).st = .held →
      (e.slot n).st = .faulted ∧ bitOf (e.rd (Reg.slcFault n)) bit = true) ∧
    ((d.slot n).st = .faulted ∨ (d.slot n).st = .sweeping →
      (e.slot n).st = (d.slot n).st ∧ bitOf (e.rd (Reg.slcFault n)) bit = true) ∧
    ((d.slot n).st = .empty ∨ (d.slot n).st = .bound →
      (e.slot n).st = (d.slot n).st ∧ e.rd (Reg.slcFault n) = d.rd (Reg.slcFault n)))

/-- The commands of the safety plane (R727, R965 to R975, R786, R1029). Choices of the model: assumption log 8 and 39. -/
def Obligations.SafetyPlane : Prop :=
  -- a watched output of an ON slot that is unlocked or out of range is a clock fault of the slot; others concern nothing
  (∀ (d m : Device) (n : Fin 16) (outputs : BitVec 4) (bad : Nat), d.por = false → (d.slot n).power = .on →
    bad = (outputs &&& d.watched n).toNat → bad ≠ 0 →
    m = d.modSlot n (fun s => { s with clk := { s.clk with
      rangeErr := s.clk.rangeErr ||| (BitVec.ofNat 4 bad &&& if s.active then s.clk.lockB else s.clk.lockA) } }) →
    Acts (.slotClockFault n outputs) d ((m.clkFault n true).detectSlot 2 482 [(n.val, 4), (bad, 16)] n 2)) ∧
  (∀ (d : Device) (n : Fin 16) (outputs : BitVec 4), d.por = false →
    (d.slot n).power ≠ .on ∨ outputs &&& d.watched n = 0 → Acts (.slotClockFault n outputs) d d) ∧
  -- LOCKSTEP_MISMATCH: the device safe state of cause 4, and a warm reset is called for
  (∀ d : Device, d.por = false → Acts .lockstepMismatch d
    (let e := (d.setActive 4 true).detectDevice 4 484 []
     { e with power := { e.power with causes := d.power.causes ||| 4 } })) ∧
  -- SELFTEST runs once; its end records every group, and a group that fails is the SELFTEST cause with event 490
  (∀ d : Device, d.por = false → Acts .selftest d
    (if d.flag Fld.safeStatusSelftestDone = true then d else { d with safety := { d.safety with test := 1 } })) ∧
  (∀ d : Device, d.por = false → d.safety.test = 1 → Acts (.selftestDone 0xFF) d
    ((({ d with safety := { d.safety with test := 0 } } : Device).setFlag Fld.safeStatusSelftestDone true).setFld
      Fld.safeSelftestPass 0xFF)) ∧
  (∀ (d : Device) (pass : BitVec 8) (g : Nat), d.por = false → d.safety.test = 1 → g < 8 → pass.getLsbD g = false →
    ∃ e, Acts (.selftestDone pass) d e ∧ e.flag Fld.safeStatusSelftestDone = true ∧ e.fld Fld.safeSelftestPass = pass.toNat ∧
      e.fldBit Fld.safeActiveActive 14 = true ∧ e.evtStatus 490 = true ∧ e.flag Fld.safeStatusDss = true) ∧
  (∀ (d : Device) (pass : BitVec 8), d.por = false → d.safety.test = 0 → Acts (.selftestDone pass) d d) ∧
  -- SAFE_N goes high only where no condition of R969 holds
  (∀ d : Device, d.por = false → Acts .safeNRelease d
    (if d.flag Fld.safeStatusArmed = true ∧ d.flag Fld.safeStatusDss = false ∧ d.rd Reg.safeActive = 0 ∧ d.safeRequest = false then
      (d.setFlag Fld.safeStatusDrive false).setFlag Fld.safeStatusRbLow false else d)) ∧
  -- a ball that reads high while driven low is the SAFE_N_RB cause with event 491
  (∀ d : Device, d.por = false → Acts .safeNReadback d
    (if d.flag Fld.safeStatusDrive = true then (d.setFlag Fld.safeStatusRbLow false).signal 15 491 [] else d)) ∧
  -- SAFE_CTL.RELEASE arms SAFE_N for Heartwood alone, after the self-test, with neither the SELFTEST nor the OTP cause present
  (∀ (d : Device) (t : Fin 64), d.por = false → Acts (.safeRelease t) d
    (if t.val = 0x3E ∧ d.flag Fld.safeStatusSelftestDone = true ∧ d.fldBit Fld.safeActiveActive 14 = false ∧
        d.fldBit Fld.safeActiveActive 12 = false then d.setFlag Fld.safeStatusArmed true else d)) ∧
  -- DSS_CLEAR leaves the device safe state while no blocking cause is present; else CLEAR_REJ
  (∀ (d : Device) (t : Fin 64), d.por = false → t.val ≠ 0x3E → Acts (.dssClear t) d d) ∧
  (∀ d : Device, d.por = false → d.flag Fld.safeStatusDss = true →
    (∀ c ∈ [3, 4, 6, 10, 12, 14, 16], d.fldBit Fld.safeActiveActive c = false) →
    d.fld Fld.safeCtlRingAct ≠ 1 ∨ d.fldBit Fld.safeActiveActive 13 = false →
    Acts (.dssClear 0x3E) d ((d.setFlag Fld.safeStatusDss false).wr Reg.safeDss 0)) ∧
  (∀ (d : Device) (c : Nat), d.por = false → d.flag Fld.safeStatusDss = false ∨
      (c ∈ [3, 4, 6, 10, 12, 14, 16] ∧ d.fldBit Fld.safeActiveActive c = true) ∨
      (d.fld Fld.safeCtlRingAct = 1 ∧ d.fldBit Fld.safeActiveActive 13 = true) →
    Acts (.dssClear 0x3E) d (d.setFlag Fld.safeStatusClearRej true))

/-- The injections of SAFE_TEST (R984, R994). Choices of the model: assumption log 22 and 39. -/
def Obligations.SafetyInjections : Prop :=
  -- only Heartwood and JTAG inject, and one injection at a time
  (∀ (d : Device) (t : Fin 64) (n : Fin 16) (c : Instr), d.por = false →
    (t.val ≠ 0x3E ∧ t.val ≠ 0x3F) ∨ d.flag Fld.safeStatusInjBusy = true →
    c ∈ [Instr.injectChuck t n, .injectClock t n, .injectTick t, .injectLockstep t, .injectMatrix t, .injectSupplyIo t n, .injectTemp t,
      .injectBenchEcc t, .injectSafeNRb t] → Acts c d d) ∧
  ∀ (d : Device) (t : Fin 64) (n : Fin 16), d.por = false → t.val = 0x3E ∨ t.val = 0x3F → d.flag Fld.safeStatusInjBusy = false →
    -- MECH 1, 5 and 8 wait for what they meet
    Acts (.injectChuck t n) d (d.injStart 1 n.val 0) ∧ Acts (.injectMatrix t) d (d.injStart 5 0 0) ∧
    Acts (.injectBenchEcc t) d { (d.injStart 8 0 0) with bench := { d.bench with inject := true } } ∧
    -- MECH 2: the lowest enabled output of the slot reads out of range for 4 µs
    (∀ i : Fin 4, (d.slot n).power = .on → bitOf (d.clkEn n (d.act n)) i.val = true →
      (∀ j : Fin 4, j < i → bitOf (d.clkEn n (d.act n)) j.val = false) →
      Acts (.injectClock t n) d
        (((((d.modSlot n fun s => { s with clk := { s.clk with rangeErr := s.clk.rangeErr ||| BitVec.ofNat 4 (2 ^ i.val) } }).injStart
          2 n.val 4).clkFault n true)).detectSlot 2 482 [(n.val, 4), (2 ^ i.val, 16)] n 2)) ∧
    ((d.slot n).power ≠ .on ∨ d.clkEn n (d.act n) = 0 → Acts (.injectClock t n) d ((d.injStart 2 n.val 4).signal 2 482 [(n.val, 4), (0, 16)])) ∧
    -- MECH 3: tick loss for 1 µs
    Acts (.injectTick t) d
      (((((d.injStart 3 (natOf (d.flag Fld.turnStatusLost)) 1).setFlag Fld.turnStatusLost true).setFlag Fld.turnStatusLostSticky
        true).setActive 3 true).detectDevice 3 483 []) ∧
    -- MECH 4: a core mismatch
    Acts (.injectLockstep t) d
      (let e := (d.setActive 4 true).detectDevice 4 484 []
       { e with power := { e.power with causes := d.power.causes ||| 4 } }) ∧
    -- MECH 6: VCCIO_n reads out of its window for 10 µs
    (let r := (d.injStart 6 n.val 10).setFldBit Fld.safeSupplyVccioIn n.val false
     Acts (.injectSupplyIo t n) d ((r.setActive 7 r.ioOut).detectSlot 7 486 [(16 + n.val, 16)] n 4)) ∧
    -- MECH 7: the comparator reads 105 °C for 200 µs
    Acts (.injectTemp t) d
      ((((d.injStart 7 (natOf (d.flag Fld.safeTempOver)) 200).setFlag Fld.safeTempOver true).setActive 10 true).detectDevice 10 487 []) ∧
    -- MECH 9: the readback path reads high for 4 µs
    Acts (.injectSafeNRb t) d
      (let r := d.injStart 9 0 4
       if d.flag Fld.safeStatusDrive = true then (r.setFlag Fld.safeStatusRbLow false).signal 15 491 [] else r)

/-- Ring slots, directions and link delays (R868, R869, R872 to R875, R880, R889). Choices of the model: assumption log 8, 46 and 47. -/
def Obligations.RingSlotsAndDirections : Prop :=
  -- RING_SLOT_RECEIVE: out of service, or not 87 symbols, no effect
  (∀ (d : Device) (k : Fin 2) (sym : List Byte), d.por = false → d.ringOn = false ∨ sym.length ≠ 87 →
    Acts (.ringSlotReceive k sym) d d) ∧
  -- a slot whose WCRC fails is counted and goes on as a free slot, with what every forwarding device writes
  (∀ (d : Device) (k : Fin 2) (sym : List Byte), d.por = false → d.ringOn = true → sym.length = 87 →
    leAt sym 9 2 ≠ wcrc (sym.take 9) →
    Acts (.ringSlotReceive k sym) d ((d.incFld Fld.ringErrCrc).emit
      (.ringSend k (slotSymbols (d.ringHead k 0 (bitOf (leAt sym 0 1) 2) (leAt sym 1 1 % 16) ((leAt sym 2 1 % 16 + 1) % 16) (leAt sym 3 2)
        (leAt sym 5 2) (leAt sym 7 2)) ((sym.drop 11).take 72) ((sym.drop 83).take 4))))) ∧
  -- a valid one heals the direction, leaves its words, and one slot leaves on the direction
  (∀ (d : Device) (k : Fin 2) (sym : List Byte), d.por = false → d.ringOn = true → sym.length = 87 →
    leAt sym 9 2 = wcrc (sym.take 9) →
    ∃ e, Acts (.ringSlotReceive k sym) d e ∧
      (let x := e.ring.dirs[k]
       x.broken = false ∧ x.up = true ∧ x.present = BitVec.ofNat 16 (leAt sym 3 2) ∧ x.cand = BitVec.ofNat 16 (leAt sym 5 2) ∧
        x.fault = BitVec.ofNat 16 (leAt sym 7 2)) ∧
      ((e.out.filter fun o => match o with | .ringSend j _ => j == k | _ => false).length = 1) ∧
      -- a data or ack slot for this device, with a right PCRC, is taken off the ring and delivered
      (leAt sym 0 1 % 4 = 1 ∨ leAt sym 0 1 % 4 = 2 → leAt sym 2 1 % 16 ≠ 15 →
        leAt sym 11 1 / 16 ≠ d.ringAddr → leAt sym 11 1 % 16 = d.ringAddr →
        e.ring.inbox = d.ring.inbox ++ (if leOf ((sym.drop 83).take 4) = crc32c ((sym.drop 11).take 72) then
          [BitVec.ofNat 8 (leAt sym 0 1 % 4) :: (sym.drop 11).take 72] else [])) ∧
      (leAt sym 0 1 % 4 = 0 → e.ring.inbox = d.ring.inbox)) ∧
  -- RING_DIRECTION_BROKEN: the device is origin of the direction, and sends its own train with HEAD 1
  (∀ (d : Device) (k : Fin 2), d.por = false → d.ringOn = true →
    ∃ e, Acts (.ringDirectionBroken k) d e ∧
      (let x := e.ring.dirs[k]
       x.broken = true ∧ x.origin = true ∧ x.head = true ∧ x.up = false ∧ x.present = 0 ∧ x.cand = 0 ∧ x.fault = 0) ∧
      ((e.out.filter fun o => match o with | .ringSend j _ => j == k | _ => false).length = 1) ∧ ((d.ring.dirs[k]).broken = false → e.evtStatus 497 = true)) ∧
  (∀ (d : Device) (k : Fin 2), d.por = false → d.ringOn = false → Acts (.ringDirectionBroken k) d d) ∧
  -- ECHO_MEASURE: the ingress delay in units of 0.125 ns, with event 500 above 8 ns; with the reverse lane down the last value stays
  (∀ (d : Device) (k : Fin 2) (flight : Nat), d.por = false → d.ringOn = true →
    let e := (d.setFld (Fld.linkDly k) (min 0xFFFF flight)).modDir k fun x => { x with measured := true }
    (flight ≤ 64 → Acts (.echoMeasure k flight true) d e) ∧
    (64 < flight → Acts (.echoMeasure k flight true) d (e.raise 500 [(k.val, 4)])) ∧
    Acts (.echoMeasure k flight false) d d) ∧
  (∀ (d : Device) (k : Fin 2) (flight : Nat) (up : Bool), d.por = false → d.ringOn = false → Acts (.echoMeasure k flight up) d d)

/-- Tick markers (R870, R877 to R881, R893, R896). Choices of the model: assumption log 41 and 46. -/
def Obligations.TickMarkers : Prop :=
  -- TICK_MARKER_EMIT: the master announces the next turn on both directions
  (∀ (d : Device) (due : BitVec 16), d.por = false → d.ringOn = true → d.flag Fld.ringStatusMaster = true →
    d.flag Fld.turnCtlRun = true →
    let b := leBytes 1 d.ringAddr ++ leBytes 8 ((d.turnCount + 1) % 2 ^ 64) ++ leBytes 2 due.toNat
    Acts (.tickMarkerEmit due) d
      ((({ d with ring := { d.ring with announced := some (80 * d.now + due.toNat) } } : Device).emit
        (.ringSend 0 (0x1FC :: b.map (·.toNat) ++ [chk8 b]))).emit (.ringSend 1 (0x1FC :: b.map (·.toNat) ++ [chk8 b])))) ∧
  (∀ (d : Device) (due : BitVec 16), d.por = false →
    d.ringOn = false ∨ d.flag Fld.ringStatusMaster = false ∨ d.flag Fld.turnCtlRun = false → Acts (.tickMarkerEmit due) d d) ∧
  -- TICK_MARKER_RECEIVE: a wrong CHK is counted and goes no further; the device's own marker goes no further
  (∀ (d : Device) (k : Fin 2) (src : Fin 16) (turn : BitVec 64) (due : BitVec 16) (chk : BitVec 8) (phase : Fin 80) (held : Nat),
    d.por = false → d.ringOn = true →
    let ok := chk8 (markerBytes src.val turn.toNat due.toNat)
    (ok ≠ chk.toNat → Acts (.tickMarkerReceive k src turn due chk phase held) d (d.incFld Fld.ringErrCrc)) ∧
    (ok = chk.toNat → src.val = d.ringAddr → Acts (.tickMarkerReceive k src turn due chk phase held) d d) ∧
    -- any other is forwarded with DUE less the link delay and the time it was held
    (∀ f : Device, ok = chk.toNat → src.val ≠ d.ringAddr →
      f = d.sendSequence k kMarker
        (markerBytes src.val turn.toNat (((due.toNat : Int) - (d.linkDelay k : Nat) - held) % 65536).toNat) →
      (d.ring.marker = some turn → Acts (.tickMarkerReceive k src turn due chk phase held) d f) ∧
      (d.ring.marker ≠ some turn → d.follows = false → Acts (.tickMarkerReceive k src turn due chk phase held) d
        { f with ring := { f.ring with marker := some turn } }) ∧
      -- a follower takes the turn of the first copy, and TICK_OFS the distance of its instant from the nearest REFCLK edge
      (d.ring.marker ≠ some turn → d.follows = true →
        let i : Int := (80 * d.now + phase.val + due.toNat : Nat) - (d.linkDelay k : Nat)
        let g : Device := { f with ring := { f.ring with marker := some turn } }
        let h := (g.wr Reg.ringTickOfs (((i - 80 * ((i + 39) / 80)) % 65536).toNat)).setFlag Fld.ringStatusTickFollow true
        let w : Device := { h with turn := { h.turn with
          ringTurn := some turn, ringEdge := if i < 80 * (d.now : Int) then d.now + 1 else ((i + 39) / 80).toNat } }
        Acts (.tickMarkerReceive k src turn due chk phase held) d (if i < 80 * (d.now : Int) then w.raise 499 [(1, 4)] else w)))) ∧
  (∀ (d : Device) (k : Fin 2) (src : Fin 16) (turn : BitVec 64) (due : BitVec 16) (chk : BitVec 8) (phase : Fin 80) (held : Nat),
    d.por = false → d.ringOn = false → Acts (.tickMarkerReceive k src turn due chk phase held) d d) ∧
  -- MARKER_MISSED of a follower without a marker: MISS is counted, with event 499
  (∀ d : Device, d.por = false → d.ringOn = true → d.follows = true → d.turn.ringTurn = none →
    Acts .markerMissed d (((d.setFlag Fld.ringStatusTickFollow false).incFld Fld.ringErrMiss).raise 499 [(0, 4)])) ∧
  (∀ d : Device, d.por = false → d.ringOn = false ∨ d.follows = false ∨ d.turn.ringTurn ≠ none → Acts .markerMissed d d)

/-- Ring transfers (R883 to R886, R888). Choices of the model: assumption log 46 and 47. -/
def Obligations.RingTransfers : Prop :=
  -- FRAGMENT_RECEIVE serves the oldest data body: one seen already is dropped, one that skips is answered with the number expected
  (∀ (d : Device) (b : List Byte) (rest : List (List Byte)) (r : RingRx) (e : Device), d.por = false → d.ringOn = true →
    d.ring.inbox = (1 :: b) :: rest → e = { d with ring := { d.ring with inbox := rest } } →
    r = (d.rxOf (leAt b 0 1 / 16) (leAt b 2 2)).getD ⟨leAt b 0 1 / 16, leAt b 2 2, leAt b 8 4, leAt b 12 4, 0, 0⟩ →
    (leAt b 4 4 < r.next → Acts .fragmentReceive d e) ∧
    (r.next < leAt b 4 4 → Acts .fragmentReceive d (e.ringAck (leAt b 0 1 / 16) 0 (leAt b 2 2) r.next [])) ∧
    -- fragment 0 from a sender that RING_RX_SRCMASK shuts out is rejected with 0xB4
    (leAt b 4 4 = 0 → r.next = 0 → d.fldBit Fld.ringRxSrcmaskMask (leAt b 0 1 / 16) = false →
      Acts .fragmentReceive d (e.ringAck (leAt b 0 1 / 16) 1 (leAt b 2 2) 0 [0xB4])) ∧
    -- the next one enters the receive queue, where that has room
    (leAt b 4 4 = r.next → r.next ≠ 0 → d.rxqDepth < 1024 → r.since < 15 →
      Acts .fragmentReceive d
        (((e.setBytes (rxqEntry (d.ring.rxHead + d.rxqDepth)) (bodyEntry b)).setRxq (d.rxqDepth + 1)).setRx
          { r with next := r.next + 1, since := r.since + 1 })) ∧
    (leAt b 4 4 = r.next → r.next ≠ 0 → 1024 ≤ d.rxqDepth → Acts .fragmentReceive d e)) ∧
  -- with no body delivered, or out of service, nothing is served
  (∀ d : Device, d.por = false → d.ringOn = false ∨ d.ring.inbox = [] → Acts .fragmentReceive d d ∧ Acts .ackReceive d d) ∧
  -- ACK_RECEIVE serves the oldest ack body: the final ack ends the transfer and its command, a reject fails it
  (∀ (d : Device) (b : List Byte) (rest : List (List Byte)) (x : RingTx) (e : Device), d.por = false → d.ringOn = true →
    d.ring.inbox = (2 :: b) :: rest → e = { d with ring := { d.ring with inbox := rest } } →
    d.ring.txs.find? (fun x => x.xfer == leAt b 2 2 && x.dst == leAt b 0 1 / 16) = some x →
    (∀ k, leAt b 1 1 = 2 → d.cmd x.cid = some k →
      Acts .ackReceive d ((e.txEnd x).completeDest x.cid (k.f 0x20 8)
        (leBytes 2 x.xfer ++ leBytes 1 x.used ++ [0] ++ leBytes 4 x.resent ++ leBytes 4 (leAt b 8 4) ++ leBytes 4 0))) ∧
    (leAt b 1 1 = 1 → Acts .ackReceive d
      (((e.txEnd x).raise 502 [(leAt b 8 1, 8)]).complete x.cid (leAt b 8 1) [])) ∧
    -- a progress ack raises the acknowledged count, and sending goes on
    (leAt b 1 1 = 0 → x.acked < leAt b 4 4 → x.sent ≤ leAt b 4 4 →
      Acts .ackReceive d (e.modTx x.cid fun _ => { x with acked := leAt b 4 4, timeouts := 0 }).txPump)) ∧
  -- RETRANSMIT_TIMEOUT: the eighth in a row fails the transfer with 0xB3; before that sending restarts at the first unacknowledged one
  (∀ (d : Device) (id : BitVec 16) (x : RingTx), d.por = false → d.ring.txs.find? (fun x => x.xfer == id.toNat) = some x →
    (7 ≤ x.timeouts → Acts (.retransmitTimeout id) d (((d.txEnd x).raise 502 [(0xB3, 8)]).complete x.cid 0xB3 [])) ∧
    (x.timeouts < 7 →
      let y := { x with timeouts := x.timeouts + 1 }
      Acts (.retransmitTimeout id) d ((d.modTx x.cid fun _ => y).txRestart y y.acked).txPump)) ∧
  (∀ (d : Device) (id : BitVec 16), d.por = false → d.ring.txs = [] → Acts (.retransmitTimeout id) d d) ∧
  -- RING_RX_DONE: the final ack with the turn counter, and event 501
  (∀ (d : Device) (v : Word) (r : RingRx), d.por = false → d.rxOf (bitsOf v.toNat 16 4) (v.toNat % 2 ^ 16) = some r →
    Acts (.ringRxDone v) d
      ((({ d with ring := { d.ring with
          rxs := d.ring.rxs.filter fun x => !(x.src == bitsOf v.toNat 16 4 && x.xfer == v.toNat % 2 ^ 16) } } : Device).ringAck
        (bitsOf v.toNat 16 4) 2 (v.toNat % 2 ^ 16) r.next (leBytes 4 (d.rd Reg.turnCountLo))).raise 501 [(v.toNat % 2 ^ 16, 16)])) ∧
  (∀ (d : Device) (v : Word), d.por = false → d.ring.rxs = [] → Acts (.ringRxDone v) d d) ∧
  -- RING_TXQ_PUSH counts an entry, at 1,024 it sets OVERFLOW
  (∀ d : Device, d.por = false → d.txqDepth < 1024 → Acts .ringTxqPush d (d.setTxq (d.txqDepth + 1))) ∧
  (∀ d : Device, d.por = false → 1024 ≤ d.txqDepth → Acts .ringTxqPush d (d.setFlag Fld.ringTxqStatusOverflow true)) ∧
  -- RING_RXQ_POP frees the head entry, at 0 it sets UNDERFLOW
  (∀ d : Device, d.por = false → d.rxqDepth = 0 → Acts .ringRxqPop d (d.setFlag Fld.ringRxqStatusUnderflow true)) ∧
  (∀ d : Device, d.por = false → d.rxqDepth ≠ 0 → ∃ e, Acts .ringRxqPop d e ∧ e.ring = { d.ring with rxHead := (d.ring.rxHead + 1) % 1024, seq := e.ring.seq } ∧
    e.slots = d.slots ∧ e.hwd = d.hwd)

/-- A granted write of a register (R9, R10, R18, R20, R36, R582). Choices of the model: assumption log 17. -/
def Obligations.RegisterWrites : Prop :=
  -- an address with no register is a decode error with event 432, an access that is not an aligned dword an error, a function that is not ready NOTREADY
  (∀ (d : Device) (t : Fin 64) (a : BitVec 40) (v : Word), d.por = false →
    (regSpecAt (a.toNat / 4 * 4) = none →
      Acts (.registerWrite t a v) d ((d.decodeError (masterOfTcid t.val) t.val a.toNat true).emit (.resp 1 0))) ∧
    (regSpecAt (a.toNat / 4 * 4) ≠ none → a.toNat % 4 ≠ 0 → Acts (.registerWrite t a v) d (d.emit (.resp 4 0))) ∧
    (∀ g, regSpecAt a.toNat ≠ none → a.toNat % 4 = 0 → targetOf a.toNat = some g → d.targetReady g a.toNat = false →
      Acts (.registerWrite t a v) d (d.emit (.resp 3 0)))) ∧
  -- any register of a function that is ready takes its write, which is answered GOOD
  (∀ (s : State) (t : Fin 64) (a : BitVec 40) (v : Word) (g : Nat), s.dev.por = false → regSpecAt a.toNat ≠ none → a.toNat % 4 = 0 →
    targetOf a.toNat = some g → s.dev.targetReady g a.toNat = true →
    ∃ u, u = (s.mapDev id).regWrite t.val a.toNat v.toNat ∧
      exec (.registerWrite t a v) s = .next { u with dev := u.dev.emit (.resp 0 0) }) ∧
  -- registers without effects of their own take what the access codes give: those of the DEV_, LDR_, SEC_ and port blocks, of the
  -- access control tables and of the security engine, the commands of those blocks apart
  (∀ (d : Device) (t : Fin 64) (a : BitVec 40) (v : Word) (r : RegSpec) (g k : Nat), d.por = false → k = a.toNat →
    regSpecAt k = some r → k % 4 = 0 → targetOf k = some g → d.targetReady g k = true →
    ((0x80000000 ≤ k ∧ k < 0x80010000 ∧ k ≠ Reg.devResetCmd) ∨ (0x80070000 ≤ k ∧ k < 0x80080000) ∨
      (0x800C0000 ≤ k ∧ k < 0x800D0000 ∧ k ≠ Reg.ldrJqPush ∧ k ≠ Reg.ldrSwapReq) ∨ 0x800E0000 ≤ k ∨
      (0x80051000 ≤ k ∧ k < 0x80060000 ∧ (k % 0x1000 < 0x100 ∨ 0x110 ≤ k % 0x1000)) ∨
      (0x30000000 ≤ k ∧ k < 0x30010000 ∧ k ≠ Reg.engOp)) →
    Acts (.registerWrite t a v) d ((d.wr k (regAfter (d.blockLocked k) r (d.rd k) v.toNat)).emit (.resp 0 0))) ∧
  -- after such a write each field of any register holds what its access code says, and every other bit is as it was
  (∀ (a : Nat) (r : RegSpec) (f : FieldSpec) (locked : Bool) (old v w o x : Nat), regSpecAt a = some r → f ∈ r.fields → old < 2 ^ 32 →
    v < 2 ^ 32 → w = bitsOf (regAfter locked r old v) f.lo f.width → o = bitsOf old f.lo f.width → x = bitsOf v f.lo f.width →
    (f.acc = .rw → w = x) ∧ (f.acc = .ro → w = o) ∧ (f.acc = .wo → w = o) ∧ (f.acc = .rwl → w = if locked then o else x) ∧
    (f.acc = .clr → w = if x = 0 then o else 0) ∧
    (∀ i < f.width, (f.acc = .w1c → bitOf w i = (bitOf o i && !bitOf x i)) ∧ (f.acc = .w1s → bitOf w i = (bitOf o i || bitOf x i)))) ∧
  (∀ (a : Nat) (r : RegSpec) (locked : Bool) (old v i : Nat), regSpecAt a = some r → old < 2 ^ 32 → v < 2 ^ 32 →
    (∀ f ∈ r.fields, i < f.lo ∨ f.lo + f.width ≤ i) → bitOf (regAfter locked r old v) i = bitOf old i) ∧
  -- entries 0 and 1 of every access control table are hardwired
  (∀ (d : Device) (t : Fin 64) (a : BitVec 40) (v : Word), d.por = false → regSpecAt a.toNat ≠ none → a.toNat % 4 = 0 →
    d.flag Fld.devReadyAon = true → 0x80051000 ≤ a.toNat → a.toNat < 0x80060000 → 0x100 ≤ a.toNat % 0x1000 → a.toNat % 0x1000 < 0x110 →
    Acts (.registerWrite t a v) d (d.emit (.resp 0 0))) ∧
  -- a write that is a command of its own acts as that command
  (∀ (d e : Device) (t : Fin 64) (v : Word), d.por = false → d.flag Fld.devReadyAon = true →
    (Acts .actDenyPop d e → Acts (.registerWrite t (BitVec.ofNat 40 Reg.actDenyPop) v) d (e.emit (.resp 0 0))) ∧
    (v = 0x53460007 → Acts (.injectTemp t) d e → Acts (.registerWrite t (BitVec.ofNat 40 Reg.safeTest) v) d (e.emit (.resp 0 0))) ∧
    (Acts (.turnPeriodWrite v) d e → Acts (.registerWrite t (BitVec.ofNat 40 Reg.turnPeriod) v) d (e.emit (.resp 0 0))) ∧
    (Acts (.turnOvrClr v) d e → Acts (.registerWrite t (BitVec.ofNat 40 Reg.turnOvrClr) v) d (e.emit (.resp 0 0))) ∧
    (Acts (.devResetCmd v) d e → Acts (.registerWrite t (BitVec.ofNat 40 Reg.devResetCmd) v) d (e.emit (.resp 0 0))) ∧
    (Acts .scribeAck d e → Acts (.registerWrite t (BitVec.ofNat 40 Reg.scribeAck) v) d (e.emit (.resp 0 0))) ∧
    (Acts .ringTxqPush d e → Acts (.registerWrite t (BitVec.ofNat 40 Reg.ringTxqPush) v) d (e.emit (.resp 0 0))) ∧
    (Acts .ringRxqPop d e → Acts (.registerWrite t (BitVec.ofNat 40 Reg.ringRxqPop) v) d (e.emit (.resp 0 0))) ∧
    (∀ n : Fin 16,
      (Acts (.mbInPush n) d e → Acts (.registerWrite t (BitVec.ofNat 40 (Reg.mbInPush n)) v) d (e.emit (.resp 0 0))) ∧
      (Acts (.mbOutPop n) d e → Acts (.registerWrite t (BitVec.ofNat 40 (Reg.mbOutPop n)) v) d (e.emit (.resp 0 0))) ∧
      (v = 1 → Acts (.slcReqHold n t) d e → Acts (.registerWrite t (BitVec.ofNat 40 (Reg.slcReq n)) v) d (e.emit (.resp 0 0)))) ∧
    (∀ q : Fin 3,
      (Acts (.hwdQPush q) d e → Acts (.registerWrite t (BitVec.ofNat 40 (Reg.hwdQPush q)) v) d (e.emit (.resp 0 0))) ∧
      (Acts (.hwdQCpop q) d e → Acts (.registerWrite t (BitVec.ofNat 40 (Reg.hwdQCpop q)) v) d (e.emit (.resp 0 0)))) ∧
    (d.flag Fld.devReadySec = true → v = 1 → Acts (.hash t) d e →
      Acts (.registerWrite t (BitVec.ofNat 40 Reg.engOp) v) d (e.emit (.resp 0 0)))) ∧
  (∀ (d : Device) (t : Fin 64) (q : Fin 4) (v : Word), d.por = false → d.flag Fld.devReadyAon = true →
    Reaches (.registerWrite t (BitVec.ofNat 40 (Reg.evtQPop q.val)) v) d fun s u =>
      ∀ p, exec (.evtQPop q) s = .next p → u = { p with dev := p.dev.emit (.resp 0 0) })

/-- A step takes the command at the front of the queue and runs it on the machine with the rest of the queue; on an empty queue one
REFCLK period passes, which the model chose as its idle step (assumption log 10). -/
def Obligations.StepRunsFrontCommand : Prop :=
  (∀ (s : State) (c : Instr) (rest : List Instr), s.pending = c :: rest → step s = exec c { s with pending := rest }) ∧
  ∀ s : State, s.pending = [] → ∃ t, step s = .next t ∧ t.pending = [] ∧ t.evq = s.evq ∧ t.mtx = s.mtx ∧
    (s.dev.turn.inEdge = none → t.dev.mem = s.dev.mem ∧ t.dev.slots.map (·.mc) = s.dev.slots.map (·.mc)) ∧ t.dev.now = s.dev.now + 1 ∧ t.dev.epoch = s.dev.epoch + (if s.dev.refclk = true ∧ s.dev.por = false then 1 else 0)

/-- Every command answers a next state, whatever the machine holds, and leaves the waiting commands as they are. -/
def Obligations.EveryCommandAnswers : Prop :=
  ∀ (c : Instr) (s : State), ∃ t, exec c s = .next t ∧ t.pending = s.pending

/-- While power-on reset is held, no command but those of the reset, the supplies, the balls and the VBAT domain changes anything: only
the outputs of the command before are gone (R87, R88, R112, R117, R787, R911). -/
def Obligations.PowerOnResetHolds : Prop :=
  ∀ (c : Instr) (s : State), s.dev.por = true → actsInPowerOnReset c = false →
    exec c s = .next { s with dev := { s.dev with out := [] } }

/-- Every step keeps the event queues within 64 records, the queues of the matrix within the credits, and the masters within their most
outstanding transactions (R565, R568, R740, R845, R846). -/
def Obligations.StepKeepsInvariant : Prop :=
  ∀ s t : State, s.Inv → step s = .next t → t.Inv

/-- The machine as power-on reset holds it: the invariant holds, nothing waits, every register reads its Reset value, every slot is EMPTY,
ON and unbound, and every byte reads as one that nothing has written. Reset values that no table gives are the model's (assumption log
2, 6 and 7). -/
def Obligations.ResetMeetsInvariant : Prop :=
  State.reset.Inv ∧ State.reset.pending = [] ∧ State.reset.dev.por = true ∧ (∀ q : Fin 4, State.reset.evq[q] = []) ∧
  (∀ a, State.reset.dev.rd a = (regReset a).toNat) ∧ State.reset.dev.rd Reg.turnPeriod = 10000 ∧
  State.reset.dev.rd Reg.pwrDomStatus = 0x3FFFFF ∧ State.reset.dev.rd (Reg.evtEnable 15) = 0xFFFF ∧
  (∀ n, State.reset.dev.slot n = Slot.reset) ∧ (∀ a, State.reset.dev.byte a = memDefault a) ∧
  ∀ c, actsInPowerOnReset c = false → exec c State.reset = .next State.reset

/-- The check code (R377, R378): each check bit is the parity the code gives, a stored word decodes clean, any one flipped bit of the 72
is corrected, and any two are found uncorrectable. -/
def Obligations.CheckCode : Prop :=
  -- c0 to c6 are the parities of the data bits whose position has that bit set, c7 that of the word with c0 to c6
  (∀ w < 2 ^ 64, checkByte w < 256 ∧
    (∀ j < 7, bitOf (checkByte w) j = ((List.range 64).foldl (fun p i => p != (bitOf w i && bitOf (dataPos i) j)) false)) ∧
    bitOf (checkByte w) 7 = (popParity 64 w != popParity 7 (checkByte w))) ∧
  checkByte 0 = 0 ∧
  -- the syndrome and the parity of the 72 stored bits
  (∀ w < 2 ^ 64, ∀ c < 256, eccS w c < 128 ∧ (∀ j < 7, bitOf (eccS w c) j = (bitOf c j != bitOf (checkByte w) j)) ∧
    eccP w c = (popParity 64 w != popParity 8 c)) ∧
  -- the "Decode outcomes" table
  (∀ w c : Nat, (eccP w c = false → eccS w c = 0 → eccDecode w c = .clean) ∧
    (eccP w c = false → eccS w c ≠ 0 → eccDecode w c = .uncorrectable) ∧ (eccP w c = true → 71 < eccS w c → eccDecode w c = .uncorrectable) ∧
    (eccP w c = true → eccS w c = 0 → eccDecode w c = .corrected w) ∧
    (∀ i < 64, eccP w c = true → eccS w c = dataPos i → eccDecode w c = .corrected (withBit w i (!bitOf w i))) ∧
    (∀ j < 7, eccP w c = true → eccS w c = 2 ^ j → eccDecode w c = .corrected w)) ∧
  -- what it gives for words stored with their check byte
  (∀ w < 2 ^ 64, eccDecode w (checkByte w) = .clean ∧
    (∀ i < 64, eccDecode (withBit w i (!bitOf w i)) (checkByte w) = .corrected w) ∧
    (∀ j < 8, eccDecode w (withBit (checkByte w) j (!bitOf (checkByte w) j)) = .corrected w) ∧
    (∀ i < 64, ∀ k < 64, i ≠ k →
      eccDecode (withBit (withBit w i (!bitOf w i)) k (!bitOf w k)) (checkByte w) = .uncorrectable) ∧
    (∀ i < 64, ∀ j < 8, eccDecode (withBit w i (!bitOf w i)) (withBit (checkByte w) j (!bitOf (checkByte w) j)) = .uncorrectable) ∧
    ∀ i < 8, ∀ j < 8, i ≠ j →
      eccDecode w (withBit (withBit (checkByte w) i (!bitOf (checkByte w) i)) j (!bitOf (checkByte w) j)) = .uncorrectable)

/-- The judgement of a granted transaction (R563): the first step that fails sets the response and the target is not reached; a
transaction that passes every step is performed by its target. Choices of the model: assumption log 19, 22 and 23. -/
def Obligations.JudgementOrder : Prop :=
  ∀ (s u : State) (t : Fin 8) (x : Txn) (fault code : Nat) (data : List Byte) (m tcid : Nat), m = x.master.val → tcid = txnTcid x →
    s.dev.safety.inj = none → s.judge t x fault = (code, data, u) →
    let integrity : Prop := x.corrupt = true ∨ fault = 1
    let unmapped : Prop := s.dev.decode x.addr.toNat = none
    let noPath : Prop := s.dev.hasPath m t.val x.write = false
    let lockRules : Prop := ((x.lock = true ∨ x.lockEnd = true) ∧ m ∈ s.mtx.locks[t].broken) ∨
      (¬ ((x.lock = true ∨ x.lockEnd = true) ∧ m ∈ s.mtx.locks[t].broken) ∧ x.lock = true ∧ ∃ t', s.mtx.lockOf m = some t' ∧ t' ≠ t)
    let denied : Prop := s.dev.actGrants t.val m tcid x.addr.toNat x.write = false
    let notReady : Prop := s.dev.targetReady t.val x.addr.toNat = false
    (integrity → code = 6) ∧
    (¬ integrity → unmapped → code = 1) ∧
    (¬ integrity → ¬ unmapped → noPath → code = 2) ∧
    (¬ integrity → ¬ unmapped → ¬ noPath → lockRules → code = 5) ∧
    (¬ integrity → ¬ unmapped → ¬ noPath → ¬ lockRules → denied → code = 2) ∧
    (¬ integrity → ¬ unmapped → ¬ noPath → ¬ lockRules → ¬ denied → notReady → code = 3) ∧
    (integrity ∨ unmapped ∨ noPath ∨ lockRules ∨ denied ∨ notReady →
      data = [] ∧ u.evq = s.evq ∧ u.mtx.queues = s.mtx.queues ∧ u.dev.mem = s.dev.mem ∧ u.dev.slots = s.dev.slots) ∧
    (¬ integrity → ¬ unmapped → ¬ noPath → ¬ lockRules → ¬ denied → ¬ notReady → (code, data, u) = s.performTxn t x fault)

/-- A lock held too long is released by force, and the holder's next locked transaction to that target receives LOCKERR and is not
performed (R578). LOCK_FORCED_RELEASE is the end of the 64th cycle. Choices of the model: assumption log 8 and 18. -/
def Obligations.ForcedLockRelease : Prop :=
  (∀ (s : State) (k : Fin 8) (m : Nat), s.dev.por = false → s.mtx.locks[k].holder = some m →
    ∃ t, exec (.lockForcedRelease k) s = .next t ∧ t.mtx.locks[k].holder = none ∧ m ∈ t.mtx.locks[k].broken ∧ t.mtx.queues = s.mtx.queues ∧
      t.dev.evtStatus 436 = true ∧ t.dev.fld Fld.bmxLockForcedCount =
        satInc (2 ^ Fld.bmxLockForcedCount.width - 1) (s.dev.fld Fld.bmxLockForcedCount)) ∧
  ∀ (s : State) (d : Device) (k : Fin 8) (m : Nat) (tied : Bool) (e : MtxEntry), d = (s.mapDev id).dev → d.por = false →
    d.safety.inj = none → s.mtx.waiting = [] → (s.mapDev id).winner k = some (m, tied) → s.mtx.headOf k m = some e →
    m = 3 ∨ m = 5 → e.txn.master.val = m → e.txn.lock = true ∨ e.txn.lockEnd = true → e.txn.corrupt = false →
    m ∈ s.mtx.locks[k].broken → d.decode e.txn.addr.toNat = some k.val → d.hasPath m k.val e.txn.write = true →
    ∃ t, exec (.matrixGrant k [] 0) s = .next t ∧ .matrix m 5 [] ∈ t.dev.out ∧ m ∉ t.mtx.locks[k].broken ∧ t.dev.mem = d.mem ∧
      t.dev.slots = d.slots ∧ t.mtx.queues = s.mtx.queues.set k (s.mtx.queues[k].erase e)

/-- Raising an event (R837, R838, R843, R844): the ENABLE bit and the route of that instant govern the raise. -/
def Obligations.EventRaises : Prop :=
  -- STATUS is set at once, whatever ENABLE holds
  (∀ (d : Device) (e syn : Nat), e < 512 → (d.raiseSyn e syn).evtStatus e = true) ∧
  -- with ENABLE 0 the raise makes no delivery and drives no level output
  (∀ (d : Device) (e syn : Nat), e < 512 → d.evtEnable e = false →
    (d.raiseSyn e syn).latches = d.latches ∧ (d.raiseSyn e syn).smbAlert = d.smbAlert ∧
    (d.raiseSyn e syn).safeRequest = d.safeRequest ∧ (d.raiseSyn e syn).ringFaultBit = d.ringFaultBit) ∧
  -- with ENABLE 1 a latch keeps the syndrome, the turn and the route of that instant; a latch that was set counts the merge
  (∀ (d : Device) (e syn : Nat) (turn route : BitVec 32), e < 512 → d.evtEnable e = true → turn = BitVec.ofNat 32 (d.rd Reg.turnCountLo) →
    route = BitVec.ofNat 32 (d.rd (Reg.evtRoute e)) →
    ((∀ y ∈ d.latches, y.event ≠ e) → (⟨e, BitVec.ofNat 64 syn, turn, route, 0⟩ : RaiseLatch) ∈ (d.raiseSyn e syn).latches) ∧
    (∀ y ∈ d.latches, y.event = e →
      (⟨e, BitVec.ofNat 64 syn, turn, route, satInc 255 y.merge⟩ : RaiseLatch) ∈ (d.raiseSyn e syn).latches) ∧
    (∀ x ∈ (d.raiseSyn e syn).latches, x.event = e → x.syn = BitVec.ofNat 64 syn ∧ x.turn = turn ∧ x.route = route) ∧
    (∀ y, y.event ≠ e → (y ∈ (d.raiseSyn e syn).latches ↔ y ∈ d.latches)) ∧
    (d.latches.Pairwise (fun x y => x.event < y.event) → (d.raiseSyn e syn).latches.Pairwise (fun x y => x.event < y.event))) ∧
  -- a later write to ENABLE or to the route has no effect on a raise already made
  (∀ (d : Device) (e v : Nat), (d.wr (Reg.evtEnable e) v).latches = d.latches ∧ (d.wr (Reg.evtRoute e) v).latches = d.latches)

/-- Memory in its canonical form: a byte string reads back as it was stored, a number as its low bytes, a cleared range as one that
nothing has written, and two memories that read the same are the same. Choices of the model: assumption log 2. -/
def Obligations.MemoryReadsBack : Prop :=
  -- a byte string and a number read back, whatever was there
  (∀ (d : Device) (a : Nat) (bs : List Byte), (d.setBytes a bs).bytes a bs.length = bs) ∧
  (∀ (d : Device) (a n v : Nat), (d.setLe a n v).le a n = v % 256 ^ n) ∧
  -- the bytes outside those stored or cleared are as before
  (∀ (d : Device) (a k : Nat) (bs : List Byte), k < a ∨ a + bs.length ≤ k → (d.setBytes a bs).byte k = d.byte k) ∧
  (∀ (d : Device) (a len k : Nat), (d.clearMem a len).byte k = if a ≤ k ∧ k < a + len then memDefault k else d.byte k) ∧
  -- storing and clearing keep the canonical form
  (∀ (d : Device) (a len : Nat) (bs : List Byte), Memory.wf d.mem = true →
    Memory.wf (d.setBytes a bs).mem = true ∧ Memory.wf (d.clearMem a len).mem = true) ∧
  -- in that form, memories that read the same are the same
  ∀ m n : List Host.Cell, Memory.wf m = true → Memory.wf n = true → (∀ a, Sparse.get memDefault m a = Sparse.get memDefault n a) → m = n
end

