-- ==== Sys2Proof/Laws/Acts.lean ====
section
/-! SUPPORT. What a command does, from the shape of its meaning: the device alone, the device out of power-on reset, a Heartwood
command in progress. -/

namespace Sys2Proof.Machine

variable {c : Instr} {d e : Device}

@[simp] theorem State.mapDev_id_por (s : State) : (s.mapDev id).dev.por = s.dev.por := rfl

theorem act_eq (s : State) (f : Device → Device) : act s f = .next { s with dev := f (s.mapDev id).dev } := rfl

theorem actOn_eq (s : State) (f : Device → Device) :
    actOn s f = .next { s with dev := if s.dev.por then (s.mapDev id).dev else f (s.mapDev id).dev } := rfl

theorem actState_eq (s : State) (f : State → State) :
    actState s f = .next (if s.dev.por then s.mapDev id else f (s.mapDev id)) := rfl

/-- A command that acts on the device alone. -/
theorem acts_of_act {f : Device → Device} (h : ∀ s, exec c s = act s f) (he : f d = e) : Acts c d e := by
  rintro s rfl
  rw [h, act_eq, he]

/-- A command that acts on a device out of power-on reset. -/
theorem acts_of_actOn {f : Device → Device} (h : ∀ s, exec c s = actOn s f) (hp : d.por = false) (he : f d = e) :
    Acts c d e := by
  rintro s rfl
  rw [h, actOn_eq, if_neg (by simpa using hp), he]

/-- A Heartwood command in progress. -/
theorem acts_of_hwdRow {cid op : Nat} {sub : HwdCmd → Bool} {f : HwdCmd → Device → Device} {k : HwdCmd}
    (h : ∀ s, exec c s = hwdRow cid op sub f s) (ht : Taken d cid op k) (hs : sub k = true) (he : f k d = e) : Acts c d e := by
  obtain ⟨hp, hf, hc, ho, hg⟩ := ht
  refine acts_of_actOn (f := fun d => match d.cmd cid with
    | some c => if d.fwRuns && c.op == op && c.stage == 0 && sub c then f c d else d
    | none => d) h hp ?_
  simp [hc, hf, ho, hg, hs, he]

/-- The serial number under which a command is found is its own. -/
theorem Device.cmd_cid {cid : Nat} {k : HwdCmd} (h : d.cmd cid = some k) : k.cid = cid := by
  simpa using List.find?_some h

/-- A command that reaches beyond the device. -/
theorem reaches_of_actState {f : State → State} {post : State → State → Prop} (h : ∀ s, exec c s = actState s f)
    (hp : d.por = false) (he : ∀ s : State, (s.mapDev id).dev = d → post s (f (s.mapDev id))) : Reaches c d post := by
  rintro s rfl
  refine ⟨f (s.mapDev id), ?_, he s rfl⟩
  rw [h, actState_eq, if_neg (by simpa using hp)]

end Sys2Proof.Machine
end

