-- ==== Sys2Proof/Laws/State.lean ====
section
/-! SUPPORT. What each update of the device leaves as it was: one lemma per field and update. -/

namespace Sys2Proof.Machine

/-! ### `Device.wr` -/

@[simp] theorem Device.wr_por (d : Device) (a v : Nat) : (d.wr a v).por = d.por := rfl
@[simp] theorem Device.wr_warm (d : Device) (a v : Nat) : (d.wr a v).warm = d.warm := rfl
@[simp] theorem Device.wr_now (d : Device) (a v : Nat) : (d.wr a v).now = d.now := rfl
@[simp] theorem Device.wr_epoch (d : Device) (a v : Nat) : (d.wr a v).epoch = d.epoch := rfl
@[simp] theorem Device.wr_refclk (d : Device) (a v : Nat) : (d.wr a v).refclk = d.refclk := rfl
@[simp] theorem Device.wr_freeCtr (d : Device) (a v : Nat) : (d.wr a v).freeCtr = d.freeCtr := rfl
@[simp] theorem Device.wr_mem (d : Device) (a v : Nat) : (d.wr a v).mem = d.mem := rfl
@[simp] theorem Device.wr_slots (d : Device) (a v : Nat) : (d.wr a v).slots = d.slots := rfl
@[simp] theorem Device.wr_latches (d : Device) (a v : Nat) : (d.wr a v).latches = d.latches := rfl
@[simp] theorem Device.wr_turn (d : Device) (a v : Nat) : (d.wr a v).turn = d.turn := rfl
@[simp] theorem Device.wr_scribe (d : Device) (a v : Nat) : (d.wr a v).scribe = d.scribe := rfl
@[simp] theorem Device.wr_hwd (d : Device) (a v : Nat) : (d.wr a v).hwd = d.hwd := rfl
@[simp] theorem Device.wr_loader (d : Device) (a v : Nat) : (d.wr a v).loader = d.loader := rfl
@[simp] theorem Device.wr_ports (d : Device) (a v : Nat) : (d.wr a v).ports = d.ports := rfl
@[simp] theorem Device.wr_bench (d : Device) (a v : Nat) : (d.wr a v).bench = d.bench := rfl
@[simp] theorem Device.wr_grain (d : Device) (a v : Nat) : (d.wr a v).grain = d.grain := rfl
@[simp] theorem Device.wr_resident (d : Device) (a v : Nat) : (d.wr a v).resident = d.resident := rfl
@[simp] theorem Device.wr_jtag (d : Device) (a v : Nat) : (d.wr a v).jtag = d.jtag := rfl
@[simp] theorem Device.wr_safety (d : Device) (a v : Nat) : (d.wr a v).safety = d.safety := rfl
@[simp] theorem Device.wr_ring (d : Device) (a v : Nat) : (d.wr a v).ring = d.ring := rfl
@[simp] theorem Device.wr_power (d : Device) (a v : Nat) : (d.wr a v).power = d.power := rfl
@[simp] theorem Device.wr_sec (d : Device) (a v : Nat) : (d.wr a v).sec = d.sec := rfl
@[simp] theorem Device.wr_smb (d : Device) (a v : Nat) : (d.wr a v).smb = d.smb := rfl
@[simp] theorem Device.wr_denials (d : Device) (a v : Nat) : (d.wr a v).denials = d.denials := rfl
@[simp] theorem Device.wr_out (d : Device) (a v : Nat) : (d.wr a v).out = d.out := rfl
@[simp] theorem Device.wr_byte (d : Device) (a v : Nat) (k : Nat) : (d.wr a v).byte k = d.byte k := rfl
@[simp] theorem Device.wr_slot (d : Device) (a v : Nat) (m : Fin 16) : (d.wr a v).slot m = d.slot m := rfl
@[simp] theorem Device.wr_cmd (d : Device) (a v : Nat) (k : Nat) : (d.wr a v).cmd k = d.cmd k := rfl

/-! ### `Device.setFld` -/

@[simp] theorem Device.setFld_por (d : Device) (f : Fld) (v : Nat) : (d.setFld f v).por = d.por := rfl
@[simp] theorem Device.setFld_warm (d : Device) (f : Fld) (v : Nat) : (d.setFld f v).warm = d.warm := rfl
@[simp] theorem Device.setFld_now (d : Device) (f : Fld) (v : Nat) : (d.setFld f v).now = d.now := rfl
@[simp] theorem Device.setFld_epoch (d : Device) (f : Fld) (v : Nat) : (d.setFld f v).epoch = d.epoch := rfl
@[simp] theorem Device.setFld_refclk (d : Device) (f : Fld) (v : Nat) : (d.setFld f v).refclk = d.refclk := rfl
@[simp] theorem Device.setFld_freeCtr (d : Device) (f : Fld) (v : Nat) : (d.setFld f v).freeCtr = d.freeCtr := rfl
@[simp] theorem Device.setFld_mem (d : Device) (f : Fld) (v : Nat) : (d.setFld f v).mem = d.mem := rfl
@[simp] theorem Device.setFld_slots (d : Device) (f : Fld) (v : Nat) : (d.setFld f v).slots = d.slots := rfl
@[simp] theorem Device.setFld_latches (d : Device) (f : Fld) (v : Nat) : (d.setFld f v).latches = d.latches := rfl
@[simp] theorem Device.setFld_turn (d : Device) (f : Fld) (v : Nat) : (d.setFld f v).turn = d.turn := rfl
@[simp] theorem Device.setFld_scribe (d : Device) (f : Fld) (v : Nat) : (d.setFld f v).scribe = d.scribe := rfl
@[simp] theorem Device.setFld_hwd (d : Device) (f : Fld) (v : Nat) : (d.setFld f v).hwd = d.hwd := rfl
@[simp] theorem Device.setFld_loader (d : Device) (f : Fld) (v : Nat) : (d.setFld f v).loader = d.loader := rfl
@[simp] theorem Device.setFld_ports (d : Device) (f : Fld) (v : Nat) : (d.setFld f v).ports = d.ports := rfl
@[simp] theorem Device.setFld_bench (d : Device) (f : Fld) (v : Nat) : (d.setFld f v).bench = d.bench := rfl
@[simp] theorem Device.setFld_grain (d : Device) (f : Fld) (v : Nat) : (d.setFld f v).grain = d.grain := rfl
@[simp] theorem Device.setFld_resident (d : Device) (f : Fld) (v : Nat) : (d.setFld f v).resident = d.resident := rfl
@[simp] theorem Device.setFld_jtag (d : Device) (f : Fld) (v : Nat) : (d.setFld f v).jtag = d.jtag := rfl
@[simp] theorem Device.setFld_safety (d : Device) (f : Fld) (v : Nat) : (d.setFld f v).safety = d.safety := rfl
@[simp] theorem Device.setFld_ring (d : Device) (f : Fld) (v : Nat) : (d.setFld f v).ring = d.ring := rfl
@[simp] theorem Device.setFld_power (d : Device) (f : Fld) (v : Nat) : (d.setFld f v).power = d.power := rfl
@[simp] theorem Device.setFld_sec (d : Device) (f : Fld) (v : Nat) : (d.setFld f v).sec = d.sec := rfl
@[simp] theorem Device.setFld_smb (d : Device) (f : Fld) (v : Nat) : (d.setFld f v).smb = d.smb := rfl
@[simp] theorem Device.setFld_denials (d : Device) (f : Fld) (v : Nat) : (d.setFld f v).denials = d.denials := rfl
@[simp] theorem Device.setFld_out (d : Device) (f : Fld) (v : Nat) : (d.setFld f v).out = d.out := rfl
@[simp] theorem Device.setFld_byte (d : Device) (f : Fld) (v : Nat) (k : Nat) : (d.setFld f v).byte k = d.byte k := rfl
@[simp] theorem Device.setFld_slot (d : Device) (f : Fld) (v : Nat) (m : Fin 16) : (d.setFld f v).slot m = d.slot m := rfl
@[simp] theorem Device.setFld_cmd (d : Device) (f : Fld) (v : Nat) (k : Nat) : (d.setFld f v).cmd k = d.cmd k := rfl

/-! ### `Device.setFlag` -/

@[simp] theorem Device.setFlag_por (d : Device) (f : Fld) (b : Bool) : (d.setFlag f b).por = d.por := rfl
@[simp] theorem Device.setFlag_warm (d : Device) (f : Fld) (b : Bool) : (d.setFlag f b).warm = d.warm := rfl
@[simp] theorem Device.setFlag_now (d : Device) (f : Fld) (b : Bool) : (d.setFlag f b).now = d.now := rfl
@[simp] theorem Device.setFlag_epoch (d : Device) (f : Fld) (b : Bool) : (d.setFlag f b).epoch = d.epoch := rfl
@[simp] theorem Device.setFlag_refclk (d : Device) (f : Fld) (b : Bool) : (d.setFlag f b).refclk = d.refclk := rfl
@[simp] theorem Device.setFlag_freeCtr (d : Device) (f : Fld) (b : Bool) : (d.setFlag f b).freeCtr = d.freeCtr := rfl
@[simp] theorem Device.setFlag_mem (d : Device) (f : Fld) (b : Bool) : (d.setFlag f b).mem = d.mem := rfl
@[simp] theorem Device.setFlag_slots (d : Device) (f : Fld) (b : Bool) : (d.setFlag f b).slots = d.slots := rfl
@[simp] theorem Device.setFlag_latches (d : Device) (f : Fld) (b : Bool) : (d.setFlag f b).latches = d.latches := rfl
@[simp] theorem Device.setFlag_turn (d : Device) (f : Fld) (b : Bool) : (d.setFlag f b).turn = d.turn := rfl
@[simp] theorem Device.setFlag_scribe (d : Device) (f : Fld) (b : Bool) : (d.setFlag f b).scribe = d.scribe := rfl
@[simp] theorem Device.setFlag_hwd (d : Device) (f : Fld) (b : Bool) : (d.setFlag f b).hwd = d.hwd := rfl
@[simp] theorem Device.setFlag_loader (d : Device) (f : Fld) (b : Bool) : (d.setFlag f b).loader = d.loader := rfl
@[simp] theorem Device.setFlag_ports (d : Device) (f : Fld) (b : Bool) : (d.setFlag f b).ports = d.ports := rfl
@[simp] theorem Device.setFlag_bench (d : Device) (f : Fld) (b : Bool) : (d.setFlag f b).bench = d.bench := rfl
@[simp] theorem Device.setFlag_grain (d : Device) (f : Fld) (b : Bool) : (d.setFlag f b).grain = d.grain := rfl
@[simp] theorem Device.setFlag_resident (d : Device) (f : Fld) (b : Bool) : (d.setFlag f b).resident = d.resident := rfl
@[simp] theorem Device.setFlag_jtag (d : Device) (f : Fld) (b : Bool) : (d.setFlag f b).jtag = d.jtag := rfl
@[simp] theorem Device.setFlag_safety (d : Device) (f : Fld) (b : Bool) : (d.setFlag f b).safety = d.safety := rfl
@[simp] theorem Device.setFlag_ring (d : Device) (f : Fld) (b : Bool) : (d.setFlag f b).ring = d.ring := rfl
@[simp] theorem Device.setFlag_power (d : Device) (f : Fld) (b : Bool) : (d.setFlag f b).power = d.power := rfl
@[simp] theorem Device.setFlag_sec (d : Device) (f : Fld) (b : Bool) : (d.setFlag f b).sec = d.sec := rfl
@[simp] theorem Device.setFlag_smb (d : Device) (f : Fld) (b : Bool) : (d.setFlag f b).smb = d.smb := rfl
@[simp] theorem Device.setFlag_denials (d : Device) (f : Fld) (b : Bool) : (d.setFlag f b).denials = d.denials := rfl
@[simp] theorem Device.setFlag_out (d : Device) (f : Fld) (b : Bool) : (d.setFlag f b).out = d.out := rfl
@[simp] theorem Device.setFlag_byte (d : Device) (f : Fld) (b : Bool) (k : Nat) : (d.setFlag f b).byte k = d.byte k := rfl
@[simp] theorem Device.setFlag_slot (d : Device) (f : Fld) (b : Bool) (m : Fin 16) : (d.setFlag f b).slot m = d.slot m := rfl
@[simp] theorem Device.setFlag_cmd (d : Device) (f : Fld) (b : Bool) (k : Nat) : (d.setFlag f b).cmd k = d.cmd k := rfl

/-! ### `Device.incFld` -/

@[simp] theorem Device.incFld_por (d : Device) (f : Fld) : (d.incFld f).por = d.por := rfl
@[simp] theorem Device.incFld_warm (d : Device) (f : Fld) : (d.incFld f).warm = d.warm := rfl
@[simp] theorem Device.incFld_now (d : Device) (f : Fld) : (d.incFld f).now = d.now := rfl
@[simp] theorem Device.incFld_epoch (d : Device) (f : Fld) : (d.incFld f).epoch = d.epoch := rfl
@[simp] theorem Device.incFld_refclk (d : Device) (f : Fld) : (d.incFld f).refclk = d.refclk := rfl
@[simp] theorem Device.incFld_freeCtr (d : Device) (f : Fld) : (d.incFld f).freeCtr = d.freeCtr := rfl
@[simp] theorem Device.incFld_mem (d : Device) (f : Fld) : (d.incFld f).mem = d.mem := rfl
@[simp] theorem Device.incFld_slots (d : Device) (f : Fld) : (d.incFld f).slots = d.slots := rfl
@[simp] theorem Device.incFld_latches (d : Device) (f : Fld) : (d.incFld f).latches = d.latches := rfl
@[simp] theorem Device.incFld_turn (d : Device) (f : Fld) : (d.incFld f).turn = d.turn := rfl
@[simp] theorem Device.incFld_scribe (d : Device) (f : Fld) : (d.incFld f).scribe = d.scribe := rfl
@[simp] theorem Device.incFld_hwd (d : Device) (f : Fld) : (d.incFld f).hwd = d.hwd := rfl
@[simp] theorem Device.incFld_loader (d : Device) (f : Fld) : (d.incFld f).loader = d.loader := rfl
@[simp] theorem Device.incFld_ports (d : Device) (f : Fld) : (d.incFld f).ports = d.ports := rfl
@[simp] theorem Device.incFld_bench (d : Device) (f : Fld) : (d.incFld f).bench = d.bench := rfl
@[simp] theorem Device.incFld_grain (d : Device) (f : Fld) : (d.incFld f).grain = d.grain := rfl
@[simp] theorem Device.incFld_resident (d : Device) (f : Fld) : (d.incFld f).resident = d.resident := rfl
@[simp] theorem Device.incFld_jtag (d : Device) (f : Fld) : (d.incFld f).jtag = d.jtag := rfl
@[simp] theorem Device.incFld_safety (d : Device) (f : Fld) : (d.incFld f).safety = d.safety := rfl
@[simp] theorem Device.incFld_ring (d : Device) (f : Fld) : (d.incFld f).ring = d.ring := rfl
@[simp] theorem Device.incFld_power (d : Device) (f : Fld) : (d.incFld f).power = d.power := rfl
@[simp] theorem Device.incFld_sec (d : Device) (f : Fld) : (d.incFld f).sec = d.sec := rfl
@[simp] theorem Device.incFld_smb (d : Device) (f : Fld) : (d.incFld f).smb = d.smb := rfl
@[simp] theorem Device.incFld_denials (d : Device) (f : Fld) : (d.incFld f).denials = d.denials := rfl
@[simp] theorem Device.incFld_out (d : Device) (f : Fld) : (d.incFld f).out = d.out := rfl
@[simp] theorem Device.incFld_byte (d : Device) (f : Fld) (k : Nat) : (d.incFld f).byte k = d.byte k := rfl
@[simp] theorem Device.incFld_slot (d : Device) (f : Fld) (m : Fin 16) : (d.incFld f).slot m = d.slot m := rfl
@[simp] theorem Device.incFld_cmd (d : Device) (f : Fld) (k : Nat) : (d.incFld f).cmd k = d.cmd k := rfl

/-! ### `Device.setFldBit` -/

@[simp] theorem Device.setFldBit_por (d : Device) (f : Fld) (i : Nat) (b : Bool) : (d.setFldBit f i b).por = d.por := rfl
@[simp] theorem Device.setFldBit_warm (d : Device) (f : Fld) (i : Nat) (b : Bool) : (d.setFldBit f i b).warm = d.warm := rfl
@[simp] theorem Device.setFldBit_now (d : Device) (f : Fld) (i : Nat) (b : Bool) : (d.setFldBit f i b).now = d.now := rfl
@[simp] theorem Device.setFldBit_epoch (d : Device) (f : Fld) (i : Nat) (b : Bool) : (d.setFldBit f i b).epoch = d.epoch := rfl
@[simp] theorem Device.setFldBit_refclk (d : Device) (f : Fld) (i : Nat) (b : Bool) : (d.setFldBit f i b).refclk = d.refclk := rfl
@[simp] theorem Device.setFldBit_freeCtr (d : Device) (f : Fld) (i : Nat) (b : Bool) : (d.setFldBit f i b).freeCtr = d.freeCtr := rfl
@[simp] theorem Device.setFldBit_mem (d : Device) (f : Fld) (i : Nat) (b : Bool) : (d.setFldBit f i b).mem = d.mem := rfl
@[simp] theorem Device.setFldBit_slots (d : Device) (f : Fld) (i : Nat) (b : Bool) : (d.setFldBit f i b).slots = d.slots := rfl
@[simp] theorem Device.setFldBit_latches (d : Device) (f : Fld) (i : Nat) (b : Bool) : (d.setFldBit f i b).latches = d.latches := rfl
@[simp] theorem Device.setFldBit_turn (d : Device) (f : Fld) (i : Nat) (b : Bool) : (d.setFldBit f i b).turn = d.turn := rfl
@[simp] theorem Device.setFldBit_scribe (d : Device) (f : Fld) (i : Nat) (b : Bool) : (d.setFldBit f i b).scribe = d.scribe := rfl
@[simp] theorem Device.setFldBit_hwd (d : Device) (f : Fld) (i : Nat) (b : Bool) : (d.setFldBit f i b).hwd = d.hwd := rfl
@[simp] theorem Device.setFldBit_loader (d : Device) (f : Fld) (i : Nat) (b : Bool) : (d.setFldBit f i b).loader = d.loader := rfl
@[simp] theorem Device.setFldBit_ports (d : Device) (f : Fld) (i : Nat) (b : Bool) : (d.setFldBit f i b).ports = d.ports := rfl
@[simp] theorem Device.setFldBit_bench (d : Device) (f : Fld) (i : Nat) (b : Bool) : (d.setFldBit f i b).bench = d.bench := rfl
@[simp] theorem Device.setFldBit_grain (d : Device) (f : Fld) (i : Nat) (b : Bool) : (d.setFldBit f i b).grain = d.grain := rfl
@[simp] theorem Device.setFldBit_resident (d : Device) (f : Fld) (i : Nat) (b : Bool) : (d.setFldBit f i b).resident = d.resident := rfl
@[simp] theorem Device.setFldBit_jtag (d : Device) (f : Fld) (i : Nat) (b : Bool) : (d.setFldBit f i b).jtag = d.jtag := rfl
@[simp] theorem Device.setFldBit_safety (d : Device) (f : Fld) (i : Nat) (b : Bool) : (d.setFldBit f i b).safety = d.safety := rfl
@[simp] theorem Device.setFldBit_ring (d : Device) (f : Fld) (i : Nat) (b : Bool) : (d.setFldBit f i b).ring = d.ring := rfl
@[simp] theorem Device.setFldBit_power (d : Device) (f : Fld) (i : Nat) (b : Bool) : (d.setFldBit f i b).power = d.power := rfl
@[simp] theorem Device.setFldBit_sec (d : Device) (f : Fld) (i : Nat) (b : Bool) : (d.setFldBit f i b).sec = d.sec := rfl
@[simp] theorem Device.setFldBit_smb (d : Device) (f : Fld) (i : Nat) (b : Bool) : (d.setFldBit f i b).smb = d.smb := rfl
@[simp] theorem Device.setFldBit_denials (d : Device) (f : Fld) (i : Nat) (b : Bool) : (d.setFldBit f i b).denials = d.denials := rfl
@[simp] theorem Device.setFldBit_out (d : Device) (f : Fld) (i : Nat) (b : Bool) : (d.setFldBit f i b).out = d.out := rfl
@[simp] theorem Device.setFldBit_byte (d : Device) (f : Fld) (i : Nat) (b : Bool) (k : Nat) : (d.setFldBit f i b).byte k = d.byte k := rfl
@[simp] theorem Device.setFldBit_slot (d : Device) (f : Fld) (i : Nat) (b : Bool) (m : Fin 16) : (d.setFldBit f i b).slot m = d.slot m := rfl
@[simp] theorem Device.setFldBit_cmd (d : Device) (f : Fld) (i : Nat) (b : Bool) (k : Nat) : (d.setFldBit f i b).cmd k = d.cmd k := rfl

/-! ### `Device.resetRegs` -/

@[simp] theorem Device.resetRegs_por (d : Device) (lo len : Nat) : (d.resetRegs lo len).por = d.por := rfl
@[simp] theorem Device.resetRegs_warm (d : Device) (lo len : Nat) : (d.resetRegs lo len).warm = d.warm := rfl
@[simp] theorem Device.resetRegs_now (d : Device) (lo len : Nat) : (d.resetRegs lo len).now = d.now := rfl
@[simp] theorem Device.resetRegs_epoch (d : Device) (lo len : Nat) : (d.resetRegs lo len).epoch = d.epoch := rfl
@[simp] theorem Device.resetRegs_refclk (d : Device) (lo len : Nat) : (d.resetRegs lo len).refclk = d.refclk := rfl
@[simp] theorem Device.resetRegs_freeCtr (d : Device) (lo len : Nat) : (d.resetRegs lo len).freeCtr = d.freeCtr := rfl
@[simp] theorem Device.resetRegs_mem (d : Device) (lo len : Nat) : (d.resetRegs lo len).mem = d.mem := rfl
@[simp] theorem Device.resetRegs_slots (d : Device) (lo len : Nat) : (d.resetRegs lo len).slots = d.slots := rfl
@[simp] theorem Device.resetRegs_latches (d : Device) (lo len : Nat) : (d.resetRegs lo len).latches = d.latches := rfl
@[simp] theorem Device.resetRegs_turn (d : Device) (lo len : Nat) : (d.resetRegs lo len).turn = d.turn := rfl
@[simp] theorem Device.resetRegs_scribe (d : Device) (lo len : Nat) : (d.resetRegs lo len).scribe = d.scribe := rfl
@[simp] theorem Device.resetRegs_hwd (d : Device) (lo len : Nat) : (d.resetRegs lo len).hwd = d.hwd := rfl
@[simp] theorem Device.resetRegs_loader (d : Device) (lo len : Nat) : (d.resetRegs lo len).loader = d.loader := rfl
@[simp] theorem Device.resetRegs_ports (d : Device) (lo len : Nat) : (d.resetRegs lo len).ports = d.ports := rfl
@[simp] theorem Device.resetRegs_bench (d : Device) (lo len : Nat) : (d.resetRegs lo len).bench = d.bench := rfl
@[simp] theorem Device.resetRegs_grain (d : Device) (lo len : Nat) : (d.resetRegs lo len).grain = d.grain := rfl
@[simp] theorem Device.resetRegs_resident (d : Device) (lo len : Nat) : (d.resetRegs lo len).resident = d.resident := rfl
@[simp] theorem Device.resetRegs_jtag (d : Device) (lo len : Nat) : (d.resetRegs lo len).jtag = d.jtag := rfl
@[simp] theorem Device.resetRegs_safety (d : Device) (lo len : Nat) : (d.resetRegs lo len).safety = d.safety := rfl
@[simp] theorem Device.resetRegs_ring (d : Device) (lo len : Nat) : (d.resetRegs lo len).ring = d.ring := rfl
@[simp] theorem Device.resetRegs_power (d : Device) (lo len : Nat) : (d.resetRegs lo len).power = d.power := rfl
@[simp] theorem Device.resetRegs_sec (d : Device) (lo len : Nat) : (d.resetRegs lo len).sec = d.sec := rfl
@[simp] theorem Device.resetRegs_smb (d : Device) (lo len : Nat) : (d.resetRegs lo len).smb = d.smb := rfl
@[simp] theorem Device.resetRegs_denials (d : Device) (lo len : Nat) : (d.resetRegs lo len).denials = d.denials := rfl
@[simp] theorem Device.resetRegs_out (d : Device) (lo len : Nat) : (d.resetRegs lo len).out = d.out := rfl
@[simp] theorem Device.resetRegs_byte (d : Device) (lo len : Nat) (k : Nat) : (d.resetRegs lo len).byte k = d.byte k := rfl
@[simp] theorem Device.resetRegs_slot (d : Device) (lo len : Nat) (m : Fin 16) : (d.resetRegs lo len).slot m = d.slot m := rfl
@[simp] theorem Device.resetRegs_cmd (d : Device) (lo len : Nat) (k : Nat) : (d.resetRegs lo len).cmd k = d.cmd k := rfl

/-! ### `Device.setByte` -/

@[simp] theorem Device.setByte_por (d : Device) (a : Nat) (v : Byte) : (d.setByte a v).por = d.por := rfl
@[simp] theorem Device.setByte_warm (d : Device) (a : Nat) (v : Byte) : (d.setByte a v).warm = d.warm := rfl
@[simp] theorem Device.setByte_now (d : Device) (a : Nat) (v : Byte) : (d.setByte a v).now = d.now := rfl
@[simp] theorem Device.setByte_epoch (d : Device) (a : Nat) (v : Byte) : (d.setByte a v).epoch = d.epoch := rfl
@[simp] theorem Device.setByte_refclk (d : Device) (a : Nat) (v : Byte) : (d.setByte a v).refclk = d.refclk := rfl
@[simp] theorem Device.setByte_freeCtr (d : Device) (a : Nat) (v : Byte) : (d.setByte a v).freeCtr = d.freeCtr := rfl
@[simp] theorem Device.setByte_regs (d : Device) (a : Nat) (v : Byte) : (d.setByte a v).regs = d.regs := rfl
@[simp] theorem Device.setByte_slots (d : Device) (a : Nat) (v : Byte) : (d.setByte a v).slots = d.slots := rfl
@[simp] theorem Device.setByte_latches (d : Device) (a : Nat) (v : Byte) : (d.setByte a v).latches = d.latches := rfl
@[simp] theorem Device.setByte_turn (d : Device) (a : Nat) (v : Byte) : (d.setByte a v).turn = d.turn := rfl
@[simp] theorem Device.setByte_scribe (d : Device) (a : Nat) (v : Byte) : (d.setByte a v).scribe = d.scribe := rfl
@[simp] theorem Device.setByte_hwd (d : Device) (a : Nat) (v : Byte) : (d.setByte a v).hwd = d.hwd := rfl
@[simp] theorem Device.setByte_loader (d : Device) (a : Nat) (v : Byte) : (d.setByte a v).loader = d.loader := rfl
@[simp] theorem Device.setByte_ports (d : Device) (a : Nat) (v : Byte) : (d.setByte a v).ports = d.ports := rfl
@[simp] theorem Device.setByte_bench (d : Device) (a : Nat) (v : Byte) : (d.setByte a v).bench = d.bench := rfl
@[simp] theorem Device.setByte_grain (d : Device) (a : Nat) (v : Byte) : (d.setByte a v).grain = d.grain := rfl
@[simp] theorem Device.setByte_resident (d : Device) (a : Nat) (v : Byte) : (d.setByte a v).resident = d.resident := rfl
@[simp] theorem Device.setByte_jtag (d : Device) (a : Nat) (v : Byte) : (d.setByte a v).jtag = d.jtag := rfl
@[simp] theorem Device.setByte_safety (d : Device) (a : Nat) (v : Byte) : (d.setByte a v).safety = d.safety := rfl
@[simp] theorem Device.setByte_ring (d : Device) (a : Nat) (v : Byte) : (d.setByte a v).ring = d.ring := rfl
@[simp] theorem Device.setByte_power (d : Device) (a : Nat) (v : Byte) : (d.setByte a v).power = d.power := rfl
@[simp] theorem Device.setByte_sec (d : Device) (a : Nat) (v : Byte) : (d.setByte a v).sec = d.sec := rfl
@[simp] theorem Device.setByte_smb (d : Device) (a : Nat) (v : Byte) : (d.setByte a v).smb = d.smb := rfl
@[simp] theorem Device.setByte_denials (d : Device) (a : Nat) (v : Byte) : (d.setByte a v).denials = d.denials := rfl
@[simp] theorem Device.setByte_out (d : Device) (a : Nat) (v : Byte) : (d.setByte a v).out = d.out := rfl
@[simp] theorem Device.setByte_rd (d : Device) (a : Nat) (v : Byte) (k : Nat) : (d.setByte a v).rd k = d.rd k := rfl
@[simp] theorem Device.setByte_fld (d : Device) (a : Nat) (v : Byte) (g : Fld) : (d.setByte a v).fld g = d.fld g := rfl
@[simp] theorem Device.setByte_flag (d : Device) (a : Nat) (v : Byte) (g : Fld) : (d.setByte a v).flag g = d.flag g := rfl
@[simp] theorem Device.setByte_fldBit (d : Device) (a : Nat) (v : Byte) (g : Fld) (j : Nat) : (d.setByte a v).fldBit g j = d.fldBit g j := rfl
@[simp] theorem Device.setByte_slot (d : Device) (a : Nat) (v : Byte) (m : Fin 16) : (d.setByte a v).slot m = d.slot m := rfl
@[simp] theorem Device.setByte_cmd (d : Device) (a : Nat) (v : Byte) (k : Nat) : (d.setByte a v).cmd k = d.cmd k := rfl

/-! ### `Device.clearMem` -/

@[simp] theorem Device.clearMem_por (d : Device) (a len : Nat) : (d.clearMem a len).por = d.por := rfl
@[simp] theorem Device.clearMem_warm (d : Device) (a len : Nat) : (d.clearMem a len).warm = d.warm := rfl
@[simp] theorem Device.clearMem_now (d : Device) (a len : Nat) : (d.clearMem a len).now = d.now := rfl
@[simp] theorem Device.clearMem_epoch (d : Device) (a len : Nat) : (d.clearMem a len).epoch = d.epoch := rfl
@[simp] theorem Device.clearMem_refclk (d : Device) (a len : Nat) : (d.clearMem a len).refclk = d.refclk := rfl
@[simp] theorem Device.clearMem_freeCtr (d : Device) (a len : Nat) : (d.clearMem a len).freeCtr = d.freeCtr := rfl
@[simp] theorem Device.clearMem_regs (d : Device) (a len : Nat) : (d.clearMem a len).regs = d.regs := rfl
@[simp] theorem Device.clearMem_slots (d : Device) (a len : Nat) : (d.clearMem a len).slots = d.slots := rfl
@[simp] theorem Device.clearMem_latches (d : Device) (a len : Nat) : (d.clearMem a len).latches = d.latches := rfl
@[simp] theorem Device.clearMem_turn (d : Device) (a len : Nat) : (d.clearMem a len).turn = d.turn := rfl
@[simp] theorem Device.clearMem_scribe (d : Device) (a len : Nat) : (d.clearMem a len).scribe = d.scribe := rfl
@[simp] theorem Device.clearMem_hwd (d : Device) (a len : Nat) : (d.clearMem a len).hwd = d.hwd := rfl
@[simp] theorem Device.clearMem_loader (d : Device) (a len : Nat) : (d.clearMem a len).loader = d.loader := rfl
@[simp] theorem Device.clearMem_ports (d : Device) (a len : Nat) : (d.clearMem a len).ports = d.ports := rfl
@[simp] theorem Device.clearMem_bench (d : Device) (a len : Nat) : (d.clearMem a len).bench = d.bench := rfl
@[simp] theorem Device.clearMem_grain (d : Device) (a len : Nat) : (d.clearMem a len).grain = d.grain := rfl
@[simp] theorem Device.clearMem_resident (d : Device) (a len : Nat) : (d.clearMem a len).resident = d.resident := rfl
@[simp] theorem Device.clearMem_jtag (d : Device) (a len : Nat) : (d.clearMem a len).jtag = d.jtag := rfl
@[simp] theorem Device.clearMem_safety (d : Device) (a len : Nat) : (d.clearMem a len).safety = d.safety := rfl
@[simp] theorem Device.clearMem_ring (d : Device) (a len : Nat) : (d.clearMem a len).ring = d.ring := rfl
@[simp] theorem Device.clearMem_power (d : Device) (a len : Nat) : (d.clearMem a len).power = d.power := rfl
@[simp] theorem Device.clearMem_sec (d : Device) (a len : Nat) : (d.clearMem a len).sec = d.sec := rfl
@[simp] theorem Device.clearMem_smb (d : Device) (a len : Nat) : (d.clearMem a len).smb = d.smb := rfl
@[simp] theorem Device.clearMem_denials (d : Device) (a len : Nat) : (d.clearMem a len).denials = d.denials := rfl
@[simp] theorem Device.clearMem_out (d : Device) (a len : Nat) : (d.clearMem a len).out = d.out := rfl
@[simp] theorem Device.clearMem_rd (d : Device) (a len : Nat) (k : Nat) : (d.clearMem a len).rd k = d.rd k := rfl
@[simp] theorem Device.clearMem_fld (d : Device) (a len : Nat) (g : Fld) : (d.clearMem a len).fld g = d.fld g := rfl
@[simp] theorem Device.clearMem_flag (d : Device) (a len : Nat) (g : Fld) : (d.clearMem a len).flag g = d.flag g := rfl
@[simp] theorem Device.clearMem_fldBit (d : Device) (a len : Nat) (g : Fld) (j : Nat) : (d.clearMem a len).fldBit g j = d.fldBit g j := rfl
@[simp] theorem Device.clearMem_slot (d : Device) (a len : Nat) (m : Fin 16) : (d.clearMem a len).slot m = d.slot m := rfl
@[simp] theorem Device.clearMem_cmd (d : Device) (a len : Nat) (k : Nat) : (d.clearMem a len).cmd k = d.cmd k := rfl

/-! ### `Device.emit` -/

@[simp] theorem Device.emit_por (d : Device) (o : Out) : (d.emit o).por = d.por := rfl
@[simp] theorem Device.emit_warm (d : Device) (o : Out) : (d.emit o).warm = d.warm := rfl
@[simp] theorem Device.emit_now (d : Device) (o : Out) : (d.emit o).now = d.now := rfl
@[simp] theorem Device.emit_epoch (d : Device) (o : Out) : (d.emit o).epoch = d.epoch := rfl
@[simp] theorem Device.emit_refclk (d : Device) (o : Out) : (d.emit o).refclk = d.refclk := rfl
@[simp] theorem Device.emit_freeCtr (d : Device) (o : Out) : (d.emit o).freeCtr = d.freeCtr := rfl
@[simp] theorem Device.emit_mem (d : Device) (o : Out) : (d.emit o).mem = d.mem := rfl
@[simp] theorem Device.emit_regs (d : Device) (o : Out) : (d.emit o).regs = d.regs := rfl
@[simp] theorem Device.emit_slots (d : Device) (o : Out) : (d.emit o).slots = d.slots := rfl
@[simp] theorem Device.emit_latches (d : Device) (o : Out) : (d.emit o).latches = d.latches := rfl
@[simp] theorem Device.emit_turn (d : Device) (o : Out) : (d.emit o).turn = d.turn := rfl
@[simp] theorem Device.emit_scribe (d : Device) (o : Out) : (d.emit o).scribe = d.scribe := rfl
@[simp] theorem Device.emit_hwd (d : Device) (o : Out) : (d.emit o).hwd = d.hwd := rfl
@[simp] theorem Device.emit_loader (d : Device) (o : Out) : (d.emit o).loader = d.loader := rfl
@[simp] theorem Device.emit_ports (d : Device) (o : Out) : (d.emit o).ports = d.ports := rfl
@[simp] theorem Device.emit_bench (d : Device) (o : Out) : (d.emit o).bench = d.bench := rfl
@[simp] theorem Device.emit_grain (d : Device) (o : Out) : (d.emit o).grain = d.grain := rfl
@[simp] theorem Device.emit_resident (d : Device) (o : Out) : (d.emit o).resident = d.resident := rfl
@[simp] theorem Device.emit_jtag (d : Device) (o : Out) : (d.emit o).jtag = d.jtag := rfl
@[simp] theorem Device.emit_safety (d : Device) (o : Out) : (d.emit o).safety = d.safety := rfl
@[simp] theorem Device.emit_ring (d : Device) (o : Out) : (d.emit o).ring = d.ring := rfl
@[simp] theorem Device.emit_power (d : Device) (o : Out) : (d.emit o).power = d.power := rfl
@[simp] theorem Device.emit_sec (d : Device) (o : Out) : (d.emit o).sec = d.sec := rfl
@[simp] theorem Device.emit_smb (d : Device) (o : Out) : (d.emit o).smb = d.smb := rfl
@[simp] theorem Device.emit_denials (d : Device) (o : Out) : (d.emit o).denials = d.denials := rfl
@[simp] theorem Device.emit_rd (d : Device) (o : Out) (k : Nat) : (d.emit o).rd k = d.rd k := rfl
@[simp] theorem Device.emit_fld (d : Device) (o : Out) (g : Fld) : (d.emit o).fld g = d.fld g := rfl
@[simp] theorem Device.emit_flag (d : Device) (o : Out) (g : Fld) : (d.emit o).flag g = d.flag g := rfl
@[simp] theorem Device.emit_fldBit (d : Device) (o : Out) (g : Fld) (j : Nat) : (d.emit o).fldBit g j = d.fldBit g j := rfl
@[simp] theorem Device.emit_byte (d : Device) (o : Out) (k : Nat) : (d.emit o).byte k = d.byte k := rfl
@[simp] theorem Device.emit_slot (d : Device) (o : Out) (m : Fin 16) : (d.emit o).slot m = d.slot m := rfl
@[simp] theorem Device.emit_cmd (d : Device) (o : Out) (k : Nat) : (d.emit o).cmd k = d.cmd k := rfl

/-! ### `Device.modSlot` -/

@[simp] theorem Device.modSlot_por (d : Device) (n : Fin 16) (f : Slot → Slot) : (d.modSlot n f).por = d.por := rfl
@[simp] theorem Device.modSlot_warm (d : Device) (n : Fin 16) (f : Slot → Slot) : (d.modSlot n f).warm = d.warm := rfl
@[simp] theorem Device.modSlot_now (d : Device) (n : Fin 16) (f : Slot → Slot) : (d.modSlot n f).now = d.now := rfl
@[simp] theorem Device.modSlot_epoch (d : Device) (n : Fin 16) (f : Slot → Slot) : (d.modSlot n f).epoch = d.epoch := rfl
@[simp] theorem Device.modSlot_refclk (d : Device) (n : Fin 16) (f : Slot → Slot) : (d.modSlot n f).refclk = d.refclk := rfl
@[simp] theorem Device.modSlot_freeCtr (d : Device) (n : Fin 16) (f : Slot → Slot) : (d.modSlot n f).freeCtr = d.freeCtr := rfl
@[simp] theorem Device.modSlot_mem (d : Device) (n : Fin 16) (f : Slot → Slot) : (d.modSlot n f).mem = d.mem := rfl
@[simp] theorem Device.modSlot_regs (d : Device) (n : Fin 16) (f : Slot → Slot) : (d.modSlot n f).regs = d.regs := rfl
@[simp] theorem Device.modSlot_latches (d : Device) (n : Fin 16) (f : Slot → Slot) : (d.modSlot n f).latches = d.latches := rfl
@[simp] theorem Device.modSlot_turn (d : Device) (n : Fin 16) (f : Slot → Slot) : (d.modSlot n f).turn = d.turn := rfl
@[simp] theorem Device.modSlot_scribe (d : Device) (n : Fin 16) (f : Slot → Slot) : (d.modSlot n f).scribe = d.scribe := rfl
@[simp] theorem Device.modSlot_hwd (d : Device) (n : Fin 16) (f : Slot → Slot) : (d.modSlot n f).hwd = d.hwd := rfl
@[simp] theorem Device.modSlot_loader (d : Device) (n : Fin 16) (f : Slot → Slot) : (d.modSlot n f).loader = d.loader := rfl
@[simp] theorem Device.modSlot_ports (d : Device) (n : Fin 16) (f : Slot → Slot) : (d.modSlot n f).ports = d.ports := rfl
@[simp] theorem Device.modSlot_bench (d : Device) (n : Fin 16) (f : Slot → Slot) : (d.modSlot n f).bench = d.bench := rfl
@[simp] theorem Device.modSlot_grain (d : Device) (n : Fin 16) (f : Slot → Slot) : (d.modSlot n f).grain = d.grain := rfl
@[simp] theorem Device.modSlot_resident (d : Device) (n : Fin 16) (f : Slot → Slot) : (d.modSlot n f).resident = d.resident := rfl
@[simp] theorem Device.modSlot_jtag (d : Device) (n : Fin 16) (f : Slot → Slot) : (d.modSlot n f).jtag = d.jtag := rfl
@[simp] theorem Device.modSlot_safety (d : Device) (n : Fin 16) (f : Slot → Slot) : (d.modSlot n f).safety = d.safety := rfl
@[simp] theorem Device.modSlot_ring (d : Device) (n : Fin 16) (f : Slot → Slot) : (d.modSlot n f).ring = d.ring := rfl
@[simp] theorem Device.modSlot_power (d : Device) (n : Fin 16) (f : Slot → Slot) : (d.modSlot n f).power = d.power := rfl
@[simp] theorem Device.modSlot_sec (d : Device) (n : Fin 16) (f : Slot → Slot) : (d.modSlot n f).sec = d.sec := rfl
@[simp] theorem Device.modSlot_smb (d : Device) (n : Fin 16) (f : Slot → Slot) : (d.modSlot n f).smb = d.smb := rfl
@[simp] theorem Device.modSlot_denials (d : Device) (n : Fin 16) (f : Slot → Slot) : (d.modSlot n f).denials = d.denials := rfl
@[simp] theorem Device.modSlot_out (d : Device) (n : Fin 16) (f : Slot → Slot) : (d.modSlot n f).out = d.out := rfl
@[simp] theorem Device.modSlot_rd (d : Device) (n : Fin 16) (f : Slot → Slot) (k : Nat) : (d.modSlot n f).rd k = d.rd k := rfl
@[simp] theorem Device.modSlot_fld (d : Device) (n : Fin 16) (f : Slot → Slot) (g : Fld) : (d.modSlot n f).fld g = d.fld g := rfl
@[simp] theorem Device.modSlot_flag (d : Device) (n : Fin 16) (f : Slot → Slot) (g : Fld) : (d.modSlot n f).flag g = d.flag g := rfl
@[simp] theorem Device.modSlot_fldBit (d : Device) (n : Fin 16) (f : Slot → Slot) (g : Fld) (j : Nat) : (d.modSlot n f).fldBit g j = d.fldBit g j := rfl
@[simp] theorem Device.modSlot_byte (d : Device) (n : Fin 16) (f : Slot → Slot) (k : Nat) : (d.modSlot n f).byte k = d.byte k := rfl
@[simp] theorem Device.modSlot_cmd (d : Device) (n : Fin 16) (f : Slot → Slot) (k : Nat) : (d.modSlot n f).cmd k = d.cmd k := rfl

/-! ### `Device.modPort` -/

@[simp] theorem Device.modPort_por (d : Device) (p : Fin 2) (f : Port → Port) : (d.modPort p f).por = d.por := rfl
@[simp] theorem Device.modPort_warm (d : Device) (p : Fin 2) (f : Port → Port) : (d.modPort p f).warm = d.warm := rfl
@[simp] theorem Device.modPort_now (d : Device) (p : Fin 2) (f : Port → Port) : (d.modPort p f).now = d.now := rfl
@[simp] theorem Device.modPort_epoch (d : Device) (p : Fin 2) (f : Port → Port) : (d.modPort p f).epoch = d.epoch := rfl
@[simp] theorem Device.modPort_refclk (d : Device) (p : Fin 2) (f : Port → Port) : (d.modPort p f).refclk = d.refclk := rfl
@[simp] theorem Device.modPort_freeCtr (d : Device) (p : Fin 2) (f : Port → Port) : (d.modPort p f).freeCtr = d.freeCtr := rfl
@[simp] theorem Device.modPort_mem (d : Device) (p : Fin 2) (f : Port → Port) : (d.modPort p f).mem = d.mem := rfl
@[simp] theorem Device.modPort_regs (d : Device) (p : Fin 2) (f : Port → Port) : (d.modPort p f).regs = d.regs := rfl
@[simp] theorem Device.modPort_slots (d : Device) (p : Fin 2) (f : Port → Port) : (d.modPort p f).slots = d.slots := rfl
@[simp] theorem Device.modPort_latches (d : Device) (p : Fin 2) (f : Port → Port) : (d.modPort p f).latches = d.latches := rfl
@[simp] theorem Device.modPort_turn (d : Device) (p : Fin 2) (f : Port → Port) : (d.modPort p f).turn = d.turn := rfl
@[simp] theorem Device.modPort_scribe (d : Device) (p : Fin 2) (f : Port → Port) : (d.modPort p f).scribe = d.scribe := rfl
@[simp] theorem Device.modPort_hwd (d : Device) (p : Fin 2) (f : Port → Port) : (d.modPort p f).hwd = d.hwd := rfl
@[simp] theorem Device.modPort_loader (d : Device) (p : Fin 2) (f : Port → Port) : (d.modPort p f).loader = d.loader := rfl
@[simp] theorem Device.modPort_bench (d : Device) (p : Fin 2) (f : Port → Port) : (d.modPort p f).bench = d.bench := rfl
@[simp] theorem Device.modPort_grain (d : Device) (p : Fin 2) (f : Port → Port) : (d.modPort p f).grain = d.grain := rfl
@[simp] theorem Device.modPort_resident (d : Device) (p : Fin 2) (f : Port → Port) : (d.modPort p f).resident = d.resident := rfl
@[simp] theorem Device.modPort_jtag (d : Device) (p : Fin 2) (f : Port → Port) : (d.modPort p f).jtag = d.jtag := rfl
@[simp] theorem Device.modPort_safety (d : Device) (p : Fin 2) (f : Port → Port) : (d.modPort p f).safety = d.safety := rfl
@[simp] theorem Device.modPort_ring (d : Device) (p : Fin 2) (f : Port → Port) : (d.modPort p f).ring = d.ring := rfl
@[simp] theorem Device.modPort_power (d : Device) (p : Fin 2) (f : Port → Port) : (d.modPort p f).power = d.power := rfl
@[simp] theorem Device.modPort_sec (d : Device) (p : Fin 2) (f : Port → Port) : (d.modPort p f).sec = d.sec := rfl
@[simp] theorem Device.modPort_smb (d : Device) (p : Fin 2) (f : Port → Port) : (d.modPort p f).smb = d.smb := rfl
@[simp] theorem Device.modPort_denials (d : Device) (p : Fin 2) (f : Port → Port) : (d.modPort p f).denials = d.denials := rfl
@[simp] theorem Device.modPort_out (d : Device) (p : Fin 2) (f : Port → Port) : (d.modPort p f).out = d.out := rfl
@[simp] theorem Device.modPort_rd (d : Device) (p : Fin 2) (f : Port → Port) (k : Nat) : (d.modPort p f).rd k = d.rd k := rfl
@[simp] theorem Device.modPort_fld (d : Device) (p : Fin 2) (f : Port → Port) (g : Fld) : (d.modPort p f).fld g = d.fld g := rfl
@[simp] theorem Device.modPort_flag (d : Device) (p : Fin 2) (f : Port → Port) (g : Fld) : (d.modPort p f).flag g = d.flag g := rfl
@[simp] theorem Device.modPort_fldBit (d : Device) (p : Fin 2) (f : Port → Port) (g : Fld) (j : Nat) : (d.modPort p f).fldBit g j = d.fldBit g j := rfl
@[simp] theorem Device.modPort_byte (d : Device) (p : Fin 2) (f : Port → Port) (k : Nat) : (d.modPort p f).byte k = d.byte k := rfl
@[simp] theorem Device.modPort_slot (d : Device) (p : Fin 2) (f : Port → Port) (m : Fin 16) : (d.modPort p f).slot m = d.slot m := rfl
@[simp] theorem Device.modPort_cmd (d : Device) (p : Fin 2) (f : Port → Port) (k : Nat) : (d.modPort p f).cmd k = d.cmd k := rfl

/-! ### `Device.modCmd` -/

@[simp] theorem Device.modCmd_por (d : Device) (cid : Nat) (f : HwdCmd → HwdCmd) : (d.modCmd cid f).por = d.por := rfl
@[simp] theorem Device.modCmd_warm (d : Device) (cid : Nat) (f : HwdCmd → HwdCmd) : (d.modCmd cid f).warm = d.warm := rfl
@[simp] theorem Device.modCmd_now (d : Device) (cid : Nat) (f : HwdCmd → HwdCmd) : (d.modCmd cid f).now = d.now := rfl
@[simp] theorem Device.modCmd_epoch (d : Device) (cid : Nat) (f : HwdCmd → HwdCmd) : (d.modCmd cid f).epoch = d.epoch := rfl
@[simp] theorem Device.modCmd_refclk (d : Device) (cid : Nat) (f : HwdCmd → HwdCmd) : (d.modCmd cid f).refclk = d.refclk := rfl
@[simp] theorem Device.modCmd_freeCtr (d : Device) (cid : Nat) (f : HwdCmd → HwdCmd) : (d.modCmd cid f).freeCtr = d.freeCtr := rfl
@[simp] theorem Device.modCmd_mem (d : Device) (cid : Nat) (f : HwdCmd → HwdCmd) : (d.modCmd cid f).mem = d.mem := rfl
@[simp] theorem Device.modCmd_regs (d : Device) (cid : Nat) (f : HwdCmd → HwdCmd) : (d.modCmd cid f).regs = d.regs := rfl
@[simp] theorem Device.modCmd_slots (d : Device) (cid : Nat) (f : HwdCmd → HwdCmd) : (d.modCmd cid f).slots = d.slots := rfl
@[simp] theorem Device.modCmd_latches (d : Device) (cid : Nat) (f : HwdCmd → HwdCmd) : (d.modCmd cid f).latches = d.latches := rfl
@[simp] theorem Device.modCmd_turn (d : Device) (cid : Nat) (f : HwdCmd → HwdCmd) : (d.modCmd cid f).turn = d.turn := rfl
@[simp] theorem Device.modCmd_scribe (d : Device) (cid : Nat) (f : HwdCmd → HwdCmd) : (d.modCmd cid f).scribe = d.scribe := rfl
@[simp] theorem Device.modCmd_loader (d : Device) (cid : Nat) (f : HwdCmd → HwdCmd) : (d.modCmd cid f).loader = d.loader := rfl
@[simp] theorem Device.modCmd_ports (d : Device) (cid : Nat) (f : HwdCmd → HwdCmd) : (d.modCmd cid f).ports = d.ports := rfl
@[simp] theorem Device.modCmd_bench (d : Device) (cid : Nat) (f : HwdCmd → HwdCmd) : (d.modCmd cid f).bench = d.bench := rfl
@[simp] theorem Device.modCmd_grain (d : Device) (cid : Nat) (f : HwdCmd → HwdCmd) : (d.modCmd cid f).grain = d.grain := rfl
@[simp] theorem Device.modCmd_resident (d : Device) (cid : Nat) (f : HwdCmd → HwdCmd) : (d.modCmd cid f).resident = d.resident := rfl
@[simp] theorem Device.modCmd_jtag (d : Device) (cid : Nat) (f : HwdCmd → HwdCmd) : (d.modCmd cid f).jtag = d.jtag := rfl
@[simp] theorem Device.modCmd_safety (d : Device) (cid : Nat) (f : HwdCmd → HwdCmd) : (d.modCmd cid f).safety = d.safety := rfl
@[simp] theorem Device.modCmd_ring (d : Device) (cid : Nat) (f : HwdCmd → HwdCmd) : (d.modCmd cid f).ring = d.ring := rfl
@[simp] theorem Device.modCmd_power (d : Device) (cid : Nat) (f : HwdCmd → HwdCmd) : (d.modCmd cid f).power = d.power := rfl
@[simp] theorem Device.modCmd_sec (d : Device) (cid : Nat) (f : HwdCmd → HwdCmd) : (d.modCmd cid f).sec = d.sec := rfl
@[simp] theorem Device.modCmd_smb (d : Device) (cid : Nat) (f : HwdCmd → HwdCmd) : (d.modCmd cid f).smb = d.smb := rfl
@[simp] theorem Device.modCmd_denials (d : Device) (cid : Nat) (f : HwdCmd → HwdCmd) : (d.modCmd cid f).denials = d.denials := rfl
@[simp] theorem Device.modCmd_out (d : Device) (cid : Nat) (f : HwdCmd → HwdCmd) : (d.modCmd cid f).out = d.out := rfl
@[simp] theorem Device.modCmd_rd (d : Device) (cid : Nat) (f : HwdCmd → HwdCmd) (k : Nat) : (d.modCmd cid f).rd k = d.rd k := rfl
@[simp] theorem Device.modCmd_fld (d : Device) (cid : Nat) (f : HwdCmd → HwdCmd) (g : Fld) : (d.modCmd cid f).fld g = d.fld g := rfl
@[simp] theorem Device.modCmd_flag (d : Device) (cid : Nat) (f : HwdCmd → HwdCmd) (g : Fld) : (d.modCmd cid f).flag g = d.flag g := rfl
@[simp] theorem Device.modCmd_fldBit (d : Device) (cid : Nat) (f : HwdCmd → HwdCmd) (g : Fld) (j : Nat) : (d.modCmd cid f).fldBit g j = d.fldBit g j := rfl
@[simp] theorem Device.modCmd_byte (d : Device) (cid : Nat) (f : HwdCmd → HwdCmd) (k : Nat) : (d.modCmd cid f).byte k = d.byte k := rfl
@[simp] theorem Device.modCmd_slot (d : Device) (cid : Nat) (f : HwdCmd → HwdCmd) (m : Fin 16) : (d.modCmd cid f).slot m = d.slot m := rfl

/-! ### `State.mapDev` -/

@[simp] theorem State.mapDev_pending (s : State) (f : Device → Device) : (s.mapDev f).pending = s.pending := rfl
@[simp] theorem State.mapDev_evq (s : State) (f : Device → Device) : (s.mapDev f).evq = s.evq := rfl
@[simp] theorem State.mapDev_mtx (s : State) (f : Device → Device) : (s.mapDev f).mtx = s.mtx := rfl
@[simp] theorem State.mapDev_dev (s : State) (f : Device → Device) : (s.mapDev f).dev = f (s.mapDev id).dev := rfl

/-! ### `Device.setScrub` -/

@[simp] theorem Device.setScrub_por (d : Device) (n : Fin 16) (q : ScrubPos) : (d.setScrub n q).por = d.por := rfl
@[simp] theorem Device.setScrub_warm (d : Device) (n : Fin 16) (q : ScrubPos) : (d.setScrub n q).warm = d.warm := rfl
@[simp] theorem Device.setScrub_now (d : Device) (n : Fin 16) (q : ScrubPos) : (d.setScrub n q).now = d.now := rfl
@[simp] theorem Device.setScrub_epoch (d : Device) (n : Fin 16) (q : ScrubPos) : (d.setScrub n q).epoch = d.epoch := rfl
@[simp] theorem Device.setScrub_refclk (d : Device) (n : Fin 16) (q : ScrubPos) : (d.setScrub n q).refclk = d.refclk := rfl
@[simp] theorem Device.setScrub_freeCtr (d : Device) (n : Fin 16) (q : ScrubPos) : (d.setScrub n q).freeCtr = d.freeCtr := rfl
@[simp] theorem Device.setScrub_mem (d : Device) (n : Fin 16) (q : ScrubPos) : (d.setScrub n q).mem = d.mem := rfl
@[simp] theorem Device.setScrub_slots (d : Device) (n : Fin 16) (q : ScrubPos) : (d.setScrub n q).slots = d.slots := rfl
@[simp] theorem Device.setScrub_latches (d : Device) (n : Fin 16) (q : ScrubPos) : (d.setScrub n q).latches = d.latches := rfl
@[simp] theorem Device.setScrub_turn (d : Device) (n : Fin 16) (q : ScrubPos) : (d.setScrub n q).turn = d.turn := rfl
@[simp] theorem Device.setScrub_scribe (d : Device) (n : Fin 16) (q : ScrubPos) : (d.setScrub n q).scribe = d.scribe := rfl
@[simp] theorem Device.setScrub_hwd (d : Device) (n : Fin 16) (q : ScrubPos) : (d.setScrub n q).hwd = d.hwd := rfl
@[simp] theorem Device.setScrub_ports (d : Device) (n : Fin 16) (q : ScrubPos) : (d.setScrub n q).ports = d.ports := rfl
@[simp] theorem Device.setScrub_bench (d : Device) (n : Fin 16) (q : ScrubPos) : (d.setScrub n q).bench = d.bench := rfl
@[simp] theorem Device.setScrub_grain (d : Device) (n : Fin 16) (q : ScrubPos) : (d.setScrub n q).grain = d.grain := rfl
@[simp] theorem Device.setScrub_resident (d : Device) (n : Fin 16) (q : ScrubPos) : (d.setScrub n q).resident = d.resident := rfl
@[simp] theorem Device.setScrub_jtag (d : Device) (n : Fin 16) (q : ScrubPos) : (d.setScrub n q).jtag = d.jtag := rfl
@[simp] theorem Device.setScrub_safety (d : Device) (n : Fin 16) (q : ScrubPos) : (d.setScrub n q).safety = d.safety := rfl
@[simp] theorem Device.setScrub_ring (d : Device) (n : Fin 16) (q : ScrubPos) : (d.setScrub n q).ring = d.ring := rfl
@[simp] theorem Device.setScrub_power (d : Device) (n : Fin 16) (q : ScrubPos) : (d.setScrub n q).power = d.power := rfl
@[simp] theorem Device.setScrub_sec (d : Device) (n : Fin 16) (q : ScrubPos) : (d.setScrub n q).sec = d.sec := rfl
@[simp] theorem Device.setScrub_smb (d : Device) (n : Fin 16) (q : ScrubPos) : (d.setScrub n q).smb = d.smb := rfl
@[simp] theorem Device.setScrub_denials (d : Device) (n : Fin 16) (q : ScrubPos) : (d.setScrub n q).denials = d.denials := rfl
@[simp] theorem Device.setScrub_out (d : Device) (n : Fin 16) (q : ScrubPos) : (d.setScrub n q).out = d.out := rfl
@[simp] theorem Device.setScrub_regs (d : Device) (n : Fin 16) (q : ScrubPos) : (d.setScrub n q).regs = d.regs := rfl

end Sys2Proof.Machine
end

