-- ==== Sys2Proof/Laws/Frames.lean ====
section
/-! SUPPORT. What the shared operations on the device leave as it was: raising an event, driving SAFE_N, storing bytes. -/

namespace Sys2Proof.Machine

/-! ### What raising an event can change -/

/-- `e` is `d` but for registers, raise latches, the Scribe engine, the ring and the outputs: all that a raise can change. -/
def RaiseFrame (d e : Device) : Prop :=
  ∃ (r : List (Nat × Word)) (l : List RaiseLatch) (s : ScribeUnit) (g : RingUnit) (o : List Out),
    e = { d with regs := r, latches := l, scribe := s, ring := g, out := o }

theorem RaiseFrame.refl (d : Device) : RaiseFrame d d := ⟨_, _, _, _, _, rfl⟩

theorem RaiseFrame.trans {d e f : Device} (h : RaiseFrame d e) (g : RaiseFrame e f) : RaiseFrame d f := by
  obtain ⟨_, _, _, _, _, rfl⟩ := h
  obtain ⟨_, _, _, _, _, rfl⟩ := g
  exact ⟨_, _, _, _, _, rfl⟩

theorem RaiseFrame.wr (d : Device) (a v : Nat) : RaiseFrame d (d.wr a v) := ⟨_, _, _, _, _, rfl⟩

theorem RaiseFrame.pendAligned (d : Device) (t : Option Nat) : RaiseFrame d (d.pendAligned t) := by
  unfold Device.pendAligned
  split
  · exact .refl d
  · exact ⟨_, _, _, _, _, rfl⟩

theorem RaiseFrame.ite {c : Prop} [Decidable c] {d e f : Device} (h : RaiseFrame d e) (g : RaiseFrame d f) :
    RaiseFrame d (if c then e else f) := by
  split
  · exact h
  · exact g

theorem RaiseFrame.scribe (d : Device) (s : ScribeUnit) : RaiseFrame d { d with scribe := s } := ⟨_, _, _, _, _, rfl⟩

theorem RaiseFrame.trigger (d : Device) (src edge : Nat) (al : Bool) (t : Option Nat) : RaiseFrame d (d.trigger src edge al t) := by
  have io : ∀ (c : Bool) (e : Device), RaiseFrame e (if c then
      { e.emit .scribeIo with scribe := { e.scribe with deafTill := e.now + 14 } } else e) :=
    fun c e => .ite ⟨_, _, _, _, _, rfl⟩ (.refl e)
  have ring : ∀ (c : Bool) (e : Device), RaiseFrame e (if c then
      ({ e with ring := { e.ring with seq := (e.ring.seq + 1) % 256 } }).emit
        (.ringTrigger al (if al then e.leadTick else 0) ((e.ring.seq + 1) % 256)) else e) :=
    fun c e => .ite ⟨_, _, _, _, _, rfl⟩ (.refl e)
  unfold Device.trigger
  refine .ite (.refl d) ?_
  have start : RaiseFrame d ((({ d with scribe := { d.scribe with lastTrig := some edge } } : Device).wr Reg.scribeGen
      (({ d with scribe := { d.scribe with lastTrig := some edge } } : Device).rd Reg.scribeGen + 1)).setFld Fld.scribeStatusLastSrc src) :=
    ⟨_, _, _, _, _, rfl⟩
  exact .ite (((start.trans (io _ _)).trans (ring _ _)).trans (.pendAligned _ _))
    (((start.trans (io _ _)).trans (ring _ _)).trans (.scribe _ _))

theorem RaiseFrame.raiseSyn (d : Device) (ev syn : Nat) : RaiseFrame d (d.raiseSyn ev syn) := by
  have latch : ∀ (c : Bool) (e : Device) (l : List RaiseLatch), RaiseFrame e (if c then { e with latches := l } else e) :=
    fun c e l => .ite ⟨_, _, _, _, _, rfl⟩ (.refl e)
  unfold Device.raiseSyn
  exact .ite (((RaiseFrame.wr d _ _).trans (latch _ _ _)).trans (.trigger _ _ _ _ _)) ((RaiseFrame.wr d _ _).trans (latch _ _ _))

theorem RaiseFrame.raise (d : Device) (ev : Nat) (syn : List (Nat × Nat)) : RaiseFrame d (d.raise ev syn) :=
  .raiseSyn d ev (packSyn syn)

theorem RaiseFrame.safeLow (d : Device) : RaiseFrame d d.safeLow := by
  unfold Device.safeLow
  split
  · exact ⟨_, _, _, _, _, rfl⟩
  · exact .refl d

theorem RaiseFrame.signal (d : Device) (cause event : Nat) (syn : List (Nat × Nat)) : RaiseFrame d (d.signal cause event syn) :=
  (RaiseFrame.wr d _ _).trans ((RaiseFrame.raise _ event syn).trans (.safeLow _))

theorem RaiseFrame.setActive (d : Device) (cause : Nat) (b : Bool) : RaiseFrame d (d.setActive cause b) :=
  (RaiseFrame.wr d _ _).trans (.safeLow _)

theorem RaiseFrame.por_eq {d e : Device} (h : RaiseFrame d e) : e.por = d.por := by
  obtain ⟨_, _, _, _, _, rfl⟩ := h; rfl
theorem RaiseFrame.warm_eq {d e : Device} (h : RaiseFrame d e) : e.warm = d.warm := by
  obtain ⟨_, _, _, _, _, rfl⟩ := h; rfl
theorem RaiseFrame.now_eq {d e : Device} (h : RaiseFrame d e) : e.now = d.now := by
  obtain ⟨_, _, _, _, _, rfl⟩ := h; rfl
theorem RaiseFrame.epoch_eq {d e : Device} (h : RaiseFrame d e) : e.epoch = d.epoch := by
  obtain ⟨_, _, _, _, _, rfl⟩ := h; rfl
theorem RaiseFrame.refclk_eq {d e : Device} (h : RaiseFrame d e) : e.refclk = d.refclk := by
  obtain ⟨_, _, _, _, _, rfl⟩ := h; rfl
theorem RaiseFrame.freeCtr_eq {d e : Device} (h : RaiseFrame d e) : e.freeCtr = d.freeCtr := by
  obtain ⟨_, _, _, _, _, rfl⟩ := h; rfl
theorem RaiseFrame.mem_eq {d e : Device} (h : RaiseFrame d e) : e.mem = d.mem := by
  obtain ⟨_, _, _, _, _, rfl⟩ := h; rfl
theorem RaiseFrame.slots_eq {d e : Device} (h : RaiseFrame d e) : e.slots = d.slots := by
  obtain ⟨_, _, _, _, _, rfl⟩ := h; rfl
theorem RaiseFrame.turn_eq {d e : Device} (h : RaiseFrame d e) : e.turn = d.turn := by
  obtain ⟨_, _, _, _, _, rfl⟩ := h; rfl
theorem RaiseFrame.hwd_eq {d e : Device} (h : RaiseFrame d e) : e.hwd = d.hwd := by
  obtain ⟨_, _, _, _, _, rfl⟩ := h; rfl
theorem RaiseFrame.loader_eq {d e : Device} (h : RaiseFrame d e) : e.loader = d.loader := by
  obtain ⟨_, _, _, _, _, rfl⟩ := h; rfl
theorem RaiseFrame.ports_eq {d e : Device} (h : RaiseFrame d e) : e.ports = d.ports := by
  obtain ⟨_, _, _, _, _, rfl⟩ := h; rfl
theorem RaiseFrame.bench_eq {d e : Device} (h : RaiseFrame d e) : e.bench = d.bench := by
  obtain ⟨_, _, _, _, _, rfl⟩ := h; rfl
theorem RaiseFrame.grain_eq {d e : Device} (h : RaiseFrame d e) : e.grain = d.grain := by
  obtain ⟨_, _, _, _, _, rfl⟩ := h; rfl
theorem RaiseFrame.resident_eq {d e : Device} (h : RaiseFrame d e) : e.resident = d.resident := by
  obtain ⟨_, _, _, _, _, rfl⟩ := h; rfl
theorem RaiseFrame.jtag_eq {d e : Device} (h : RaiseFrame d e) : e.jtag = d.jtag := by
  obtain ⟨_, _, _, _, _, rfl⟩ := h; rfl
theorem RaiseFrame.safety_eq {d e : Device} (h : RaiseFrame d e) : e.safety = d.safety := by
  obtain ⟨_, _, _, _, _, rfl⟩ := h; rfl
theorem RaiseFrame.power_eq {d e : Device} (h : RaiseFrame d e) : e.power = d.power := by
  obtain ⟨_, _, _, _, _, rfl⟩ := h; rfl
theorem RaiseFrame.sec_eq {d e : Device} (h : RaiseFrame d e) : e.sec = d.sec := by
  obtain ⟨_, _, _, _, _, rfl⟩ := h; rfl
theorem RaiseFrame.smb_eq {d e : Device} (h : RaiseFrame d e) : e.smb = d.smb := by
  obtain ⟨_, _, _, _, _, rfl⟩ := h; rfl
theorem RaiseFrame.denials_eq {d e : Device} (h : RaiseFrame d e) : e.denials = d.denials := by
  obtain ⟨_, _, _, _, _, rfl⟩ := h; rfl

/-! ### `Device.raiseSyn` -/

@[simp] theorem Device.raiseSyn_por (d : Device) (e syn : Nat) : (d.raiseSyn e syn).por = d.por := RaiseFrame.por_eq (RaiseFrame.raiseSyn d e syn)
@[simp] theorem Device.raiseSyn_warm (d : Device) (e syn : Nat) : (d.raiseSyn e syn).warm = d.warm := RaiseFrame.warm_eq (RaiseFrame.raiseSyn d e syn)
@[simp] theorem Device.raiseSyn_now (d : Device) (e syn : Nat) : (d.raiseSyn e syn).now = d.now := RaiseFrame.now_eq (RaiseFrame.raiseSyn d e syn)
@[simp] theorem Device.raiseSyn_epoch (d : Device) (e syn : Nat) : (d.raiseSyn e syn).epoch = d.epoch := RaiseFrame.epoch_eq (RaiseFrame.raiseSyn d e syn)
@[simp] theorem Device.raiseSyn_refclk (d : Device) (e syn : Nat) : (d.raiseSyn e syn).refclk = d.refclk := RaiseFrame.refclk_eq (RaiseFrame.raiseSyn d e syn)
@[simp] theorem Device.raiseSyn_freeCtr (d : Device) (e syn : Nat) : (d.raiseSyn e syn).freeCtr = d.freeCtr := RaiseFrame.freeCtr_eq (RaiseFrame.raiseSyn d e syn)
@[simp] theorem Device.raiseSyn_mem (d : Device) (e syn : Nat) : (d.raiseSyn e syn).mem = d.mem := RaiseFrame.mem_eq (RaiseFrame.raiseSyn d e syn)
@[simp] theorem Device.raiseSyn_slots (d : Device) (e syn : Nat) : (d.raiseSyn e syn).slots = d.slots := RaiseFrame.slots_eq (RaiseFrame.raiseSyn d e syn)
@[simp] theorem Device.raiseSyn_turn (d : Device) (e syn : Nat) : (d.raiseSyn e syn).turn = d.turn := RaiseFrame.turn_eq (RaiseFrame.raiseSyn d e syn)
@[simp] theorem Device.raiseSyn_hwd (d : Device) (e syn : Nat) : (d.raiseSyn e syn).hwd = d.hwd := RaiseFrame.hwd_eq (RaiseFrame.raiseSyn d e syn)
@[simp] theorem Device.raiseSyn_loader (d : Device) (e syn : Nat) : (d.raiseSyn e syn).loader = d.loader := RaiseFrame.loader_eq (RaiseFrame.raiseSyn d e syn)
@[simp] theorem Device.raiseSyn_ports (d : Device) (e syn : Nat) : (d.raiseSyn e syn).ports = d.ports := RaiseFrame.ports_eq (RaiseFrame.raiseSyn d e syn)
@[simp] theorem Device.raiseSyn_bench (d : Device) (e syn : Nat) : (d.raiseSyn e syn).bench = d.bench := RaiseFrame.bench_eq (RaiseFrame.raiseSyn d e syn)
@[simp] theorem Device.raiseSyn_grain (d : Device) (e syn : Nat) : (d.raiseSyn e syn).grain = d.grain := RaiseFrame.grain_eq (RaiseFrame.raiseSyn d e syn)
@[simp] theorem Device.raiseSyn_resident (d : Device) (e syn : Nat) : (d.raiseSyn e syn).resident = d.resident := RaiseFrame.resident_eq (RaiseFrame.raiseSyn d e syn)
@[simp] theorem Device.raiseSyn_jtag (d : Device) (e syn : Nat) : (d.raiseSyn e syn).jtag = d.jtag := RaiseFrame.jtag_eq (RaiseFrame.raiseSyn d e syn)
@[simp] theorem Device.raiseSyn_safety (d : Device) (e syn : Nat) : (d.raiseSyn e syn).safety = d.safety := RaiseFrame.safety_eq (RaiseFrame.raiseSyn d e syn)
@[simp] theorem Device.raiseSyn_power (d : Device) (e syn : Nat) : (d.raiseSyn e syn).power = d.power := RaiseFrame.power_eq (RaiseFrame.raiseSyn d e syn)
@[simp] theorem Device.raiseSyn_sec (d : Device) (e syn : Nat) : (d.raiseSyn e syn).sec = d.sec := RaiseFrame.sec_eq (RaiseFrame.raiseSyn d e syn)
@[simp] theorem Device.raiseSyn_smb (d : Device) (e syn : Nat) : (d.raiseSyn e syn).smb = d.smb := RaiseFrame.smb_eq (RaiseFrame.raiseSyn d e syn)
@[simp] theorem Device.raiseSyn_denials (d : Device) (e syn : Nat) : (d.raiseSyn e syn).denials = d.denials := RaiseFrame.denials_eq (RaiseFrame.raiseSyn d e syn)

/-! ### `Device.raise` -/

@[simp] theorem Device.raise_por (d : Device) (e : Nat) (syn : List (Nat × Nat)) : (d.raise e syn).por = d.por := RaiseFrame.por_eq (RaiseFrame.raise d e syn)
@[simp] theorem Device.raise_warm (d : Device) (e : Nat) (syn : List (Nat × Nat)) : (d.raise e syn).warm = d.warm := RaiseFrame.warm_eq (RaiseFrame.raise d e syn)
@[simp] theorem Device.raise_now (d : Device) (e : Nat) (syn : List (Nat × Nat)) : (d.raise e syn).now = d.now := RaiseFrame.now_eq (RaiseFrame.raise d e syn)
@[simp] theorem Device.raise_epoch (d : Device) (e : Nat) (syn : List (Nat × Nat)) : (d.raise e syn).epoch = d.epoch := RaiseFrame.epoch_eq (RaiseFrame.raise d e syn)
@[simp] theorem Device.raise_refclk (d : Device) (e : Nat) (syn : List (Nat × Nat)) : (d.raise e syn).refclk = d.refclk := RaiseFrame.refclk_eq (RaiseFrame.raise d e syn)
@[simp] theorem Device.raise_freeCtr (d : Device) (e : Nat) (syn : List (Nat × Nat)) : (d.raise e syn).freeCtr = d.freeCtr := RaiseFrame.freeCtr_eq (RaiseFrame.raise d e syn)
@[simp] theorem Device.raise_mem (d : Device) (e : Nat) (syn : List (Nat × Nat)) : (d.raise e syn).mem = d.mem := RaiseFrame.mem_eq (RaiseFrame.raise d e syn)
@[simp] theorem Device.raise_slots (d : Device) (e : Nat) (syn : List (Nat × Nat)) : (d.raise e syn).slots = d.slots := RaiseFrame.slots_eq (RaiseFrame.raise d e syn)
@[simp] theorem Device.raise_turn (d : Device) (e : Nat) (syn : List (Nat × Nat)) : (d.raise e syn).turn = d.turn := RaiseFrame.turn_eq (RaiseFrame.raise d e syn)
@[simp] theorem Device.raise_hwd (d : Device) (e : Nat) (syn : List (Nat × Nat)) : (d.raise e syn).hwd = d.hwd := RaiseFrame.hwd_eq (RaiseFrame.raise d e syn)
@[simp] theorem Device.raise_loader (d : Device) (e : Nat) (syn : List (Nat × Nat)) : (d.raise e syn).loader = d.loader := RaiseFrame.loader_eq (RaiseFrame.raise d e syn)
@[simp] theorem Device.raise_ports (d : Device) (e : Nat) (syn : List (Nat × Nat)) : (d.raise e syn).ports = d.ports := RaiseFrame.ports_eq (RaiseFrame.raise d e syn)
@[simp] theorem Device.raise_bench (d : Device) (e : Nat) (syn : List (Nat × Nat)) : (d.raise e syn).bench = d.bench := RaiseFrame.bench_eq (RaiseFrame.raise d e syn)
@[simp] theorem Device.raise_grain (d : Device) (e : Nat) (syn : List (Nat × Nat)) : (d.raise e syn).grain = d.grain := RaiseFrame.grain_eq (RaiseFrame.raise d e syn)
@[simp] theorem Device.raise_resident (d : Device) (e : Nat) (syn : List (Nat × Nat)) : (d.raise e syn).resident = d.resident := RaiseFrame.resident_eq (RaiseFrame.raise d e syn)
@[simp] theorem Device.raise_jtag (d : Device) (e : Nat) (syn : List (Nat × Nat)) : (d.raise e syn).jtag = d.jtag := RaiseFrame.jtag_eq (RaiseFrame.raise d e syn)
@[simp] theorem Device.raise_safety (d : Device) (e : Nat) (syn : List (Nat × Nat)) : (d.raise e syn).safety = d.safety := RaiseFrame.safety_eq (RaiseFrame.raise d e syn)
@[simp] theorem Device.raise_power (d : Device) (e : Nat) (syn : List (Nat × Nat)) : (d.raise e syn).power = d.power := RaiseFrame.power_eq (RaiseFrame.raise d e syn)
@[simp] theorem Device.raise_sec (d : Device) (e : Nat) (syn : List (Nat × Nat)) : (d.raise e syn).sec = d.sec := RaiseFrame.sec_eq (RaiseFrame.raise d e syn)
@[simp] theorem Device.raise_smb (d : Device) (e : Nat) (syn : List (Nat × Nat)) : (d.raise e syn).smb = d.smb := RaiseFrame.smb_eq (RaiseFrame.raise d e syn)
@[simp] theorem Device.raise_denials (d : Device) (e : Nat) (syn : List (Nat × Nat)) : (d.raise e syn).denials = d.denials := RaiseFrame.denials_eq (RaiseFrame.raise d e syn)

/-! ### `Device.raiseSlot` -/

@[simp] theorem Device.raiseSlot_por (d : Device) (n : Fin 16) (o : Nat) (syn : List (Nat × Nat)) : (d.raiseSlot n o syn).por = d.por := RaiseFrame.por_eq (RaiseFrame.raise d _ syn)
@[simp] theorem Device.raiseSlot_warm (d : Device) (n : Fin 16) (o : Nat) (syn : List (Nat × Nat)) : (d.raiseSlot n o syn).warm = d.warm := RaiseFrame.warm_eq (RaiseFrame.raise d _ syn)
@[simp] theorem Device.raiseSlot_now (d : Device) (n : Fin 16) (o : Nat) (syn : List (Nat × Nat)) : (d.raiseSlot n o syn).now = d.now := RaiseFrame.now_eq (RaiseFrame.raise d _ syn)
@[simp] theorem Device.raiseSlot_epoch (d : Device) (n : Fin 16) (o : Nat) (syn : List (Nat × Nat)) : (d.raiseSlot n o syn).epoch = d.epoch := RaiseFrame.epoch_eq (RaiseFrame.raise d _ syn)
@[simp] theorem Device.raiseSlot_refclk (d : Device) (n : Fin 16) (o : Nat) (syn : List (Nat × Nat)) : (d.raiseSlot n o syn).refclk = d.refclk := RaiseFrame.refclk_eq (RaiseFrame.raise d _ syn)
@[simp] theorem Device.raiseSlot_freeCtr (d : Device) (n : Fin 16) (o : Nat) (syn : List (Nat × Nat)) : (d.raiseSlot n o syn).freeCtr = d.freeCtr := RaiseFrame.freeCtr_eq (RaiseFrame.raise d _ syn)
@[simp] theorem Device.raiseSlot_mem (d : Device) (n : Fin 16) (o : Nat) (syn : List (Nat × Nat)) : (d.raiseSlot n o syn).mem = d.mem := RaiseFrame.mem_eq (RaiseFrame.raise d _ syn)
@[simp] theorem Device.raiseSlot_slots (d : Device) (n : Fin 16) (o : Nat) (syn : List (Nat × Nat)) : (d.raiseSlot n o syn).slots = d.slots := RaiseFrame.slots_eq (RaiseFrame.raise d _ syn)
@[simp] theorem Device.raiseSlot_turn (d : Device) (n : Fin 16) (o : Nat) (syn : List (Nat × Nat)) : (d.raiseSlot n o syn).turn = d.turn := RaiseFrame.turn_eq (RaiseFrame.raise d _ syn)
@[simp] theorem Device.raiseSlot_hwd (d : Device) (n : Fin 16) (o : Nat) (syn : List (Nat × Nat)) : (d.raiseSlot n o syn).hwd = d.hwd := RaiseFrame.hwd_eq (RaiseFrame.raise d _ syn)
@[simp] theorem Device.raiseSlot_loader (d : Device) (n : Fin 16) (o : Nat) (syn : List (Nat × Nat)) : (d.raiseSlot n o syn).loader = d.loader := RaiseFrame.loader_eq (RaiseFrame.raise d _ syn)
@[simp] theorem Device.raiseSlot_ports (d : Device) (n : Fin 16) (o : Nat) (syn : List (Nat × Nat)) : (d.raiseSlot n o syn).ports = d.ports := RaiseFrame.ports_eq (RaiseFrame.raise d _ syn)
@[simp] theorem Device.raiseSlot_bench (d : Device) (n : Fin 16) (o : Nat) (syn : List (Nat × Nat)) : (d.raiseSlot n o syn).bench = d.bench := RaiseFrame.bench_eq (RaiseFrame.raise d _ syn)
@[simp] theorem Device.raiseSlot_grain (d : Device) (n : Fin 16) (o : Nat) (syn : List (Nat × Nat)) : (d.raiseSlot n o syn).grain = d.grain := RaiseFrame.grain_eq (RaiseFrame.raise d _ syn)
@[simp] theorem Device.raiseSlot_resident (d : Device) (n : Fin 16) (o : Nat) (syn : List (Nat × Nat)) : (d.raiseSlot n o syn).resident = d.resident := RaiseFrame.resident_eq (RaiseFrame.raise d _ syn)
@[simp] theorem Device.raiseSlot_jtag (d : Device) (n : Fin 16) (o : Nat) (syn : List (Nat × Nat)) : (d.raiseSlot n o syn).jtag = d.jtag := RaiseFrame.jtag_eq (RaiseFrame.raise d _ syn)
@[simp] theorem Device.raiseSlot_safety (d : Device) (n : Fin 16) (o : Nat) (syn : List (Nat × Nat)) : (d.raiseSlot n o syn).safety = d.safety := RaiseFrame.safety_eq (RaiseFrame.raise d _ syn)
@[simp] theorem Device.raiseSlot_power (d : Device) (n : Fin 16) (o : Nat) (syn : List (Nat × Nat)) : (d.raiseSlot n o syn).power = d.power := RaiseFrame.power_eq (RaiseFrame.raise d _ syn)
@[simp] theorem Device.raiseSlot_sec (d : Device) (n : Fin 16) (o : Nat) (syn : List (Nat × Nat)) : (d.raiseSlot n o syn).sec = d.sec := RaiseFrame.sec_eq (RaiseFrame.raise d _ syn)
@[simp] theorem Device.raiseSlot_smb (d : Device) (n : Fin 16) (o : Nat) (syn : List (Nat × Nat)) : (d.raiseSlot n o syn).smb = d.smb := RaiseFrame.smb_eq (RaiseFrame.raise d _ syn)
@[simp] theorem Device.raiseSlot_denials (d : Device) (n : Fin 16) (o : Nat) (syn : List (Nat × Nat)) : (d.raiseSlot n o syn).denials = d.denials := RaiseFrame.denials_eq (RaiseFrame.raise d _ syn)

/-! ### `Device.portEvent` -/

@[simp] theorem Device.portEvent_por (d : Device) (p : Fin 2) (e : Nat) (syn : List (Nat × Nat)) : (d.portEvent p e syn).por = d.por := RaiseFrame.por_eq (RaiseFrame.raise d _ syn)
@[simp] theorem Device.portEvent_warm (d : Device) (p : Fin 2) (e : Nat) (syn : List (Nat × Nat)) : (d.portEvent p e syn).warm = d.warm := RaiseFrame.warm_eq (RaiseFrame.raise d _ syn)
@[simp] theorem Device.portEvent_now (d : Device) (p : Fin 2) (e : Nat) (syn : List (Nat × Nat)) : (d.portEvent p e syn).now = d.now := RaiseFrame.now_eq (RaiseFrame.raise d _ syn)
@[simp] theorem Device.portEvent_epoch (d : Device) (p : Fin 2) (e : Nat) (syn : List (Nat × Nat)) : (d.portEvent p e syn).epoch = d.epoch := RaiseFrame.epoch_eq (RaiseFrame.raise d _ syn)
@[simp] theorem Device.portEvent_refclk (d : Device) (p : Fin 2) (e : Nat) (syn : List (Nat × Nat)) : (d.portEvent p e syn).refclk = d.refclk := RaiseFrame.refclk_eq (RaiseFrame.raise d _ syn)
@[simp] theorem Device.portEvent_freeCtr (d : Device) (p : Fin 2) (e : Nat) (syn : List (Nat × Nat)) : (d.portEvent p e syn).freeCtr = d.freeCtr := RaiseFrame.freeCtr_eq (RaiseFrame.raise d _ syn)
@[simp] theorem Device.portEvent_mem (d : Device) (p : Fin 2) (e : Nat) (syn : List (Nat × Nat)) : (d.portEvent p e syn).mem = d.mem := RaiseFrame.mem_eq (RaiseFrame.raise d _ syn)
@[simp] theorem Device.portEvent_slots (d : Device) (p : Fin 2) (e : Nat) (syn : List (Nat × Nat)) : (d.portEvent p e syn).slots = d.slots := RaiseFrame.slots_eq (RaiseFrame.raise d _ syn)
@[simp] theorem Device.portEvent_turn (d : Device) (p : Fin 2) (e : Nat) (syn : List (Nat × Nat)) : (d.portEvent p e syn).turn = d.turn := RaiseFrame.turn_eq (RaiseFrame.raise d _ syn)
@[simp] theorem Device.portEvent_hwd (d : Device) (p : Fin 2) (e : Nat) (syn : List (Nat × Nat)) : (d.portEvent p e syn).hwd = d.hwd := RaiseFrame.hwd_eq (RaiseFrame.raise d _ syn)
@[simp] theorem Device.portEvent_loader (d : Device) (p : Fin 2) (e : Nat) (syn : List (Nat × Nat)) : (d.portEvent p e syn).loader = d.loader := RaiseFrame.loader_eq (RaiseFrame.raise d _ syn)
@[simp] theorem Device.portEvent_ports (d : Device) (p : Fin 2) (e : Nat) (syn : List (Nat × Nat)) : (d.portEvent p e syn).ports = d.ports := RaiseFrame.ports_eq (RaiseFrame.raise d _ syn)
@[simp] theorem Device.portEvent_bench (d : Device) (p : Fin 2) (e : Nat) (syn : List (Nat × Nat)) : (d.portEvent p e syn).bench = d.bench := RaiseFrame.bench_eq (RaiseFrame.raise d _ syn)
@[simp] theorem Device.portEvent_grain (d : Device) (p : Fin 2) (e : Nat) (syn : List (Nat × Nat)) : (d.portEvent p e syn).grain = d.grain := RaiseFrame.grain_eq (RaiseFrame.raise d _ syn)
@[simp] theorem Device.portEvent_resident (d : Device) (p : Fin 2) (e : Nat) (syn : List (Nat × Nat)) : (d.portEvent p e syn).resident = d.resident := RaiseFrame.resident_eq (RaiseFrame.raise d _ syn)
@[simp] theorem Device.portEvent_jtag (d : Device) (p : Fin 2) (e : Nat) (syn : List (Nat × Nat)) : (d.portEvent p e syn).jtag = d.jtag := RaiseFrame.jtag_eq (RaiseFrame.raise d _ syn)
@[simp] theorem Device.portEvent_safety (d : Device) (p : Fin 2) (e : Nat) (syn : List (Nat × Nat)) : (d.portEvent p e syn).safety = d.safety := RaiseFrame.safety_eq (RaiseFrame.raise d _ syn)
@[simp] theorem Device.portEvent_power (d : Device) (p : Fin 2) (e : Nat) (syn : List (Nat × Nat)) : (d.portEvent p e syn).power = d.power := RaiseFrame.power_eq (RaiseFrame.raise d _ syn)
@[simp] theorem Device.portEvent_sec (d : Device) (p : Fin 2) (e : Nat) (syn : List (Nat × Nat)) : (d.portEvent p e syn).sec = d.sec := RaiseFrame.sec_eq (RaiseFrame.raise d _ syn)
@[simp] theorem Device.portEvent_smb (d : Device) (p : Fin 2) (e : Nat) (syn : List (Nat × Nat)) : (d.portEvent p e syn).smb = d.smb := RaiseFrame.smb_eq (RaiseFrame.raise d _ syn)
@[simp] theorem Device.portEvent_denials (d : Device) (p : Fin 2) (e : Nat) (syn : List (Nat × Nat)) : (d.portEvent p e syn).denials = d.denials := RaiseFrame.denials_eq (RaiseFrame.raise d _ syn)

/-! ### `Device.safeLow` -/

@[simp] theorem Device.safeLow_por (d : Device) : (d.safeLow).por = d.por := RaiseFrame.por_eq (RaiseFrame.safeLow d)
@[simp] theorem Device.safeLow_warm (d : Device) : (d.safeLow).warm = d.warm := RaiseFrame.warm_eq (RaiseFrame.safeLow d)
@[simp] theorem Device.safeLow_now (d : Device) : (d.safeLow).now = d.now := RaiseFrame.now_eq (RaiseFrame.safeLow d)
@[simp] theorem Device.safeLow_epoch (d : Device) : (d.safeLow).epoch = d.epoch := RaiseFrame.epoch_eq (RaiseFrame.safeLow d)
@[simp] theorem Device.safeLow_refclk (d : Device) : (d.safeLow).refclk = d.refclk := RaiseFrame.refclk_eq (RaiseFrame.safeLow d)
@[simp] theorem Device.safeLow_freeCtr (d : Device) : (d.safeLow).freeCtr = d.freeCtr := RaiseFrame.freeCtr_eq (RaiseFrame.safeLow d)
@[simp] theorem Device.safeLow_mem (d : Device) : (d.safeLow).mem = d.mem := RaiseFrame.mem_eq (RaiseFrame.safeLow d)
@[simp] theorem Device.safeLow_slots (d : Device) : (d.safeLow).slots = d.slots := RaiseFrame.slots_eq (RaiseFrame.safeLow d)
@[simp] theorem Device.safeLow_turn (d : Device) : (d.safeLow).turn = d.turn := RaiseFrame.turn_eq (RaiseFrame.safeLow d)
@[simp] theorem Device.safeLow_hwd (d : Device) : (d.safeLow).hwd = d.hwd := RaiseFrame.hwd_eq (RaiseFrame.safeLow d)
@[simp] theorem Device.safeLow_loader (d : Device) : (d.safeLow).loader = d.loader := RaiseFrame.loader_eq (RaiseFrame.safeLow d)
@[simp] theorem Device.safeLow_ports (d : Device) : (d.safeLow).ports = d.ports := RaiseFrame.ports_eq (RaiseFrame.safeLow d)
@[simp] theorem Device.safeLow_bench (d : Device) : (d.safeLow).bench = d.bench := RaiseFrame.bench_eq (RaiseFrame.safeLow d)
@[simp] theorem Device.safeLow_grain (d : Device) : (d.safeLow).grain = d.grain := RaiseFrame.grain_eq (RaiseFrame.safeLow d)
@[simp] theorem Device.safeLow_resident (d : Device) : (d.safeLow).resident = d.resident := RaiseFrame.resident_eq (RaiseFrame.safeLow d)
@[simp] theorem Device.safeLow_jtag (d : Device) : (d.safeLow).jtag = d.jtag := RaiseFrame.jtag_eq (RaiseFrame.safeLow d)
@[simp] theorem Device.safeLow_safety (d : Device) : (d.safeLow).safety = d.safety := RaiseFrame.safety_eq (RaiseFrame.safeLow d)
@[simp] theorem Device.safeLow_power (d : Device) : (d.safeLow).power = d.power := RaiseFrame.power_eq (RaiseFrame.safeLow d)
@[simp] theorem Device.safeLow_sec (d : Device) : (d.safeLow).sec = d.sec := RaiseFrame.sec_eq (RaiseFrame.safeLow d)
@[simp] theorem Device.safeLow_smb (d : Device) : (d.safeLow).smb = d.smb := RaiseFrame.smb_eq (RaiseFrame.safeLow d)
@[simp] theorem Device.safeLow_denials (d : Device) : (d.safeLow).denials = d.denials := RaiseFrame.denials_eq (RaiseFrame.safeLow d)

/-! ### `Device.signal` -/

@[simp] theorem Device.signal_por (d : Device) (cause event : Nat) (syn : List (Nat × Nat)) : (d.signal cause event syn).por = d.por := RaiseFrame.por_eq (RaiseFrame.signal d cause event syn)
@[simp] theorem Device.signal_warm (d : Device) (cause event : Nat) (syn : List (Nat × Nat)) : (d.signal cause event syn).warm = d.warm := RaiseFrame.warm_eq (RaiseFrame.signal d cause event syn)
@[simp] theorem Device.signal_now (d : Device) (cause event : Nat) (syn : List (Nat × Nat)) : (d.signal cause event syn).now = d.now := RaiseFrame.now_eq (RaiseFrame.signal d cause event syn)
@[simp] theorem Device.signal_epoch (d : Device) (cause event : Nat) (syn : List (Nat × Nat)) : (d.signal cause event syn).epoch = d.epoch := RaiseFrame.epoch_eq (RaiseFrame.signal d cause event syn)
@[simp] theorem Device.signal_refclk (d : Device) (cause event : Nat) (syn : List (Nat × Nat)) : (d.signal cause event syn).refclk = d.refclk := RaiseFrame.refclk_eq (RaiseFrame.signal d cause event syn)
@[simp] theorem Device.signal_freeCtr (d : Device) (cause event : Nat) (syn : List (Nat × Nat)) : (d.signal cause event syn).freeCtr = d.freeCtr := RaiseFrame.freeCtr_eq (RaiseFrame.signal d cause event syn)
@[simp] theorem Device.signal_mem (d : Device) (cause event : Nat) (syn : List (Nat × Nat)) : (d.signal cause event syn).mem = d.mem := RaiseFrame.mem_eq (RaiseFrame.signal d cause event syn)
@[simp] theorem Device.signal_slots (d : Device) (cause event : Nat) (syn : List (Nat × Nat)) : (d.signal cause event syn).slots = d.slots := RaiseFrame.slots_eq (RaiseFrame.signal d cause event syn)
@[simp] theorem Device.signal_turn (d : Device) (cause event : Nat) (syn : List (Nat × Nat)) : (d.signal cause event syn).turn = d.turn := RaiseFrame.turn_eq (RaiseFrame.signal d cause event syn)
@[simp] theorem Device.signal_hwd (d : Device) (cause event : Nat) (syn : List (Nat × Nat)) : (d.signal cause event syn).hwd = d.hwd := RaiseFrame.hwd_eq (RaiseFrame.signal d cause event syn)
@[simp] theorem Device.signal_loader (d : Device) (cause event : Nat) (syn : List (Nat × Nat)) : (d.signal cause event syn).loader = d.loader := RaiseFrame.loader_eq (RaiseFrame.signal d cause event syn)
@[simp] theorem Device.signal_ports (d : Device) (cause event : Nat) (syn : List (Nat × Nat)) : (d.signal cause event syn).ports = d.ports := RaiseFrame.ports_eq (RaiseFrame.signal d cause event syn)
@[simp] theorem Device.signal_bench (d : Device) (cause event : Nat) (syn : List (Nat × Nat)) : (d.signal cause event syn).bench = d.bench := RaiseFrame.bench_eq (RaiseFrame.signal d cause event syn)
@[simp] theorem Device.signal_grain (d : Device) (cause event : Nat) (syn : List (Nat × Nat)) : (d.signal cause event syn).grain = d.grain := RaiseFrame.grain_eq (RaiseFrame.signal d cause event syn)
@[simp] theorem Device.signal_resident (d : Device) (cause event : Nat) (syn : List (Nat × Nat)) : (d.signal cause event syn).resident = d.resident := RaiseFrame.resident_eq (RaiseFrame.signal d cause event syn)
@[simp] theorem Device.signal_jtag (d : Device) (cause event : Nat) (syn : List (Nat × Nat)) : (d.signal cause event syn).jtag = d.jtag := RaiseFrame.jtag_eq (RaiseFrame.signal d cause event syn)
@[simp] theorem Device.signal_safety (d : Device) (cause event : Nat) (syn : List (Nat × Nat)) : (d.signal cause event syn).safety = d.safety := RaiseFrame.safety_eq (RaiseFrame.signal d cause event syn)
@[simp] theorem Device.signal_power (d : Device) (cause event : Nat) (syn : List (Nat × Nat)) : (d.signal cause event syn).power = d.power := RaiseFrame.power_eq (RaiseFrame.signal d cause event syn)
@[simp] theorem Device.signal_sec (d : Device) (cause event : Nat) (syn : List (Nat × Nat)) : (d.signal cause event syn).sec = d.sec := RaiseFrame.sec_eq (RaiseFrame.signal d cause event syn)
@[simp] theorem Device.signal_smb (d : Device) (cause event : Nat) (syn : List (Nat × Nat)) : (d.signal cause event syn).smb = d.smb := RaiseFrame.smb_eq (RaiseFrame.signal d cause event syn)
@[simp] theorem Device.signal_denials (d : Device) (cause event : Nat) (syn : List (Nat × Nat)) : (d.signal cause event syn).denials = d.denials := RaiseFrame.denials_eq (RaiseFrame.signal d cause event syn)

/-! ### `Device.setActive` -/

@[simp] theorem Device.setActive_por (d : Device) (cause : Nat) (b : Bool) : (d.setActive cause b).por = d.por := RaiseFrame.por_eq (RaiseFrame.setActive d cause b)
@[simp] theorem Device.setActive_warm (d : Device) (cause : Nat) (b : Bool) : (d.setActive cause b).warm = d.warm := RaiseFrame.warm_eq (RaiseFrame.setActive d cause b)
@[simp] theorem Device.setActive_now (d : Device) (cause : Nat) (b : Bool) : (d.setActive cause b).now = d.now := RaiseFrame.now_eq (RaiseFrame.setActive d cause b)
@[simp] theorem Device.setActive_epoch (d : Device) (cause : Nat) (b : Bool) : (d.setActive cause b).epoch = d.epoch := RaiseFrame.epoch_eq (RaiseFrame.setActive d cause b)
@[simp] theorem Device.setActive_refclk (d : Device) (cause : Nat) (b : Bool) : (d.setActive cause b).refclk = d.refclk := RaiseFrame.refclk_eq (RaiseFrame.setActive d cause b)
@[simp] theorem Device.setActive_freeCtr (d : Device) (cause : Nat) (b : Bool) : (d.setActive cause b).freeCtr = d.freeCtr := RaiseFrame.freeCtr_eq (RaiseFrame.setActive d cause b)
@[simp] theorem Device.setActive_mem (d : Device) (cause : Nat) (b : Bool) : (d.setActive cause b).mem = d.mem := RaiseFrame.mem_eq (RaiseFrame.setActive d cause b)
@[simp] theorem Device.setActive_slots (d : Device) (cause : Nat) (b : Bool) : (d.setActive cause b).slots = d.slots := RaiseFrame.slots_eq (RaiseFrame.setActive d cause b)
@[simp] theorem Device.setActive_turn (d : Device) (cause : Nat) (b : Bool) : (d.setActive cause b).turn = d.turn := RaiseFrame.turn_eq (RaiseFrame.setActive d cause b)
@[simp] theorem Device.setActive_hwd (d : Device) (cause : Nat) (b : Bool) : (d.setActive cause b).hwd = d.hwd := RaiseFrame.hwd_eq (RaiseFrame.setActive d cause b)
@[simp] theorem Device.setActive_loader (d : Device) (cause : Nat) (b : Bool) : (d.setActive cause b).loader = d.loader := RaiseFrame.loader_eq (RaiseFrame.setActive d cause b)
@[simp] theorem Device.setActive_ports (d : Device) (cause : Nat) (b : Bool) : (d.setActive cause b).ports = d.ports := RaiseFrame.ports_eq (RaiseFrame.setActive d cause b)
@[simp] theorem Device.setActive_bench (d : Device) (cause : Nat) (b : Bool) : (d.setActive cause b).bench = d.bench := RaiseFrame.bench_eq (RaiseFrame.setActive d cause b)
@[simp] theorem Device.setActive_grain (d : Device) (cause : Nat) (b : Bool) : (d.setActive cause b).grain = d.grain := RaiseFrame.grain_eq (RaiseFrame.setActive d cause b)
@[simp] theorem Device.setActive_resident (d : Device) (cause : Nat) (b : Bool) : (d.setActive cause b).resident = d.resident := RaiseFrame.resident_eq (RaiseFrame.setActive d cause b)
@[simp] theorem Device.setActive_jtag (d : Device) (cause : Nat) (b : Bool) : (d.setActive cause b).jtag = d.jtag := RaiseFrame.jtag_eq (RaiseFrame.setActive d cause b)
@[simp] theorem Device.setActive_safety (d : Device) (cause : Nat) (b : Bool) : (d.setActive cause b).safety = d.safety := RaiseFrame.safety_eq (RaiseFrame.setActive d cause b)
@[simp] theorem Device.setActive_power (d : Device) (cause : Nat) (b : Bool) : (d.setActive cause b).power = d.power := RaiseFrame.power_eq (RaiseFrame.setActive d cause b)
@[simp] theorem Device.setActive_sec (d : Device) (cause : Nat) (b : Bool) : (d.setActive cause b).sec = d.sec := RaiseFrame.sec_eq (RaiseFrame.setActive d cause b)
@[simp] theorem Device.setActive_smb (d : Device) (cause : Nat) (b : Bool) : (d.setActive cause b).smb = d.smb := RaiseFrame.smb_eq (RaiseFrame.setActive d cause b)
@[simp] theorem Device.setActive_denials (d : Device) (cause : Nat) (b : Bool) : (d.setActive cause b).denials = d.denials := RaiseFrame.denials_eq (RaiseFrame.setActive d cause b)

/-! ### Stored bytes -/

theorem Device.setBytes_shape (d : Device) (a : Nat) (bs : List Byte) : ∃ m, d.setBytes a bs = { d with mem := m } := by
  induction bs generalizing d a with
  | nil => exact ⟨_, rfl⟩
  | cons b t ih =>
    obtain ⟨m, h⟩ := ih (d.setByte a b) (a + 1)
    exact ⟨m, h⟩

theorem Device.setLe_shape (d : Device) (a n v : Nat) : ∃ m, d.setLe a n v = { d with mem := m } := by
  unfold Device.setLe
  exact Device.setBytes_shape d a _

theorem Device.setGroup_shape (d : Device) (ch g v : Nat) : ∃ m, d.setGroup ch g v = { d with mem := m } := by
  obtain ⟨m, h⟩ := Device.setLe_shape d (grainBase ch + 8 * g) 8 v
  exact ⟨_, by rw [Device.setGroup, h]; rfl⟩

@[simp] theorem Device.setBytes_por (d : Device) (a : Nat) (bs : List Byte) : (d.setBytes a bs).por = d.por := by
  obtain ⟨_, h⟩ := Device.setBytes_shape d a bs; rw [h]
@[simp] theorem Device.setBytes_warm (d : Device) (a : Nat) (bs : List Byte) : (d.setBytes a bs).warm = d.warm := by
  obtain ⟨_, h⟩ := Device.setBytes_shape d a bs; rw [h]
@[simp] theorem Device.setBytes_now (d : Device) (a : Nat) (bs : List Byte) : (d.setBytes a bs).now = d.now := by
  obtain ⟨_, h⟩ := Device.setBytes_shape d a bs; rw [h]
@[simp] theorem Device.setBytes_epoch (d : Device) (a : Nat) (bs : List Byte) : (d.setBytes a bs).epoch = d.epoch := by
  obtain ⟨_, h⟩ := Device.setBytes_shape d a bs; rw [h]
@[simp] theorem Device.setBytes_refclk (d : Device) (a : Nat) (bs : List Byte) : (d.setBytes a bs).refclk = d.refclk := by
  obtain ⟨_, h⟩ := Device.setBytes_shape d a bs; rw [h]
@[simp] theorem Device.setBytes_freeCtr (d : Device) (a : Nat) (bs : List Byte) : (d.setBytes a bs).freeCtr = d.freeCtr := by
  obtain ⟨_, h⟩ := Device.setBytes_shape d a bs; rw [h]
@[simp] theorem Device.setBytes_regs (d : Device) (a : Nat) (bs : List Byte) : (d.setBytes a bs).regs = d.regs := by
  obtain ⟨_, h⟩ := Device.setBytes_shape d a bs; rw [h]
@[simp] theorem Device.setBytes_slots (d : Device) (a : Nat) (bs : List Byte) : (d.setBytes a bs).slots = d.slots := by
  obtain ⟨_, h⟩ := Device.setBytes_shape d a bs; rw [h]
@[simp] theorem Device.setBytes_latches (d : Device) (a : Nat) (bs : List Byte) : (d.setBytes a bs).latches = d.latches := by
  obtain ⟨_, h⟩ := Device.setBytes_shape d a bs; rw [h]
@[simp] theorem Device.setBytes_turn (d : Device) (a : Nat) (bs : List Byte) : (d.setBytes a bs).turn = d.turn := by
  obtain ⟨_, h⟩ := Device.setBytes_shape d a bs; rw [h]
@[simp] theorem Device.setBytes_scribe (d : Device) (a : Nat) (bs : List Byte) : (d.setBytes a bs).scribe = d.scribe := by
  obtain ⟨_, h⟩ := Device.setBytes_shape d a bs; rw [h]
@[simp] theorem Device.setBytes_hwd (d : Device) (a : Nat) (bs : List Byte) : (d.setBytes a bs).hwd = d.hwd := by
  obtain ⟨_, h⟩ := Device.setBytes_shape d a bs; rw [h]
@[simp] theorem Device.setBytes_loader (d : Device) (a : Nat) (bs : List Byte) : (d.setBytes a bs).loader = d.loader := by
  obtain ⟨_, h⟩ := Device.setBytes_shape d a bs; rw [h]
@[simp] theorem Device.setBytes_ports (d : Device) (a : Nat) (bs : List Byte) : (d.setBytes a bs).ports = d.ports := by
  obtain ⟨_, h⟩ := Device.setBytes_shape d a bs; rw [h]
@[simp] theorem Device.setBytes_bench (d : Device) (a : Nat) (bs : List Byte) : (d.setBytes a bs).bench = d.bench := by
  obtain ⟨_, h⟩ := Device.setBytes_shape d a bs; rw [h]
@[simp] theorem Device.setBytes_grain (d : Device) (a : Nat) (bs : List Byte) : (d.setBytes a bs).grain = d.grain := by
  obtain ⟨_, h⟩ := Device.setBytes_shape d a bs; rw [h]
@[simp] theorem Device.setBytes_resident (d : Device) (a : Nat) (bs : List Byte) : (d.setBytes a bs).resident = d.resident := by
  obtain ⟨_, h⟩ := Device.setBytes_shape d a bs; rw [h]
@[simp] theorem Device.setBytes_jtag (d : Device) (a : Nat) (bs : List Byte) : (d.setBytes a bs).jtag = d.jtag := by
  obtain ⟨_, h⟩ := Device.setBytes_shape d a bs; rw [h]
@[simp] theorem Device.setBytes_safety (d : Device) (a : Nat) (bs : List Byte) : (d.setBytes a bs).safety = d.safety := by
  obtain ⟨_, h⟩ := Device.setBytes_shape d a bs; rw [h]
@[simp] theorem Device.setBytes_ring (d : Device) (a : Nat) (bs : List Byte) : (d.setBytes a bs).ring = d.ring := by
  obtain ⟨_, h⟩ := Device.setBytes_shape d a bs; rw [h]
@[simp] theorem Device.setBytes_power (d : Device) (a : Nat) (bs : List Byte) : (d.setBytes a bs).power = d.power := by
  obtain ⟨_, h⟩ := Device.setBytes_shape d a bs; rw [h]
@[simp] theorem Device.setBytes_sec (d : Device) (a : Nat) (bs : List Byte) : (d.setBytes a bs).sec = d.sec := by
  obtain ⟨_, h⟩ := Device.setBytes_shape d a bs; rw [h]
@[simp] theorem Device.setBytes_smb (d : Device) (a : Nat) (bs : List Byte) : (d.setBytes a bs).smb = d.smb := by
  obtain ⟨_, h⟩ := Device.setBytes_shape d a bs; rw [h]
@[simp] theorem Device.setBytes_denials (d : Device) (a : Nat) (bs : List Byte) : (d.setBytes a bs).denials = d.denials := by
  obtain ⟨_, h⟩ := Device.setBytes_shape d a bs; rw [h]
@[simp] theorem Device.setBytes_out (d : Device) (a : Nat) (bs : List Byte) : (d.setBytes a bs).out = d.out := by
  obtain ⟨_, h⟩ := Device.setBytes_shape d a bs; rw [h]

@[simp] theorem Device.setLe_por (d : Device) (a n v : Nat) : (d.setLe a n v).por = d.por := by
  obtain ⟨_, h⟩ := Device.setLe_shape d a n v; rw [h]
@[simp] theorem Device.setLe_warm (d : Device) (a n v : Nat) : (d.setLe a n v).warm = d.warm := by
  obtain ⟨_, h⟩ := Device.setLe_shape d a n v; rw [h]
@[simp] theorem Device.setLe_now (d : Device) (a n v : Nat) : (d.setLe a n v).now = d.now := by
  obtain ⟨_, h⟩ := Device.setLe_shape d a n v; rw [h]
@[simp] theorem Device.setLe_epoch (d : Device) (a n v : Nat) : (d.setLe a n v).epoch = d.epoch := by
  obtain ⟨_, h⟩ := Device.setLe_shape d a n v; rw [h]
@[simp] theorem Device.setLe_refclk (d : Device) (a n v : Nat) : (d.setLe a n v).refclk = d.refclk := by
  obtain ⟨_, h⟩ := Device.setLe_shape d a n v; rw [h]
@[simp] theorem Device.setLe_freeCtr (d : Device) (a n v : Nat) : (d.setLe a n v).freeCtr = d.freeCtr := by
  obtain ⟨_, h⟩ := Device.setLe_shape d a n v; rw [h]
@[simp] theorem Device.setLe_regs (d : Device) (a n v : Nat) : (d.setLe a n v).regs = d.regs := by
  obtain ⟨_, h⟩ := Device.setLe_shape d a n v; rw [h]
@[simp] theorem Device.setLe_slots (d : Device) (a n v : Nat) : (d.setLe a n v).slots = d.slots := by
  obtain ⟨_, h⟩ := Device.setLe_shape d a n v; rw [h]
@[simp] theorem Device.setLe_latches (d : Device) (a n v : Nat) : (d.setLe a n v).latches = d.latches := by
  obtain ⟨_, h⟩ := Device.setLe_shape d a n v; rw [h]
@[simp] theorem Device.setLe_turn (d : Device) (a n v : Nat) : (d.setLe a n v).turn = d.turn := by
  obtain ⟨_, h⟩ := Device.setLe_shape d a n v; rw [h]
@[simp] theorem Device.setLe_scribe (d : Device) (a n v : Nat) : (d.setLe a n v).scribe = d.scribe := by
  obtain ⟨_, h⟩ := Device.setLe_shape d a n v; rw [h]
@[simp] theorem Device.setLe_hwd (d : Device) (a n v : Nat) : (d.setLe a n v).hwd = d.hwd := by
  obtain ⟨_, h⟩ := Device.setLe_shape d a n v; rw [h]
@[simp] theorem Device.setLe_loader (d : Device) (a n v : Nat) : (d.setLe a n v).loader = d.loader := by
  obtain ⟨_, h⟩ := Device.setLe_shape d a n v; rw [h]
@[simp] theorem Device.setLe_ports (d : Device) (a n v : Nat) : (d.setLe a n v).ports = d.ports := by
  obtain ⟨_, h⟩ := Device.setLe_shape d a n v; rw [h]
@[simp] theorem Device.setLe_bench (d : Device) (a n v : Nat) : (d.setLe a n v).bench = d.bench := by
  obtain ⟨_, h⟩ := Device.setLe_shape d a n v; rw [h]
@[simp] theorem Device.setLe_grain (d : Device) (a n v : Nat) : (d.setLe a n v).grain = d.grain := by
  obtain ⟨_, h⟩ := Device.setLe_shape d a n v; rw [h]
@[simp] theorem Device.setLe_resident (d : Device) (a n v : Nat) : (d.setLe a n v).resident = d.resident := by
  obtain ⟨_, h⟩ := Device.setLe_shape d a n v; rw [h]
@[simp] theorem Device.setLe_jtag (d : Device) (a n v : Nat) : (d.setLe a n v).jtag = d.jtag := by
  obtain ⟨_, h⟩ := Device.setLe_shape d a n v; rw [h]
@[simp] theorem Device.setLe_safety (d : Device) (a n v : Nat) : (d.setLe a n v).safety = d.safety := by
  obtain ⟨_, h⟩ := Device.setLe_shape d a n v; rw [h]
@[simp] theorem Device.setLe_ring (d : Device) (a n v : Nat) : (d.setLe a n v).ring = d.ring := by
  obtain ⟨_, h⟩ := Device.setLe_shape d a n v; rw [h]
@[simp] theorem Device.setLe_power (d : Device) (a n v : Nat) : (d.setLe a n v).power = d.power := by
  obtain ⟨_, h⟩ := Device.setLe_shape d a n v; rw [h]
@[simp] theorem Device.setLe_sec (d : Device) (a n v : Nat) : (d.setLe a n v).sec = d.sec := by
  obtain ⟨_, h⟩ := Device.setLe_shape d a n v; rw [h]
@[simp] theorem Device.setLe_smb (d : Device) (a n v : Nat) : (d.setLe a n v).smb = d.smb := by
  obtain ⟨_, h⟩ := Device.setLe_shape d a n v; rw [h]
@[simp] theorem Device.setLe_denials (d : Device) (a n v : Nat) : (d.setLe a n v).denials = d.denials := by
  obtain ⟨_, h⟩ := Device.setLe_shape d a n v; rw [h]
@[simp] theorem Device.setLe_out (d : Device) (a n v : Nat) : (d.setLe a n v).out = d.out := by
  obtain ⟨_, h⟩ := Device.setLe_shape d a n v; rw [h]

@[simp] theorem Device.setGroup_por (d : Device) (ch g v : Nat) : (d.setGroup ch g v).por = d.por := by
  obtain ⟨_, h⟩ := Device.setGroup_shape d ch g v; rw [h]
@[simp] theorem Device.setGroup_warm (d : Device) (ch g v : Nat) : (d.setGroup ch g v).warm = d.warm := by
  obtain ⟨_, h⟩ := Device.setGroup_shape d ch g v; rw [h]
@[simp] theorem Device.setGroup_now (d : Device) (ch g v : Nat) : (d.setGroup ch g v).now = d.now := by
  obtain ⟨_, h⟩ := Device.setGroup_shape d ch g v; rw [h]
@[simp] theorem Device.setGroup_epoch (d : Device) (ch g v : Nat) : (d.setGroup ch g v).epoch = d.epoch := by
  obtain ⟨_, h⟩ := Device.setGroup_shape d ch g v; rw [h]
@[simp] theorem Device.setGroup_refclk (d : Device) (ch g v : Nat) : (d.setGroup ch g v).refclk = d.refclk := by
  obtain ⟨_, h⟩ := Device.setGroup_shape d ch g v; rw [h]
@[simp] theorem Device.setGroup_freeCtr (d : Device) (ch g v : Nat) : (d.setGroup ch g v).freeCtr = d.freeCtr := by
  obtain ⟨_, h⟩ := Device.setGroup_shape d ch g v; rw [h]
@[simp] theorem Device.setGroup_regs (d : Device) (ch g v : Nat) : (d.setGroup ch g v).regs = d.regs := by
  obtain ⟨_, h⟩ := Device.setGroup_shape d ch g v; rw [h]
@[simp] theorem Device.setGroup_slots (d : Device) (ch g v : Nat) : (d.setGroup ch g v).slots = d.slots := by
  obtain ⟨_, h⟩ := Device.setGroup_shape d ch g v; rw [h]
@[simp] theorem Device.setGroup_latches (d : Device) (ch g v : Nat) : (d.setGroup ch g v).latches = d.latches := by
  obtain ⟨_, h⟩ := Device.setGroup_shape d ch g v; rw [h]
@[simp] theorem Device.setGroup_turn (d : Device) (ch g v : Nat) : (d.setGroup ch g v).turn = d.turn := by
  obtain ⟨_, h⟩ := Device.setGroup_shape d ch g v; rw [h]
@[simp] theorem Device.setGroup_scribe (d : Device) (ch g v : Nat) : (d.setGroup ch g v).scribe = d.scribe := by
  obtain ⟨_, h⟩ := Device.setGroup_shape d ch g v; rw [h]
@[simp] theorem Device.setGroup_hwd (d : Device) (ch g v : Nat) : (d.setGroup ch g v).hwd = d.hwd := by
  obtain ⟨_, h⟩ := Device.setGroup_shape d ch g v; rw [h]
@[simp] theorem Device.setGroup_loader (d : Device) (ch g v : Nat) : (d.setGroup ch g v).loader = d.loader := by
  obtain ⟨_, h⟩ := Device.setGroup_shape d ch g v; rw [h]
@[simp] theorem Device.setGroup_ports (d : Device) (ch g v : Nat) : (d.setGroup ch g v).ports = d.ports := by
  obtain ⟨_, h⟩ := Device.setGroup_shape d ch g v; rw [h]
@[simp] theorem Device.setGroup_bench (d : Device) (ch g v : Nat) : (d.setGroup ch g v).bench = d.bench := by
  obtain ⟨_, h⟩ := Device.setGroup_shape d ch g v; rw [h]
@[simp] theorem Device.setGroup_grain (d : Device) (ch g v : Nat) : (d.setGroup ch g v).grain = d.grain := by
  obtain ⟨_, h⟩ := Device.setGroup_shape d ch g v; rw [h]
@[simp] theorem Device.setGroup_resident (d : Device) (ch g v : Nat) : (d.setGroup ch g v).resident = d.resident := by
  obtain ⟨_, h⟩ := Device.setGroup_shape d ch g v; rw [h]
@[simp] theorem Device.setGroup_jtag (d : Device) (ch g v : Nat) : (d.setGroup ch g v).jtag = d.jtag := by
  obtain ⟨_, h⟩ := Device.setGroup_shape d ch g v; rw [h]
@[simp] theorem Device.setGroup_safety (d : Device) (ch g v : Nat) : (d.setGroup ch g v).safety = d.safety := by
  obtain ⟨_, h⟩ := Device.setGroup_shape d ch g v; rw [h]
@[simp] theorem Device.setGroup_ring (d : Device) (ch g v : Nat) : (d.setGroup ch g v).ring = d.ring := by
  obtain ⟨_, h⟩ := Device.setGroup_shape d ch g v; rw [h]
@[simp] theorem Device.setGroup_power (d : Device) (ch g v : Nat) : (d.setGroup ch g v).power = d.power := by
  obtain ⟨_, h⟩ := Device.setGroup_shape d ch g v; rw [h]
@[simp] theorem Device.setGroup_sec (d : Device) (ch g v : Nat) : (d.setGroup ch g v).sec = d.sec := by
  obtain ⟨_, h⟩ := Device.setGroup_shape d ch g v; rw [h]
@[simp] theorem Device.setGroup_smb (d : Device) (ch g v : Nat) : (d.setGroup ch g v).smb = d.smb := by
  obtain ⟨_, h⟩ := Device.setGroup_shape d ch g v; rw [h]
@[simp] theorem Device.setGroup_denials (d : Device) (ch g v : Nat) : (d.setGroup ch g v).denials = d.denials := by
  obtain ⟨_, h⟩ := Device.setGroup_shape d ch g v; rw [h]
@[simp] theorem Device.setGroup_out (d : Device) (ch g v : Nat) : (d.setGroup ch g v).out = d.out := by
  obtain ⟨_, h⟩ := Device.setGroup_shape d ch g v; rw [h]

/-! ### The resident store controller -/

theorem Device.resResult_shape (d : Device) (op code : Nat) (isc : Bool) (us : Nat) :
    ∃ e : Device, RaiseFrame d e ∧ ∃ j, d.resResult op code isc us = { e with jtag := j } := by
  unfold Device.resResult
  generalize natOf isc * 2 ^ 10 + op % 4 * 2 ^ 8 + code = w
  generalize min 0xFFFFFFFF us = u
  dsimp only
  have h := (RaiseFrame.wr d Reg.resResult w).trans (.wr _ Reg.resElapsed u)
  generalize Device.wr (Device.wr _ _ _) _ _ = e at h
  generalize he : (if isc then { e with jtag := { e.jtag with iscFail := code != 0 } } else e : Device) = f
  have hf : ∃ j, f = { e with jtag := j } := by
    subst he
    split
    · exact ⟨_, rfl⟩
    · exact ⟨e.jtag, rfl⟩
  obtain ⟨j, rfl⟩ := hf
  have raised : ∀ (ev : Nat) (syn : List (Nat × Nat)), ∃ e', RaiseFrame d e' ∧ ∃ j', Device.raise { e with jtag := j } ev syn =
      { e' with jtag := j' } := by
    intro ev syn
    obtain ⟨r, l, s, g, o, hr⟩ := RaiseFrame.raise { e with jtag := j } ev syn
    exact ⟨{ e with regs := r, latches := l, scribe := s, ring := g, out := o }, h.trans ⟨_, _, _, _, _, rfl⟩, j, hr⟩
  split
  · exact raised 426 _
  · split
    · exact raised 424 _
    · split
      · exact raised 425 _
      · exact ⟨e, h, j, rfl⟩

@[simp] theorem Device.resResult_por (d : Device) (op code : Nat) (isc : Bool) (us : Nat) :
    (d.resResult op code isc us).por = d.por := by
  obtain ⟨e, h, _, g⟩ := Device.resResult_shape d op code isc us
  rw [g]
  exact h.por_eq
@[simp] theorem Device.resResult_warm (d : Device) (op code : Nat) (isc : Bool) (us : Nat) :
    (d.resResult op code isc us).warm = d.warm := by
  obtain ⟨e, h, _, g⟩ := Device.resResult_shape d op code isc us
  rw [g]
  exact h.warm_eq
@[simp] theorem Device.resResult_now (d : Device) (op code : Nat) (isc : Bool) (us : Nat) :
    (d.resResult op code isc us).now = d.now := by
  obtain ⟨e, h, _, g⟩ := Device.resResult_shape d op code isc us
  rw [g]
  exact h.now_eq
@[simp] theorem Device.resResult_epoch (d : Device) (op code : Nat) (isc : Bool) (us : Nat) :
    (d.resResult op code isc us).epoch = d.epoch := by
  obtain ⟨e, h, _, g⟩ := Device.resResult_shape d op code isc us
  rw [g]
  exact h.epoch_eq
@[simp] theorem Device.resResult_refclk (d : Device) (op code : Nat) (isc : Bool) (us : Nat) :
    (d.resResult op code isc us).refclk = d.refclk := by
  obtain ⟨e, h, _, g⟩ := Device.resResult_shape d op code isc us
  rw [g]
  exact h.refclk_eq
@[simp] theorem Device.resResult_freeCtr (d : Device) (op code : Nat) (isc : Bool) (us : Nat) :
    (d.resResult op code isc us).freeCtr = d.freeCtr := by
  obtain ⟨e, h, _, g⟩ := Device.resResult_shape d op code isc us
  rw [g]
  exact h.freeCtr_eq
@[simp] theorem Device.resResult_mem (d : Device) (op code : Nat) (isc : Bool) (us : Nat) :
    (d.resResult op code isc us).mem = d.mem := by
  obtain ⟨e, h, _, g⟩ := Device.resResult_shape d op code isc us
  rw [g]
  exact h.mem_eq
@[simp] theorem Device.resResult_slots (d : Device) (op code : Nat) (isc : Bool) (us : Nat) :
    (d.resResult op code isc us).slots = d.slots := by
  obtain ⟨e, h, _, g⟩ := Device.resResult_shape d op code isc us
  rw [g]
  exact h.slots_eq
@[simp] theorem Device.resResult_turn (d : Device) (op code : Nat) (isc : Bool) (us : Nat) :
    (d.resResult op code isc us).turn = d.turn := by
  obtain ⟨e, h, _, g⟩ := Device.resResult_shape d op code isc us
  rw [g]
  exact h.turn_eq
@[simp] theorem Device.resResult_hwd (d : Device) (op code : Nat) (isc : Bool) (us : Nat) :
    (d.resResult op code isc us).hwd = d.hwd := by
  obtain ⟨e, h, _, g⟩ := Device.resResult_shape d op code isc us
  rw [g]
  exact h.hwd_eq
@[simp] theorem Device.resResult_loader (d : Device) (op code : Nat) (isc : Bool) (us : Nat) :
    (d.resResult op code isc us).loader = d.loader := by
  obtain ⟨e, h, _, g⟩ := Device.resResult_shape d op code isc us
  rw [g]
  exact h.loader_eq
@[simp] theorem Device.resResult_ports (d : Device) (op code : Nat) (isc : Bool) (us : Nat) :
    (d.resResult op code isc us).ports = d.ports := by
  obtain ⟨e, h, _, g⟩ := Device.resResult_shape d op code isc us
  rw [g]
  exact h.ports_eq
@[simp] theorem Device.resResult_bench (d : Device) (op code : Nat) (isc : Bool) (us : Nat) :
    (d.resResult op code isc us).bench = d.bench := by
  obtain ⟨e, h, _, g⟩ := Device.resResult_shape d op code isc us
  rw [g]
  exact h.bench_eq
@[simp] theorem Device.resResult_grain (d : Device) (op code : Nat) (isc : Bool) (us : Nat) :
    (d.resResult op code isc us).grain = d.grain := by
  obtain ⟨e, h, _, g⟩ := Device.resResult_shape d op code isc us
  rw [g]
  exact h.grain_eq
@[simp] theorem Device.resResult_resident (d : Device) (op code : Nat) (isc : Bool) (us : Nat) :
    (d.resResult op code isc us).resident = d.resident := by
  obtain ⟨e, h, _, g⟩ := Device.resResult_shape d op code isc us
  rw [g]
  exact h.resident_eq
@[simp] theorem Device.resResult_safety (d : Device) (op code : Nat) (isc : Bool) (us : Nat) :
    (d.resResult op code isc us).safety = d.safety := by
  obtain ⟨e, h, _, g⟩ := Device.resResult_shape d op code isc us
  rw [g]
  exact h.safety_eq
@[simp] theorem Device.resResult_power (d : Device) (op code : Nat) (isc : Bool) (us : Nat) :
    (d.resResult op code isc us).power = d.power := by
  obtain ⟨e, h, _, g⟩ := Device.resResult_shape d op code isc us
  rw [g]
  exact h.power_eq
@[simp] theorem Device.resResult_sec (d : Device) (op code : Nat) (isc : Bool) (us : Nat) :
    (d.resResult op code isc us).sec = d.sec := by
  obtain ⟨e, h, _, g⟩ := Device.resResult_shape d op code isc us
  rw [g]
  exact h.sec_eq
@[simp] theorem Device.resResult_smb (d : Device) (op code : Nat) (isc : Bool) (us : Nat) :
    (d.resResult op code isc us).smb = d.smb := by
  obtain ⟨e, h, _, g⟩ := Device.resResult_shape d op code isc us
  rw [g]
  exact h.smb_eq
@[simp] theorem Device.resResult_denials (d : Device) (op code : Nat) (isc : Bool) (us : Nat) :
    (d.resResult op code isc us).denials = d.denials := by
  obtain ⟨e, h, _, g⟩ := Device.resResult_shape d op code isc us
  rw [g]
  exact h.denials_eq

end Sys2Proof.Machine
end

