-- ==== Sys2Proof/Laws/Memory.lean ====
section
/-! SUPPORT. The canonical form of the sparse maps (memory and registers): what keeps it, and what a read gives after a write. -/

namespace Sys2Proof.Machine

variable {α : Type} [DecidableEq α] {d : Nat → α}

/-! ### The canonical form -/

/-- The canonical form, said of the whole list: keys strictly rising, and no value that is its key's default. -/
theorem Sparse.wf_iff (m : List (Nat × α)) :
    Sparse.wf d m = true ↔ m.Pairwise (fun x y => x.1 < y.1) ∧ ∀ c ∈ m, c.2 ≠ d c.1 := by
  induction m with
  | nil => simp [Sparse.wf]
  | cons c t ih =>
    obtain ⟨a, v⟩ := c
    cases t with
    | nil => simp [Sparse.wf]
    | cons e t =>
      obtain ⟨b, w⟩ := e
      simp only [Sparse.wf, Bool.and_eq_true, decide_eq_true_eq, ih, List.pairwise_cons, List.mem_cons, forall_eq_or_imp]
      constructor
      · rintro ⟨⟨hv, hab⟩, ⟨hb, ht⟩, hw, hd⟩
        exact ⟨⟨⟨hab, fun x hx => lt_trans hab (hb x hx)⟩, hb, ht⟩, hv, hw, hd⟩
      · rintro ⟨⟨⟨hab, -⟩, hb, ht⟩, hv, hw, hd⟩
        exact ⟨⟨hv, hab⟩, ⟨hb, ht⟩, hw, hd⟩

/-- A part of a map that a filter leaves is in canonical form. -/
theorem Sparse.wf_filter {m : List (Nat × α)} (p : Nat × α → Bool) (h : Sparse.wf d m = true) :
    Sparse.wf d (m.filter p) = true := by
  rw [Sparse.wf_iff] at h ⊢
  exact ⟨h.1.filter p, fun c hc => h.2 c (List.mem_filter.1 hc).1⟩

/-- Clearing a range keeps the canonical form. -/
theorem Sparse.wf_clear {m : List (Nat × α)} (lo len : Nat) (h : Sparse.wf d m = true) :
    Sparse.wf d (Sparse.clear m lo len) = true :=
  Sparse.wf_filter _ h

omit [DecidableEq α] in
theorem Sparse.mem_erase {m : List (Nat × α)} {k : Nat} {c : Nat × α} (h : c ∈ Sparse.erase m k) : c ∈ m := by
  induction m with
  | nil => exact h
  | cons e t ih =>
    obtain ⟨a, v⟩ := e
    rw [Sparse.erase] at h
    split at h
    · exact List.mem_cons_of_mem _ (ih h)
    · rcases List.mem_cons.1 h with rfl | h
      · exact List.mem_cons_self
      · exact List.mem_cons_of_mem _ (ih h)

omit [DecidableEq α] in
theorem Sparse.mem_put {m : List (Nat × α)} {k : Nat} {v : α} {c : Nat × α} (h : c ∈ Sparse.put m k v) :
    c = (k, v) ∨ c ∈ m := by
  induction m with
  | nil => simpa [Sparse.put] using h
  | cons e t ih =>
    obtain ⟨a, w⟩ := e
    rw [Sparse.put] at h
    split at h
    · rcases List.mem_cons.1 h with rfl | h
      · exact .inl rfl
      · exact .inr (List.mem_cons_of_mem _ h)
    · split at h
      · rcases List.mem_cons.1 h with rfl | h
        · exact .inl rfl
        · exact .inr h
      · rcases List.mem_cons.1 h with rfl | h
        · exact .inr List.mem_cons_self
        · exact (ih h).imp id (List.mem_cons_of_mem _)

/-- Dropping a key keeps the canonical form. -/
theorem Sparse.wf_erase {m : List (Nat × α)} (k : Nat) (h : Sparse.wf d m = true) :
    Sparse.wf d (Sparse.erase m k) = true := by
  rw [Sparse.wf_iff] at h ⊢
  refine ⟨?_, fun c hc => h.2 c (Sparse.mem_erase hc)⟩
  replace h := h.1
  induction m with
  | nil => exact h
  | cons e t ih =>
    obtain ⟨a, v⟩ := e
    rw [Sparse.erase]
    split
    · exact ih (List.pairwise_cons.1 h).2
    · have h := List.pairwise_cons.1 h
      exact List.pairwise_cons.2 ⟨fun c hc => h.1 c (Sparse.mem_erase hc), ih h.2⟩

/-- Listing a value that is not its key's default keeps the canonical form. -/
theorem Sparse.wf_put {m : List (Nat × α)} (k : Nat) (v : α) (hv : v ≠ d k) (h : Sparse.wf d m = true) :
    Sparse.wf d (Sparse.put m k v) = true := by
  rw [Sparse.wf_iff] at h ⊢
  refine ⟨?_, fun c hc => (Sparse.mem_put hc).elim (fun e => e ▸ hv) (h.2 c)⟩
  replace h := h.1
  induction m with
  | nil => simp [Sparse.put]
  | cons e t ih =>
    obtain ⟨a, w⟩ := e
    have ht := List.pairwise_cons.1 h
    rw [Sparse.put]
    split
    · next e => exact List.pairwise_cons.2 ⟨fun c hc => e ▸ ht.1 c hc, ht.2⟩
    · split
      · next hk =>
        refine List.pairwise_cons.2 ⟨fun c hc => ?_, h⟩
        rcases List.mem_cons.1 hc with rfl | hc
        · exact hk
        · exact lt_trans hk (ht.1 c hc)
      · next h1 h2 =>
        refine List.pairwise_cons.2 ⟨fun c hc => ?_, ih ht.2⟩
        rcases Sparse.mem_put hc with rfl | hc
        · exact lt_of_le_of_ne (not_lt.1 h2) h1
        · exact ht.1 c hc

/-- A write keeps the canonical form. -/
theorem Sparse.wf_set {m : List (Nat × α)} (k : Nat) (v : α) (h : Sparse.wf d m = true) :
    Sparse.wf d (Sparse.set d m k v) = true := by
  unfold Sparse.set
  split
  · exact Sparse.wf_erase k h
  · next hv => exact Sparse.wf_put k v hv h

/-! ### Reads -/

omit [DecidableEq α] in
theorem Sparse.get_put (m : List (Nat × α)) (k j : Nat) (v : α) :
    Sparse.get d (Sparse.put m k v) j = if k = j then v else Sparse.get d m j := by
  induction m with
  | nil => simp [Sparse.put, Sparse.get]
  | cons e t ih =>
    obtain ⟨a, w⟩ := e
    by_cases h : a = k
    · subst h
      by_cases hj : a = j <;> simp [Sparse.put, Sparse.get, hj]
    · by_cases hk : k < a
      · rw [Sparse.put, if_neg h, if_pos hk, Sparse.get]
      · by_cases hj : a = j
        · subst hj
          simp [Sparse.put, Sparse.get, h, hk, Ne.symm h]
        · simp [Sparse.put, Sparse.get, h, hk, hj, ih]

omit [DecidableEq α] in
/-- A key that is not listed reads its default. -/
theorem Sparse.get_absent (m : List (Nat × α)) (k : Nat) (h : ∀ c ∈ m, c.1 ≠ k) : Sparse.get d m k = d k := by
  induction m with
  | nil => rfl
  | cons e t ih =>
    obtain ⟨a, v⟩ := e
    rw [Sparse.get, if_neg (h (a, v) List.mem_cons_self), ih fun c hc => h c (List.mem_cons_of_mem _ hc)]

omit [DecidableEq α] in
theorem Sparse.get_erase (m : List (Nat × α)) (k j : Nat) :
    Sparse.get d (Sparse.erase m k) j = if k = j then d j else Sparse.get d m j := by
  induction m with
  | nil => simp [Sparse.erase, Sparse.get]
  | cons e t ih =>
    obtain ⟨a, v⟩ := e
    by_cases hk : a = k
    · subst hk
      by_cases hj : a = j
      · subst hj
        simpa [Sparse.erase] using ih
      · simp [Sparse.erase, Sparse.get, hj, ih]
    · by_cases hj : a = j
      · subst hj
        simp [Sparse.erase, Sparse.get, hk, Ne.symm hk]
      · simp [Sparse.erase, Sparse.get, hk, hj, ih]

/-- What a read gives after a write. -/
theorem Sparse.get_set (m : List (Nat × α)) (k j : Nat) (v : α) :
    Sparse.get d (Sparse.set d m k v) j = if k = j then v else Sparse.get d m j := by
  unfold Sparse.set
  split
  · next hv => rw [Sparse.get_erase m k j]; split <;> simp_all
  · exact Sparse.get_put m k j v

omit [DecidableEq α] in
theorem Sparse.get_filter {m : List (Nat × α)} (p : Nat → Bool) (j : Nat) :
    Sparse.get d (m.filter fun c => p c.1) j = if p j then Sparse.get d m j else d j := by
  induction m with
  | nil => simp [Sparse.get]
  | cons e t ih =>
    obtain ⟨a, v⟩ := e
    by_cases hp : p a = true
    · by_cases hj : a = j
      · subst hj
        simp [Sparse.get, hp]
      · simp [Sparse.get, hp, hj, ih]
    · by_cases hj : a = j
      · subst hj
        simp [hp, ih]
      · simp [Sparse.get, hp, hj, ih]

/-! ### Memory -/

theorem Memory.wf_setByte {e : Device} (a : Nat) (v : Byte) (h : Memory.wf e.mem = true) :
    Memory.wf (e.setByte a v).mem = true := Sparse.wf_set a v h

theorem Memory.wf_setBytes {e : Device} (a : Nat) (bs : List Byte) (h : Memory.wf e.mem = true) :
    Memory.wf (e.setBytes a bs).mem = true := by
  induction bs generalizing e a with
  | nil => exact h
  | cons b t ih => exact ih (a + 1) (Memory.wf_setByte a b h)

theorem Memory.wf_setLe {e : Device} (a n v : Nat) (h : Memory.wf e.mem = true) :
    Memory.wf (e.setLe a n v).mem = true := Memory.wf_setBytes a (leBytes n v) h

theorem Memory.wf_clearMem {e : Device} (a len : Nat) (h : Memory.wf e.mem = true) :
    Memory.wf (e.clearMem a len).mem = true := Sparse.wf_clear a len h

theorem Memory.wf_reset : Memory.wf State.reset.dev.mem = true := rfl

/-- A byte after a byte is written. -/
theorem Device.byte_setByte (e : Device) (a b : Nat) (v : Byte) :
    (e.setByte a v).byte b = if a = b then v else e.byte b := Sparse.get_set e.mem a b v

/-- A byte outside the bytes written is as before. -/
theorem Device.byte_setBytes_of_outside (e : Device) (a b : Nat) (bs : List Byte) (hb : b < a ∨ a + bs.length ≤ b) :
    (e.setBytes a bs).byte b = e.byte b := by
  induction bs generalizing e a with
  | nil => rfl
  | cons c t ih =>
    have hne : a ≠ b := by rintro rfl; simp at hb
    rw [Device.setBytes, ih _ (a + 1) (by simp at hb; omega), Device.byte_setByte, if_neg hne]

/-- Byte `i` of the bytes written. -/
theorem Device.byte_setBytes_of_inside (e : Device) (a i : Nat) (bs : List Byte) (hi : i < bs.length) :
    (e.setBytes a bs).byte (a + i) = bs[i] := by
  induction bs generalizing e a i with
  | nil => exact absurd hi (Nat.not_lt_zero _)
  | cons c t ih =>
    cases i with
    | zero => rw [Device.setBytes, Device.byte_setBytes_of_outside _ _ _ _ (.inl (by omega)), Device.byte_setByte]; simp
    | succ i =>
      have ha : a + (i + 1) = a + 1 + i := by omega
      rw [Device.setBytes, ha]
      exact ih _ (a + 1) i (Nat.lt_of_succ_lt_succ hi)

/-! ### Registers -/

/-- A register after a register is written. -/
theorem Device.rd_wr (e : Device) (a b v : Nat) : (e.wr a v).rd b = if a = b then v % 2 ^ 32 else e.rd b := by
  unfold Device.rd Device.wr
  rw [Sparse.get_set]
  split <;> simp

theorem Device.wf_wr {e : Device} (a v : Nat) (h : Sparse.wf regReset e.regs = true) :
    Sparse.wf regReset (e.wr a v).regs = true := Sparse.wf_set a _ h

end Sys2Proof.Machine
end

