-- ==== Sys2Proof/WellFormed.lean ====
section
/-! DEFINITION. Which commands are well formed: the ranges that the spec gives their operands and that their types do not. -/

namespace Sys2Proof

/-- A VF of a port (R38). -/
def vfOk (vf : Nat) : Bool := decide (1 ≤ vf) && decide (vf ≤ 16)

/-- A TCID of the "Masters and their tenant context IDs" table (R38). -/
def tcidOk (t : Nat) : Bool := decide (t ≤ 16) || (decide (0x20 ≤ t) && decide (t ≤ 0x30)) || decide (0x3D ≤ t)

/-- A link speed and width of a port: generations 1 to 5, widths 1, 2, 4 and 8. -/
def linkOk (speed width : Nat) : Bool :=
  decide (1 ≤ speed) && decide (speed ≤ 5) && (width == 1 || width == 2 || width == 4 || width == 8)

/-- A supply of SAFE_SUPPLY: 0 to 7, and 16 + n for VCCIO_n. -/
def supplyOk (n : Nat) : Bool := decide (n ≤ 7) || decide (16 ≤ n)

/-- A function and MSI-X vector: 64 vectors of PF0, 8 of a VF (R514). -/
def vecOk (fn vec : Nat) : Bool := if fn = 0 then decide (vec < 64) else decide (fn ≤ 16) && decide (vec < 8)

/-- A completion's outcome: 0 success, 1 Unsupported Request, 2 poisoned, 4 Completer Abort. -/
def statusOk (s : Nat) : Bool := s == 0 || s == 1 || s == 2 || s == 4

/-- A memory request: whole dwords that do not cross 4 KiB, one byte enable a byte, and the data of a write. -/
def reqOk (q : MemReq) : Bool :=
  decide (1 ≤ q.len) && decide (q.len ≤ 4096) && q.addr.toNat % 4 == 0 && q.len % 4 == 0 &&
    decide (q.addr.toNat % 4096 + q.len ≤ 4096) && q.en.length == q.len && q.data.length == (if q.write then q.len else 0)

/-- A matrix transaction of a master that no row of its own issues: 1 to 64 bytes of one 64-byte block (R560), LOCK of M3 alone (R574),
and for M8 the TCID of a VF (R38). -/
def txnOk (x : Txn) : Bool :=
  let m := x.master.val
  (m == 2 || m == 3 || m == 6 || m == 7 || m == 8) && decide (1 ≤ x.len) && decide (x.addr.toNat % 64 + x.len ≤ 64) &&
    x.en.length == x.len && x.data.length == (if x.write then x.len else 0) && (m == 3 || (!x.lock && !x.lockEnd)) &&
    (m != 8 || (tcidOk x.tcid.val && decide (x.tcid.val < 0x3D) && x.tcid.val % 0x20 != 0))

/-- A command is well formed. -/
def Instr.wellFormed (i : Instr) : Bool :=
  match i with
  | .registerWrite tcid _ _ | .injectSafeNRb tcid | .slcReqFaultClear _ tcid | .pwSet tcid _ _ _ | .injectChuck tcid _
    | .injectLockstep tcid | .pageWrite tcid _ | .safeRelease tcid | .slcReqSlotReset _ tcid | .domainPowerOn tcid _
    | .signId tcid | .verify tcid | .random tcid | .injectTick tcid | .unwrapTsk tcid | .unlockTimeout tcid _ _ _
    | .injectClock tcid _ | .injectBenchEcc tcid | .dssClear tcid | .slcReqRelease _ tcid | .injectTemp tcid
    | .injectSupplyIo tcid _ | .slcReqHold _ tcid | .unwrapImage tcid | .engineErase tcid | .relockAll tcid | .relock tcid _ _ _
    | .injectMatrix tcid | .domainPowerOff tcid _ | .grnUnlock tcid _ _ _ | .hash tcid | .recordKey tcid | .turnCountLoRead tcid
    => tcidOk tcid.val
  | .linkUp _ speed width | .linkSpeedChange _ speed width => linkOk speed.val width.val
  | .vfFlr _ vf | .vfFlrReady _ vf => vfOk vf
  | .supplyOutOfWindow supply | .supplyFallingAssertion supply | .supplyRisingRelease supply | .supplyInWindow supply _
    => supplyOk supply.val
  | .vectorAgeExpiry _ fn vec | .msixSend _ fn vec => vecOk fn vec
  | .inboundRequest _ req => reqOk req
  | .configRequest _ fn _ _ _ _ _ => decide (fn < 256)
  | .doeObject _ dw => decide (dw.length ≤ 1024)
  | .dmaDescriptorFetch _ status data => statusOk status && (status != 0 || data.length == 32)
  | .matrixGrant _ arrive _ => arrive.all txnOk
  | .smbWrite bytes _ | .readSetup bytes _ => decide (bytes.length ≤ 255)
  | .ringSlotReceive _ symbols => symbols.length == 87
  | .activeClockEdge t _ _ _ _ => t.den != 0
  | .presetOrClear _ x | .ddrRegisterEdge _ _ _ x => x.instant.den != 0
  | .completionReceived _ _ status data => statusOk status && decide (data.length ≤ 4096)
  | .lockForcedRelease _ | .getCertificate _ | .warmResetEnd | .slotClockFault _ _ | .programDone _ | .iscNoop | .brownOut _
    | .doeAbort _ | .mbInPush _ | .alertResponse | .loadDone _ | .autoload | .perstDeassert _ | .highz | .dmaTailWrite _ _
    | .trialRevert _ | .storeDone | .dmaCompletionTimeout _ | .spdmUnsupportedRequest _ | .userEvent _ | .erase _ | .ackReceive
    | .ringCfgSet _ | .reseed _ | .slotLoad _ | .hibernate _ | .grainRecWrite _ | .arbiterAgeing _ _ | .grainPlane _
    | .turnOvrClr _ | .tskDestroyAll _ _ | .tornScan | .functionReady _ | .slotPower _ | .nop _ | .vfEnableCleared _
    | .groupSplit _ | .iscAddressShift _ | .dozeExit | .groupJoin _ | .abort _ | .eraseDone _ | .fclr _ _ | .restoreWriteDone _
    | .ringCfgMeasure _ | .tickMarkerEmit _ | .overTemperature _ | .scribeFire | .temperatureRecovered _ | .mbOutPop _
    | .tskImport _ _ | .selftest | .outWe _ | .ringDirectionBroken _ | .linkDown _ | .outPush _ | .slotBind _ | .lastStatus
    | .synthRelockDone _ | .trstN | .doneAndHealthyLatch _ | .dcline _ _ | .dmaChunk _ | .hwdQPush _ | .benchZeroingDone
    | .iscErase | .resProgram _ | .fragmentReceive | .tamperResponseComplete | .smbRead | .iscDisable | .devResetCmd _ | .iscRead
    | .porstNAssert | .turnRun | .powerFailAutostore | .extest _ _ | .getM _ _ _ | .actDenyPop | .matrixAccess _
    | .firstActivationCopyEnd _ | .quote _ | .readback _ | .opKeySet _ _ | .wrLine _ _ _ _ _ | .endorseMin _ | .autostoreArm _
    | .recallDone | .slotReset _ | .ldrSwapReq _ | .getMeasurements _ | .slotUnbind _ | .sweepComplete _ _ | .bankSleep _
    | .getKa _ | .slotSwap _ | .resErase _ | .ringTrigger _ _ _ _ _ _ | .evtQPop _ | .ldrJqPush | .refclkReturn
    | .engineOperationDone _ | .storeArmedTimeout | .hotReset _ | .hibernatePsuOff | .markerMissed | .psuEnRise | .iscProgram
    | .aspmStateChange _ _ | .powerFailEnd | .turnPeriodWrite _ | .clamp | .refclkLoss | .lockstepMismatch | .commandTake
    | .getCapabilities _ | .grainRecRead _ | .tickMarkerReceive _ _ _ _ _ _ _ | .turnInEdge | .idleRetain _ | .slotRelease _
    | .tamper | .turnSrcWrite _ _ | .eventDelivery | .porRelease _ _ _ _ _ | .resume | .grainStore _ | .retransmitTimeout _
    | .commandReady | .getVersion _ | .storeCmd _ | .grainPatrol | .idcode | .loaderJobEnd | .program | .putM _ _ _ _
    | .iscDataShift _ | .perstAssert _ | .ringRxDone _ | .resVerify _ | .fwUpdate _ | .wake | .capture _ | .ringTxqPush
    | .turnTick | .lockSet _ _ | .fifoOperation _ _ | .slotHold _ | .decommission _ _ | .faultClear _ | .samplePreload _ _
    | .inPop _ | .scribeIoTrigger | .dmaDescriptorDone _ | .ringSend _ | .dozeEntry | .tskDestroy _ _ | .hwdQCpop _
    | .domainOffDone _ | .safeNRelease | .bmPortOperation _ _ | .getDigests _ | .vfEnableSet _ | .warmReset _ | .swapCancel _
    | .scrubWordDecode _ | .tickLoss | .turnSet _ | .smbusTimeout | .snapshotLatch | .getInfo _ | .dmaResume _ | .scribeAck
    | .bypass | .pendingLineService _ | .safeNReadback | .dataLinkError _ _ | .getS _ _ _ | .captureReadDone _ | .pageWriteDone
    | .pf0Flr _ | .configUpset _ _ _ _ | .benchPatrol | .getCert _ | .restore _ | .bufClear | .selftestDone _ | .loaderJobTake
    | .dcall _ | .ringRxqPop | .challenge _ | .boot | .suspend | .negotiateAlgorithms _ | .echoMeasure _ _ _ | .iscEnable => true

end Sys2Proof
end

