-- ==== Sys2Proof/Tests/Slice0.lean ====
section
/-! SUPPORT. Tests: every check of WellFormed refuses an ill-formed command; what the worked examples of the spec give; and for every
obligation with hypotheses a device and operands that meet them, clause by clause (a variable that no hypothesis names is left out). -/

namespace Sys2Proof.Tests

open Sys2Proof.Machine

set_option maxRecDepth 8000
set_option Elab.async false

/-! ### Devices -/

/-- A machine with nothing waiting whose device is `d`. -/
def S (d : Device) : State := ⟨[], #v[[], [], [], []], MtxUnit.reset, d⟩

/-- A device out of power-on reset. -/
def live : Device := { Device.reset with por := false }

/-- A device with the listed registers written. -/
def up (l : List (Nat × Nat)) (d : Device) : Device := l.foldl (fun d x => d.wr x.1 x.2) d

/-- A device with the listed fields written. -/
def setF (l : List (Fld × Nat)) (d : Device) : Device := l.foldl (fun d x => d.setFld x.1 x.2) d

/-- Every function is ready, and firmware runs. -/
def fw : Device := setF [(Fld.hwdStatusCmdReady, 1)] (up [(Reg.devReady, 0xFFFF)] { live with hwd := { live.hwd with boot := 2 } })

/-- A descriptor with an opcode and the listed fields: offset, bytes, value. -/
def desc (op : Nat) (l : List (Nat × Nat × Nat)) : List Byte :=
  leBytes 64 (l.foldl (fun v x => v + x.2.2 * 256 ^ x.1) op)

/-- The device has taken a command of queue `q` under serial number 20. -/
def taking (q : Fin 3) (op : Nat) (l : List (Nat × Nat × Nat)) (d : Device) : Device :=
  { d with hwd := { d.hwd with cmds := [⟨20, q, desc op l, 0, 0, 0, 0, false⟩] } }

/-- A slot changed. -/
def slotIs (n : Fin 16) (f : Slot → Slot) (d : Device) : Device := d.modSlot n f

/-- A slot that runs and is bound to VF `n + 1` of port A. -/
def runs (n : Fin 16) (d : Device) : Device :=
  d.modSlot n fun s => { s with st := .running, binding := some (0, n.val + 1) }

/-- Port `p` with its link in state `l`, released. -/
def link (p : Fin 2) (l : Link) (d : Device) : Device := d.modPort p fun q => { q with perst := false, link := l }

/-- Configuration bits within one word of a frame of a plane of a slot set: region, block, first bit, width, value. -/
def cfgWord (pl : Nat) (n r b lo w v : Nat) (d : Device) : Device :=
  let fb := frameBase n pl r b (lo / 512)
  let k := lo % 512 / 64
  d.setFrameWord fb k (withBits (d.frameWord fb k) (lo % 64) w v)

/-- Configuration bits of a plane of a slot set, at most 64 of them: region, block, first bit, width, value. -/
def cfgAt (pl : Nat) (n r b lo w v : Nat) (d : Device) : Device :=
  let here := 64 - lo % 64
  if w ≤ here then cfgWord pl n r b lo w v d
  else cfgWord pl n r b (lo + here) (w - here) (v / 2 ^ here) (cfgWord pl n r b lo here v d)

/-- The same in plane A. -/
def cfgPut : Nat → Nat → Nat → Nat → Nat → Nat → Device → Device := cfgAt 0

/-- Bytes placed in Bench memory at an offset, with their check bytes. -/
def bench (off : Nat) (b : List Byte) (d : Device) : Device := (d.benchWriteBy 3 off (b.map fun _ => true) b).2

/-- Command `cid` of opcode `op` at stage `st` beside those taken already. -/
def also (cid : Nat) (q : Fin 3) (op st : Nat) (l : List (Nat × Nat × Nat)) (d : Device) : Device :=
  { d with hwd := { d.hwd with cmds := d.hwd.cmds ++ [⟨cid, q, desc op l, 0, st, 0, 0, false⟩] } }

/-- Plane A of a slot holds a valid image of class 1, and the slot is LOADED and bound. -/
def loaded (n : Fin 16) (d : Device) : Device :=
  (cfgPut n 7 1 416 20 0x10001 d).modSlot n fun s => { s with st := .loaded, binding := some (0, n.val + 1) }

/-- Plane B of a slot holds a valid image of class 1. -/
def twinned (n : Fin 16) (d : Device) : Device := cfgAt 1 n 7 1 416 20 0x10001 d

/-! ### Ill-formed commands -/

/-- A write request of 64 bytes. -/
def someReq : MemReq := ⟨.mem, 0x1000, true, 64, List.replicate 64 true, List.replicate 64 5, 9, false, 77⟩

/-- A read of 8 bytes by M6. -/
def someTxn : Txn := ⟨6, 0, 0, 0x10000008, false, false, false, 8, List.replicate 8 true, [], false⟩

theorem test_vf_range : (Instr.vfFlr 0 0).wellFormed = false ∧ (Instr.vfFlr 0 17).wellFormed = false ∧ (Instr.vfFlr 0 16).wellFormed = true := by
  decide

theorem test_tcid_range : (Instr.registerWrite 0x11 0 0).wellFormed = false ∧ (Instr.registerWrite 0x3C 0 0).wellFormed = false ∧
    (Instr.registerWrite 0x30 0 0).wellFormed = true := by
  decide

theorem test_link_range : (Instr.linkUp 0 0 8).wellFormed = false ∧ (Instr.linkUp 0 5 3).wellFormed = false ∧
    (Instr.linkUp 0 5 8).wellFormed = true := by
  decide

theorem test_supply_range : (Instr.supplyOutOfWindow 8).wellFormed = false ∧ (Instr.supplyOutOfWindow 31).wellFormed = true := by
  decide

theorem test_vector_range : (Instr.msixSend 0 3 8).wellFormed = false ∧ (Instr.msixSend 0 17 0).wellFormed = false ∧
    (Instr.msixSend 0 0 63).wellFormed = true := by
  decide

theorem test_completion_status : (Instr.dmaDescriptorFetch 0 3 []).wellFormed = false ∧
    (Instr.dmaDescriptorFetch 0 0 []).wellFormed = false ∧ (Instr.dmaDescriptorFetch 0 1 []).wellFormed = true ∧
    (Instr.completionReceived 0 1 3 []).wellFormed = false := by
  decide

theorem test_request_shape : (Instr.inboundRequest 0 { someReq with addr := 0x1001 }).wellFormed = false ∧
    (Instr.inboundRequest 0 { someReq with addr := 0x1FF0 }).wellFormed = false ∧
    (Instr.inboundRequest 0 { someReq with len := 0 }).wellFormed = false ∧
    (Instr.inboundRequest 0 { someReq with write := false }).wellFormed = false ∧ (Instr.inboundRequest 0 someReq).wellFormed = true := by
  decide

theorem test_transaction_shape : (Instr.matrixGrant 1 [{ someTxn with master := 0 }] 0).wellFormed = false ∧
    (Instr.matrixGrant 1 [{ someTxn with addr := 0x1000003C }] 0).wellFormed = false ∧
    (Instr.matrixGrant 1 [{ someTxn with lock := true }] 0).wellFormed = false ∧
    (Instr.matrixGrant 1 [{ someTxn with master := 8, tcid := 0x3D }] 0).wellFormed = false ∧
    (Instr.matrixGrant 1 [someTxn] 0).wellFormed = true := by
  decide

theorem test_lengths : (Instr.ringSlotReceive 0 []).wellFormed = false ∧ (Instr.smbWrite (List.replicate 256 0) none).wellFormed = false ∧
    (Instr.doeObject 0 (List.replicate 1025 0)).wellFormed = false ∧ (Instr.activeClockEdge ⟨0, 0⟩ 0 0 0 0).wellFormed = false ∧
    (Instr.configRequest 0 256 0 false 0 0 0).wellFormed = false := by
  decide +kernel

/-! ### Worked examples of the spec -/

/-- Chapter "Scope and conventions", its worked example: a register of the TURN_ block. -/
theorem test_register_address : Reg.turnPeriod = 0x80020004 := by decide

/-- R35, its worked example: plane B of slot 5. -/
theorem test_plane_address : planeBase 5 1 = 0x62C00000 := by decide

/-- The frame of the worked example of "Configuration frames", which that of "Events" names. -/
theorem test_frame_address : frameAddr 5 1 0 19 133 = 0x02C04C85 := by decide

/-- The worked example of "Events": a syndrome of four fields. -/
theorem test_syndrome : packSyn [(0x02C04C85, 27), (2, 3), (0x36, 7), (1, 4)] = 0x2D92C04C85 := by decide +kernel

/-- The same: slot event 8 of slot 5 is event 128. -/
theorem test_slot_event : (live.raiseSlot 5 8 []).evtStatus 128 = true ∧ (live.raiseSlot 5 8 []).evtStatus 127 = false := by
  decide +kernel

/-- What a command gives, said by a test of the machine after it. -/
def gives (c : Instr) (s : State) (p : State → Bool) : Bool :=
  match exec c s with
  | .next t => p t
  | _ => false

/-- POR_RELEASE ends the hold, and until then nothing but it and the supplies acts (R87). -/
theorem test_por_release : gives (.porRelease 1 2 ⟨true, false⟩ 0 0) State.reset (fun t => !t.dev.por) = true ∧
    gives .turnRun State.reset (fun t => decide (t = State.reset)) = true := by
  decide +kernel

/-- TURN_RUN on a device whose TURN is ready sets RUN (R283). -/
theorem test_turn_run : gives .turnRun (S fw) (fun t => t.dev.flag Fld.turnCtlRun) = true := by decide +kernel

/-- A word with one data bit flipped is corrected, with two is not (R378). -/
theorem test_check_code : eccDecode (5 + 2 ^ 17) (checkByte 5) = .corrected 5 ∧ eccDecode (5 + 2 ^ 17 + 2 ^ 3) (checkByte 5) = .uncorrectable := by
  decide +kernel

/-- A host's word 0x12A of block memory 3 of slot 5 stores its ninth bits apart (R202 and the worked example of "Block memory"): the
aperture's address is that of the example. -/
theorem test_aperture_address : 0x40000000 + 5 * 0x1000000 + 0x100000 + 3 * 0x10000 + 8 * 0x12A = 0x45130950 := by decide

/-- No row of the table gives bits. -/
theorem test_no_words : decodeTableWord 32 0xFFFFFFFF = none ∧ State.reset.withFetchWord 32 5 = State.reset := by decide +kernel

/-! ### What the witnesses share -/

/-- A byte that reads 0 where nothing is written: one of neither the resident store, the OTP nor the key store. -/
theorem blank_byte (e : Device) (he : e.mem = []) (a : Nat) (h1 : 0x2000000 ≤ a) (h2 : a < 2 ^ 40 + 0x50000000) : e.byte a = 0 := by
  unfold Device.byte
  rw [he]
  simp only [Sparse.get, memDefault]
  rw [if_neg (by omega), if_neg (by omega), if_neg (by omega)]

theorem leOf_zeros (n : Nat) : leOf (List.replicate n (0 : Byte)) = 0 := by
  induction n with
  | zero => rfl
  | succ n ih => rw [List.replicate_succ, leOf, ih]; rfl

/-- A number of eight such bytes. -/
theorem blank_le (e : Device) (he : e.mem = []) (a : Nat) (h1 : 0x2000000 ≤ a) (h2 : a + 8 ≤ 2 ^ 40 + 0x50000000) : e.le a 8 = 0 := by
  have : e.bytes a 8 = List.replicate 8 0 :=
    List.eq_replicate_iff.2 ⟨by simp [Device.bytes], fun b h => by
      obtain ⟨i, hi, rfl⟩ := List.mem_map.1 h
      have := List.mem_range.1 hi
      exact blank_byte e he (a + i) (by omega) (by omega)⟩
  exact (congrArg leOf this).trans (leOf_zeros 8)

/-! ### PowerOnReset -/

namespace OfPowerOnReset

/-- Every hypothesis of `Obligations.PowerOnReset` is met. -/
theorem witness_PowerOnReset :
    (∃ (s : State) (a : Nat), s.dev.grain.page = none ∧ s.dev.resident.job = none ∧ keepsPower a = true) ∧
    (∃ (d : Device) (p : Bool), d.por = true ∧ d.power.psuLow = false ∧ (d.power.porst || p) = true ∧ d.power.low.toNat % 4 = 0) ∧
    (∃ (d : Device), d.por = true ∧ d.power.psuLow = false ∧ d.power.low.toNat % 4 = 0 ∧ d.slots = Vector.replicate 16 Slot.reset ∧
      d.scribe = Device.reset.scribe ∧ d.ports = Vector.replicate 2 Port.reset ∧ d.regs = []) ∧
    (∃ (d : Device), d.por = true ∧ d.power.psuLow = false ∧ d.power.low.toNat % 4 = 0) ∧
    (∃ (d : Device) (p : Bool), (d.power.psuLow = true ∨ d.por = false ∨ d.power.low.toNat % 4 ≠ 0 ∨ (d.power.porst || p) = false)) ∧
    (∃ (d : Device) (b : Ball), d.por = true ∧ b ≠ Ball.psuEn) :=
  ⟨⟨(S live), 0, by decide +kernel⟩,
   ⟨Device.reset, false, by decide +kernel⟩,
   ⟨Device.reset, by decide +kernel⟩,
   ⟨Device.reset, by decide +kernel⟩,
   ⟨live, false, by decide +kernel⟩,
   ⟨Device.reset, .turnOut, by decide +kernel⟩⟩

end OfPowerOnReset

/-! ### WarmResetAndReadiness -/

namespace OfWarmResetAndReadiness

/-- Every hypothesis of `Obligations.WarmResetAndReadiness` is met. -/
theorem witness_WarmResetAndReadiness :
    (∃ (s : State) (pin : Bool), s.dev.por = false ∧ (s.dev.power.causes ||| if pin = true then 1 else 0) ≠ 0) ∧
    (∃ (s : State), s.dev.power.causes = 0) ∧
    (∃ (d : Device), d.por = false ∧ d.warm = true) ∧
    (∃ (d : Device), d.por = false ∧ d.warm = false) ∧
    (∃ (d : Device) (data : Word), d.por = false ∧ BitVec.toNat data / 2 ^ 16 = 22354 ∧ BitVec.toNat data % 2 = 1) ∧
    (∃ (d : Device) (data : Word), d.por = false ∧ (BitVec.toNat data / 2 ^ 16 ≠ 22354 ∨ BitVec.toNat data % 2 = 0)) ∧
    (∃ (d : Device), d.por = false ∧ d.flag Fld.devReadyAon = true) ∧
    (∃ (d : Device), d.por = false ∧ d.flag Fld.devReadyAon = false ∧ d.flag Fld.secStatusOtpOk = true) ∧
    (∃ (d : Device), d.por = false ∧ d.flag Fld.devReadyAon = false ∧ d.flag Fld.secStatusOtpOk = false) ∧
    (∃ (d : Device), d.por = false ∧ d.fldBit Fld.pwrDomStatusOn 19 = true) ∧
    (∃ (d : Device), d.por = false) :=
  ⟨⟨(S live), true, by decide +kernel⟩,
   ⟨(S live), by decide +kernel⟩,
   ⟨({ live with warm := true }), by decide +kernel⟩,
   ⟨live, by decide +kernel⟩,
   ⟨live, 0x57520001, by decide +kernel⟩,
   ⟨live, 0, by decide +kernel⟩,
   ⟨fw, by decide +kernel⟩,
   ⟨(setF [(Fld.secStatusOtpOk, 1)] live), by decide +kernel⟩,
   ⟨live, by decide +kernel⟩,
   ⟨live, by decide +kernel⟩,
   ⟨live, by decide +kernel⟩⟩

end OfWarmResetAndReadiness

/-! ### PortResets -/

namespace OfPortResets

/-- Every hypothesis of `Obligations.PortResets` is met. -/
theorem witness_PortResets :
    (∃ (s : State) (p : Fin 2), s.dev.por = false ∧ s.dev.portHeld p = false) ∧
    (∃ (s : State) (p : Fin 2), s.dev.por = false ∧ s.dev.portHeld p = true) ∧
    (∃ (d : Device), d.por = false) ∧
    (∃ (s : State) (p : Fin 2), s.dev.por = false ∧ s.dev.linkUp p = true) ∧
    (∃ (s : State) (p : Fin 2), s.dev.linkUp p = false) :=
  ⟨⟨(S (link 0 .down live)), 0, by decide +kernel⟩,
   ⟨(S (link 0 .down live)), 1, by decide +kernel⟩,
   ⟨(link 0 .down live), by decide +kernel⟩,
   ⟨(S (link 0 .l0 live)), 0, by decide +kernel⟩,
   ⟨(S (link 0 .down live)), 0, by decide +kernel⟩⟩

end OfPortResets

/-! ### PortLinks -/

namespace OfPortLinks

/-- Every hypothesis of `Obligations.PortLinks` is met. -/
theorem witness_PortLinks :
    (∃ (d : Device) (p : Fin 2), d.por = false ∧ d.ports[p].link = Link.training ∧ d.portHeld p = false) ∧
    (∃ (d : Device) (p : Fin 2), d.por = false ∧ d.ports[p].link ≠ Link.training) ∧
    (∃ (sp : Nat), 3 ≤ sp) ∧
    (∃ (sp : Nat), 4 ≤ sp) ∧
    (∃ (sp : Nat), 5 ≤ sp) ∧
    (∃ (d : Device) (p : Fin 2), d.por = false ∧ d.linkUp p = true) ∧
    (∃ (d : Device) (p : Fin 2) (k : Fin 5), d.por = false ∧ d.linkUp p = true ∧ (k.val < 3 ∨
      d.flag (Fld.ptLinkCfgL1ssDis p.val) = false)) ∧
    (∃ (d : Device) (p : Fin 2) (k : Fin 5), d.por = false ∧ 3 ≤ k.val ∧ d.flag (Fld.ptLinkCfgL1ssDis p.val) = true) ∧
    (∃ (d : Device) (p : Fin 2) (kind : Fin 5), d.por = false ∧ d.portHeld p = false ∧
      bitOf ((((d.setCfgDw p 0 272 (withBit (d.cfgDw p 0 272) ([0, 6, 7, 12,
      8].getD kind.val 0) true)).setCfgDw p 0 88 (withBit ((d.setCfgDw p 0 272 (withBit (d.cfgDw p 0 272) ([0, 6, 7, 12,
      8].getD kind.val 0) true)).cfgDw p 0 88) 16 true)).portEvent p 6 [(0, 5)]).cfgDw p 0 276) ([0, 6, 7, 12,
      8].getD kind.val 0) = false ∧ bitOf ((((d.setCfgDw p 0 272 (withBit (d.cfgDw p 0 272) ([0, 6, 7, 12,
      8].getD kind.val 0) true)).setCfgDw p 0 88 (withBit ((d.setCfgDw p 0 272 (withBit (d.cfgDw p 0 272) ([0, 6, 7, 12,
      8].getD kind.val 0) true)).cfgDw p 0 88) 16 true)).portEvent p 6 [(0, 5)]).cfgDw p 0 88) 0 = true) ∧
    (∃ (d : Device) (p : Fin 2) (kind : Fin 5), d.por = false ∧ d.portHeld p = false ∧
      (bitOf ((((d.setCfgDw p 0 272 (withBit (d.cfgDw p 0 272) ([0, 6, 7, 12,
      8].getD kind.val 0) true)).setCfgDw p 0 88 (withBit ((d.setCfgDw p 0 272 (withBit (d.cfgDw p 0 272) ([0, 6, 7, 12,
      8].getD kind.val 0) true)).cfgDw p 0 88) 16 true)).portEvent p 6 [(0, 5)]).cfgDw p 0 276) ([0, 6, 7, 12,
      8].getD kind.val 0) = true ∨ bitOf ((((d.setCfgDw p 0 272 (withBit (d.cfgDw p 0 272) ([0, 6, 7, 12,
      8].getD kind.val 0) true)).setCfgDw p 0 88 (withBit ((d.setCfgDw p 0 272 (withBit (d.cfgDw p 0 272) ([0, 6, 7, 12,
      8].getD kind.val 0) true)).cfgDw p 0 88) 16 true)).portEvent p 6 [(0, 5)]).cfgDw p 0 88) 0 = false)) :=
  ⟨⟨(link 0 .training live), 0, by decide +kernel⟩,
   ⟨(link 0 .training live), 1, by decide +kernel⟩,
   ⟨3, by decide +kernel⟩,
   ⟨7, by decide +kernel⟩,
   ⟨7, by decide +kernel⟩,
   ⟨(link 0 .l0 live), 0, by decide +kernel⟩,
   ⟨(link 0 .l0 live), 0, 0, by decide +kernel⟩,
   ⟨(setF [(Fld.ptLinkCfgL1ssDis 0, 1)] (link 0 .l0 live)), 0, 3, by decide +kernel⟩,
   ⟨((link 0 .l0 live).setCfgDw 0 0 0x058 1), 0, 0, by decide +kernel⟩,
   ⟨(link 0 .training live), 0, 0, by decide +kernel⟩⟩

end OfPortLinks

/-! ### VirtualFunctions -/

namespace OfVirtualFunctions

def vfs : Device := setF [(Fld.ptStatusVfEn 0, 1), (Fld.ptStatusNumVfs 0, 4)] (link 0 .l0 live)

/-- Every hypothesis of `Obligations.VirtualFunctions` is met. -/
theorem witness_VirtualFunctions :
    (∃ (s : State) (p : Fin 2) (v : Nat), s.dev.por = false ∧ s.dev.portHeld p = false ∧ s.dev.vfEnabled p.val v = true) ∧
    (∃ (s : State) (p : Fin 2) (v : Nat), s.dev.vfEnabled p.val v = false) ∧
    (∃ (d : Device), d.por = false) ∧
    (∃ (d : Device) (p : Fin 2), d.por = false ∧ d.portHeld p = false ∧ d.flag (Fld.ptStatusVfEn p.val) = false) ∧
    (∃ (d : Device) (p : Fin 2), d.por = false ∧ d.flag (Fld.ptStatusVfEn p.val) = true) ∧
    (∃ (s : State) (p : Fin 2), s.dev.por = false ∧ s.dev.flag (Fld.ptStatusVfEn p.val) = true) ∧
    (∃ (s : State) (p : Fin 2), s.dev.flag (Fld.ptStatusVfEn p.val) = false) :=
  ⟨⟨(S vfs), 0, 1, by decide +kernel⟩,
   ⟨(S vfs), 0, 0, by decide +kernel⟩,
   ⟨vfs, by decide +kernel⟩,
   ⟨(link 0 .l0 live), 0, by decide +kernel⟩,
   ⟨vfs, 0, by decide +kernel⟩,
   ⟨(S vfs), 0, by decide +kernel⟩,
   ⟨(S vfs), 1, by decide +kernel⟩⟩

end OfVirtualFunctions

/-! ### Supplies -/

namespace OfSupplies

/-- Every hypothesis of `Obligations.Supplies` is met. -/
theorem witness_Supplies :
    (∃ (d : Device) (k : Fin 32), d.por = false ∧ k.val ≤ 1) ∧
    (∃ (d : Device) (k : Fin 32), d.por = false ∧ 2 ≤ k.val ∧ k.val ≤ 5) ∧
    (∃ (d : Device), d.por = false) ∧
    (∃ (d : Device) (n : Fin 16) (k : Fin 32), d.por = false ∧ k.val = 16 + n.val) ∧
    (∃ (d : Device) (k : Fin 32), d.por = false ∧ k.val < 7) ∧
    (∃ (d : Device) (k : Fin 32), d.por = true ∧ (1 ≤ k.val ∧ k.val < 7 ∨ 16 ≤ k.val)) ∧
    (∃ (d : Device) (n : Fin 16), (d.por = true ∨ d.power.low.getLsbD (16 + n.val) = true)) ∧
    (∃ (s : State) (k : Fin 32), s.dev.por = false ∧ 2 ≤ k.val ∧ k.val ≤ 5 ∧ s.dev.portHeld (supplyPort k.val) = false) ∧
    (∃ (d : Device), ∃ b ∈ d.newestBank, d.por = false ∧ d.grain.pfail = false ∧ d.grain.store = none ∧
      d.flag Fld.grnStatusArmed = true ∧ d.flag Fld.grnCtlAutostoreEn = true) ∧
    (∃ (d : Device), d.por = false ∧ (d.grain.pfail = true ∨ d.grain.store ≠ none ∨ d.flag Fld.grnStatusArmed = false)) ∧
    (∃ (d : Device), d.por = false ∧ d.power.hib = none ∧ d.power.grainOff = 0) :=
  ⟨⟨live, 0, by decide +kernel⟩,
   ⟨live, 2, by decide +kernel⟩,
   ⟨live, by decide +kernel⟩,
   ⟨live, 0, 16, by decide +kernel⟩,
   ⟨live, 0, by decide +kernel⟩,
   ⟨Device.reset, 1, by decide +kernel⟩,
   ⟨Device.reset, 0, by decide +kernel⟩,
   ⟨(S (link 0 .l0 (link 1 .training live))), 2, by decide +kernel⟩,
   ⟨(setF [(Fld.grnStatusArmed, 1), (Fld.grnCtlAutostoreEn, 1)] (live.writeHeader 0 7 2 1 0 0)), by decide +kernel⟩,
   ⟨live, by decide +kernel⟩,
   ⟨live, by decide +kernel⟩⟩

end OfSupplies

/-! ### ClockTemperatureTamperWake -/

namespace OfClockTemperatureTamperWake

/-- Every hypothesis of `Obligations.ClockTemperatureTamperWake` is met. -/
theorem witness_ClockTemperatureTamperWake :
    (∃ (d : Device), d.por = false) ∧
    (∃ (d : Device) (r : BitVec 16), d.por = false ∧ 420 ≤ r.toInt) ∧
    (∃ (d : Device) (r : BitVec 16), d.por = false ∧ r.toInt < 420) ∧
    (∃ (d : Device) (r : BitVec 16), d.por = false ∧ r.toInt < 400) ∧
    (∃ (d : Device) (r : BitVec 16), d.por = false ∧ 400 ≤ r.toInt) ∧
    (∃ (d : Device), d.por = false ∧ d.power.vbat = true) ∧
    (∃ (d : Device), d.por = true ∧ d.power.vbat = true) ∧
    (∃ (d : Device), d.power.vbat = false) ∧
    (∃ (d : Device), d.por = false ∧ d.flag Fld.secStatusTampered = true ∧ d.flag Fld.secStatusErasing = true) ∧
    (∃ (d : Device), d.por = false ∧ (d.flag Fld.secStatusTampered = false ∨ d.flag Fld.secStatusErasing = false)) ∧
    (∃ (d : Device), d.power.vbat = true ∧ (d.power.hib ≠ none ∨ d.power.psuLow = true)) ∧
    (∃ (d : Device), (d.power.vbat = false ∨ d.power.hib = none ∧ d.power.psuLow = false)) :=
  ⟨⟨live, by decide +kernel⟩,
   ⟨live, 420, by decide +kernel⟩,
   ⟨live, 0, by decide +kernel⟩,
   ⟨live, 0, by decide +kernel⟩,
   ⟨live, 420, by decide +kernel⟩,
   ⟨live, by decide +kernel⟩,
   ⟨Device.reset, by decide +kernel⟩,
   ⟨({ live with power := { live.power with vbat := false } }), by decide +kernel⟩,
   ⟨(setF [(Fld.secStatusTampered, 1), (Fld.secStatusErasing, 1)] live), by decide +kernel⟩,
   ⟨live, by decide +kernel⟩,
   ⟨({ live with power := { live.power with hib := some ⟨20, 1⟩ } }), by decide +kernel⟩,
   ⟨live, by decide +kernel⟩⟩

end OfClockTemperatureTamperWake

/-! ### TurnGenerator -/

namespace OfTurnGenerator

/-- Every hypothesis of `Obligations.TurnGenerator` is met. -/
theorem witness_TurnGenerator :
    (∃ (d : Device), d.por = false ∧ d.flag Fld.turnCtlRun = false) ∧
    (∃ (d : Device), d.por = false ∧ d.refclk = true ∧ d.turn.starting = true ∧ d.safety.inj = none) ∧
    (∃ (d : Device), d.por = false ∧ d.flag Fld.turnCtlRun = true) ∧
    (∃ (d : Device) (v : Word), d.por = false ∧ BitVec.toNat v < 100) ∧
    (∃ (d : Device) (v : Word), d.por = false ∧ 100 ≤ BitVec.toNat v) ∧
    (∃ (d : Device), d.por = false) ∧
    (∃ (d : Device), d.por = false ∧ d.flag Fld.turnCtlRun = true ∧ d.turn.starting = false ∧ d.flag Fld.turnStatusLost = false) ∧
    (∃ (d : Device), d.por = false ∧ (d.flag Fld.turnCtlRun = false ∨ d.turn.starting = true ∨ d.flag Fld.turnStatusLost = true)) :=
  ⟨⟨live, by decide +kernel⟩,
   ⟨({ setF [(Fld.turnCtlRun, 1)] live with turn := { live.turn with starting := true } }), by decide +kernel⟩,
   ⟨(setF [(Fld.turnCtlRun, 1)] live), by decide +kernel⟩,
   ⟨live, 0, by decide +kernel⟩,
   ⟨live, 100, by decide +kernel⟩,
   ⟨live, by decide +kernel⟩,
   ⟨(setF [(Fld.turnCtlRun, 1)] live), by decide +kernel⟩,
   ⟨live, by decide +kernel⟩⟩

end OfTurnGenerator

/-! ### Ticks -/

namespace OfTicks

def turning : Device := setF [(Fld.turnCtlRun, 1)] live
def starting : Device := { turning with turn := { turning.turn with starting := true } }

/-- Every hypothesis of `Obligations.Ticks` is met. -/
theorem witness_Ticks :
    (∃ (d : Device), d.por = false ∧ d.flag Fld.turnCtlRun = true ∧ d.refclk = true ∧ d.turn.starting = false ∧
      d.fld Fld.turnStatusSrcCur = 2 ∧ (d.turn.ringTurn ≠ none ∨ d.flag Fld.ringStatusMaster = true)) ∧
    (∃ (d : Device), d.por = false ∧ d.flag Fld.turnCtlRun = true ∧ d.refclk = true ∧ d.turn.starting = false ∧
      d.turn.inEdge = none ∧ d.fld Fld.turnStatusSrcCur = 2 ∧ d.flag Fld.ringStatusMaster = false ∧ d.turn.ringTurn ≠ none) ∧
    (∃ (d : Device), d.por = false ∧ d.flag Fld.turnCtlRun = true ∧ d.refclk = true ∧ d.turn.starting = false ∧
      d.turn.inEdge = none ∧ d.fld Fld.turnStatusSrcCur ≠ 1 ∧ (d.fld Fld.turnStatusSrcCur ≠ 2 ∨ d.flag Fld.ringStatusMaster = true)) ∧
    (∃ (d : Device) (e : Device), d.por = false ∧ d.flag Fld.turnCtlRun = true ∧ d.refclk = true ∧ d.turn.starting = true ∧
      d.safety.inj = none ∧ Acts Instr.turnTick (d.pass 1) e) ∧
    (∃ (d : Device), d.por = false ∧ (d.flag Fld.turnCtlRun = false ∨ d.refclk = false)) ∧
    (∃ (d : Device), d.por = false ∧ d.turn.starting = false ∧ d.fld Fld.turnStatusSrcCur = 2 ∧ d.turn.ringTurn = none ∧
      d.flag Fld.ringStatusMaster = false) ∧
    (∃ (d : Device), d.por = false ∧ d.turn.starting = false ∧ d.fld Fld.turnStatusSrcCur = 1 ∧ d.turn.inEdge = none) ∧
    (∃ (d : Device), d.por = false ∧ d.flag Fld.turnCtlRun = true ∧ d.refclk = true ∧ d.turn.starting = false ∧
      d.fld Fld.turnStatusSrcCur = 1 ∧ d.turn.inEdge = none ∧ (d.turn.ticked = false ∨ 98 ≤ d.rd Reg.turnElapsed)) ∧
    (∃ (d : Device), ∃ j ∈ d.turn.inEdge, d.por = false ∧ d.flag Fld.turnCtlRun = true ∧ d.refclk = true ∧ d.turn.starting = false ∧
      0 < j) ∧
    (∃ (d : Device), ∃ j ∈ d.turn.inEdge, d.por = false ∧ d.flag Fld.turnCtlRun = true ∧ d.refclk = true ∧ d.turn.starting = false ∧
      0 < j ∧ d.fld Fld.turnStatusSrcCur = 1) ∧
    (∃ (d : Device), d.por = false ∧ d.flag Fld.turnCtlRun = true ∧ d.refclk = true ∧ d.turn.starting = false ∧
      d.fld Fld.turnStatusSrcCur = 1 ∧ d.turn.inEdge = none ∧ d.turn.ticked = true ∧ d.rd Reg.turnElapsed < 98) ∧
    (∃ (d : Device), d.por = false ∧ (d.flag Fld.turnCtlRun = false ∨ d.refclk = false ∨ d.turn.starting = true ∨
      d.fld Fld.turnStatusSrcCur ≠ 1)) :=
  ⟨⟨((let d := setF [(Fld.turnStatusSrcCur, 2)] turning; { d with turn := { d.turn with ringTurn := some 5, ringEdge := 3 } })), by decide +kernel⟩,
   ⟨((let d := setF [(Fld.turnStatusSrcCur, 2)] turning; { d with turn := { d.turn with ringTurn := some 5, ringEdge := 3 } })), by decide +kernel⟩,
   ⟨turning, by decide +kernel⟩,
   ⟨starting, _, rfl, by decide +kernel, rfl, rfl, rfl, acts_of_actOn (fun _ => rfl) (by decide +kernel) rfl⟩,
   ⟨live, by decide +kernel⟩,
   ⟨(setF [(Fld.turnStatusSrcCur, 2)] turning), by decide +kernel⟩,
   ⟨(setF [(Fld.turnStatusSrcCur, 1)] turning), by decide +kernel⟩,
   ⟨(setF [(Fld.turnStatusSrcCur, 1)] turning), by decide +kernel⟩,
   ⟨((let d := setF [(Fld.turnStatusSrcCur, 1)] turning; { d with turn := { d.turn with inEdge := some 2 } })), by decide +kernel⟩,
   ⟨((let d := setF [(Fld.turnStatusSrcCur, 1)] turning; { d with turn := { d.turn with inEdge := some 2 } })), by decide +kernel⟩,
   ⟨((let d := setF [(Fld.turnStatusSrcCur, 1)] turning; { d with turn := { d.turn with ticked := true } })), by decide +kernel⟩,
   ⟨live, by decide +kernel⟩⟩

end OfTicks

/-! ### TurnAutomatics -/

namespace OfTurnAutomatics

def aged : Device := up [(coalReg 0 1 2, 0x05010203), (coalReg 1 0 0, 0x01010203), (coalReg 0 0 0, 0x01010000 + 0x200)] live
def trial (k : Nat) : Device := live.modSlot 3 fun s => { s with trial := some ⟨false, k, false⟩ }

/-- Every hypothesis of `Obligations.TurnAutomatics` is met. -/
theorem witness_TurnAutomatics :
    (∃ (d : Device) (n : Fin 16), d.por = false ∧ d.flag (Fld.pwrSlotAutoRetain (d.member0 n).val) = true ∧
      1 ≤ d.fld (Fld.pwrSlotIdleCnt (d.member0 n).val) ∧
      d.fld (Fld.pwrSlotIdleTurns (d.member0 n).val) ≤ d.fld (Fld.pwrSlotIdleCnt (d.member0 n).val)) ∧
    (∃ (d : Device) (n : Fin 16), d.por = false ∧ (d.flag (Fld.pwrSlotAutoRetain (d.member0 n).val) = false ∨
      d.fld (Fld.pwrSlotIdleCnt (d.member0 n).val) < max 1 (d.fld (Fld.pwrSlotIdleTurns (d.member0 n).val)))) ∧
    (∃ (d : Device) (p : Fin 2) (fn : Nat) (vec : Nat), d.por = false ∧ bitsOf (d.rd (coalReg p.val fn vec)) 16 8 ≠ 0 ∧
      bitsOf (d.rd (coalReg p.val fn vec)) 8 8 ≠ 0 ∧
      bitsOf (d.rd (coalReg p.val fn vec)) 8 8 ≤ bitsOf (d.rd (coalReg p.val fn vec)) 24 8) ∧
    (∃ (d : Device) (p : Fin 2) (fn : Nat) (vec : Nat), d.por = false ∧ (bitsOf (d.rd (coalReg p.val fn vec)) 16 8 = 0 ∨
      bitsOf (d.rd (coalReg p.val fn vec)) 8 8 = 0 ∨
      bitsOf (d.rd (coalReg p.val fn vec)) 24 8 < bitsOf (d.rd (coalReg p.val fn vec)) 8 8)) ∧
    (∃ (d : Device), d.por = false) ∧
    (∃ (d : Device) (n : Fin 16), ∃ t ∈ (d.slot n).trial, d.por = false ∧ t.left = 0) ∧
    (∃ (d : Device) (n : Fin 16), ∃ t ∈ (d.slot n).trial, d.por = false ∧ t.left ≠ 0) ∧
    (∃ (d : Device) (n : Fin 16), d.por = false ∧ (d.slot n).trial = none) :=
  ⟨⟨(setF [(Fld.pwrSlotAutoRetain 0, 1), (Fld.pwrSlotIdleCnt 0, 1), (Fld.pwrSlotIdleTurns 0, 1)] live), 0, by decide +kernel⟩,
   ⟨live, 0, by decide +kernel⟩,
   ⟨aged, 0, 1, 2, by decide +kernel⟩,
   ⟨live, 0, 0, 0, by decide +kernel⟩,
   ⟨live, by decide +kernel⟩,
   ⟨(trial 0), 3, by decide +kernel⟩,
   ⟨(trial 1), 3, by decide +kernel⟩,
   ⟨live, 0, by decide +kernel⟩⟩

end OfTurnAutomatics

/-! ### SlotMailboxes -/

namespace OfSlotMailboxes

def mbox (n : Fin 16) (f : Mailbox → Mailbox) (due : BitVec 4) (d : Device) : Device := d.modSlot n fun s => { s with mb := f s.mb, due := { s.due with mail := due } }
def full : List (BitVec 512) := List.replicate 64 7
def after (c : Instr) (d : Device) : Device := match exec c (S d) with | .next t => t.dev | _ => d

/-- Every hypothesis of `Obligations.SlotMailboxes` is met. -/
theorem witness_SlotMailboxes :
    (∃ (d : Device) (n : Fin 16), d.por = false ∧ (d.slot n).mb.inq.length < 64 ∧ ((∀ m ∈ d.members n,
      (d.slot m).power ≠ SlotPower.retain ∨ (d.slot m).st = SlotState.faulted) ∨ d.flag (Fld.pwrSlotAutoRetain n.val) = false)) ∧
    (∃ (d : Device) (n : Fin 16) (m : Fin 16), d.por = false ∧ (d.slot n).mb.inq.length < 64 ∧ m ∈ d.members n ∧
      (d.slot m).power = SlotPower.retain ∧ (d.slot m).st ≠ SlotState.faulted ∧ d.flag (Fld.pwrSlotAutoRetain n.val) = true) ∧
    (∃ (d : Device) (n : Fin 16), d.por = false ∧ 64 ≤ (d.slot n).mb.inq.length) ∧
    (∃ (d : Device) (n : Fin 16), d.por = false ∧ 1 ≤ (d.slot n).mb.outVis) ∧
    (∃ (d : Device) (n : Fin 16), d.por = false ∧ (d.slot n).mb.outVis = 0) ∧
    (∃ (d : Device) (n : Fin 16), d.por = false ∧ d.mailDue n 2 = true ∧ 1 ≤ (d.slot n).mb.inVis) ∧
    (∃ (d : Device) (n : Fin 16), d.por = false ∧ d.mailDue n 2 = true ∧ (d.slot n).mb.inVis = 0) ∧
    (∃ (d : Device) (n : Fin 16), d.por = false ∧ d.mailDue n 1 = true ∧ d.mailDue n 0 = false ∧ (d.slot n).mb.outq.length < 64) ∧
    (∃ (d : Device) (n : Fin 16), d.por = false ∧ d.mailDue n 1 = true ∧ d.mailDue n 0 = false ∧ 64 ≤ (d.slot n).mb.outq.length) ∧
    (∃ (d : Device) (e : Device) (f : Device) (n : Fin 16), d.por = false ∧ d.mailDue n 1 = true ∧ d.mailDue n 0 = true ∧
      Acts (Instr.outWe n) d e ∧ Acts (Instr.outPush n) e f) ∧
    (∃ (d : Device) (n : Fin 16), d.por = false ∧ d.mailDue n 0 = true) ∧
    (∃ (d : Device) (n : Fin 16), d.por = false ∧ d.mailDue n 3 = true) ∧
    (∃ (d : Device) (n : Fin 16), d.por = false ∧ (d.slot n).due.mail = 0) :=
  ⟨⟨live, 0, by decide +kernel⟩,
   ⟨(setF [(Fld.pwrSlotAutoRetain 0, 1)] (slotIs 0 (fun s => { s with power := .retain }) live)), 0, 0, by decide +kernel⟩,
   ⟨(mbox 0 (fun m => { m with inq := full }) 0 live), 0, by decide +kernel⟩,
   ⟨(mbox 0 (fun m => { m with outq := [1, 2], outVis := 1 }) 0 live), 0, by decide +kernel⟩,
   ⟨live, 0, by decide +kernel⟩,
   ⟨(mbox 0 (fun m => { m with inq := [1, 2], inVis := 1 }) 4 live), 0, by decide +kernel⟩,
   ⟨(mbox 0 (fun m => { m with inq := [1] }) 4 live), 0, by decide +kernel⟩,
   ⟨(after (.outWe 0) (mbox 0 id 3 live)), 0, by decide +kernel⟩,
   ⟨(mbox 0 (fun m => { m with outq := full }) 2 live), 0, by decide +kernel⟩,
   ⟨(mbox 0 id 3 live), _, _, 0, rfl, by decide +kernel, by decide +kernel, acts_of_actOn (fun _ => rfl) rfl rfl, acts_of_actOn (fun _ => rfl) (by decide +kernel) rfl⟩,
   ⟨(mbox 0 id 3 live), 0, by decide +kernel⟩,
   ⟨(mbox 0 (fun m => { m with userPrev := 0x83, userOld := 0x01 }) 8 live), 0, by decide +kernel⟩,
   ⟨live, 0, by decide +kernel⟩⟩

end OfSlotMailboxes

/-! ### SlotFabric -/

namespace OfSlotFabric

def clk0 (d : Device) : Device := slotIs 0 (fun s => { s with clk := { s.clk with lockA := 1, monitored := 1 } }) (cfgPut 0 5 0 0 16 0x8404 (runs 0 d))
def fabric : Device := cfgPut 0 0 0 67584 32 (2 ^ 11) (cfgPut 0 0 0 (67584 + 32) 32 (2 ^ 13) (cfgPut 0 0 0 (67584 + 64) 32 (2 ^ 12) (cfgPut 0 0 0 (192 * 9) 1 1 (cfgPut 0 0 0 (192 * 13) 1 1 (cfgPut 0 0 0 69632 10 1023 (clk0 live))))))
def due (l : List BmDue) (d : Device) : Device := slotIs 0 (fun s => { s with due := { s.due with bm := l } }) d
def fifo0 (pins : BitVec 116) (d : Device) : Device :=
  due [⟨0, 0, pins, 0, 1⟩, ⟨0, 1, pins, 0, 1⟩] (cfgPut 0 3 0 0 64 (1 + 2 * 2 + 8 * 3 + 2 ^ 21 + 2 ^ 34) (clk0 d))
def tdp0 : Device := due [⟨0, 0, 7, 0, 1⟩] (cfgPut 0 3 0 0 64 1 (clk0 live))
def sdp0 : Device := due [⟨0, 1, 2 ^ 58 * 7, 0, 1⟩] (cfgPut 0 3 0 0 64 3 (clk0 live))
def cycle (c : SlotCycle) (d : Device) : Device := slotIs 0 (fun s => { s with cyc := c }) d

/-- Every hypothesis of `Obligations.SlotFabric` is met. -/
theorem witness_SlotFabric :
    (∃ (d : Device) (num : Nat) (den : Nat), d.por = false ∧ 0 < den ∧ num / den = d.epoch ∧ d.edgeDone num den = false ∧
      (∀ (n : Fin 16), (d.slot n).due = DueOps.reset)) ∧
    (∃ (d : Device) (num : Nat) (den : Nat), d.por = false ∧ (den = 0 ∨ num / den < d.epoch ∨ num / den = d.epoch ∧
      d.edgeDone num den = true)) ∧
    (∃ (d : Device) (n : Fin 16) (i : Nat), d.clockRuns n i = true ∧ (d.slot n).cyc.swaps = false) ∧
    (∃ (d : Device) (n : Fin 16) (i : Nat), d.clockRuns n i = true ∧ (d.slot n).cyc.swaps = true) ∧
    (∃ (d : Device) (num : Nat) (den : Nat), d.por = false ∧ 0 < den ∧ num / den = d.epoch ∧ d.edgeDone num den = false ∧
      (∀ (n : Fin 16), (d.slot n).due = DueOps.reset) ∧ d.lateAt num den = false) ∧
    (∃ (d : Device) (num : Nat) (den : Nat) (n : Fin 16), d.por = false ∧ num / den = d.epoch ∧ d.lateAt num den = false ∧
      (d.slot n).cyc.resets = true) ∧
    (∃ (d : Device) (v : Fin 16 → FabView) (n : Fin 16) (m : Nat) (l : List Nat), ∃ b ∈ d.mcForce v n m (d.mcWord n m), m ∈ l ∧
      m < 2048 ∧ mcMode (d.mcWord n m) < 2) ∧
    (∃ (d : Device) (v : Fin 16 → FabView) (n : Fin 16) (m : Nat), bitOf (d.mcWord n m) 13 = true ∧ d.mcPt v n m 4 = true) ∧
    (∃ (d : Device) (n : Fin 16) (num : Nat) (den : Nat), d.por = false ∧ 0 < den ∧ num / den = d.epoch ∧ d.lateAt num den = false ∧
      d.fabricLive n = true) ∧
    (∃ (d : Device) (n : Fin 16) (num : Nat) (den : Nat), d.por = false ∧ 0 < den ∧ num / den = d.epoch ∧ d.lateAt num den = false ∧
      d.fabricLive n = false) ∧
    (∃ (d : Device) (n : Fin 16), (d.fabricLive n = false ∨ (d.slot n).cyc ≠ SlotCycle.idle)) ∧
    (∃ (d : Device) (n : Fin 16) (clk : Fin 6) (rise : Bool) (num : Nat) (den : Nat), d.por = false ∧ 0 < den ∧
      num / den = d.epoch ∧ d.lateAt num den = false ∧ d.ddrClocked n clk.val rise num den = false) ∧
    (∃ (d : Device) (n : Fin 16) (clk : Fin 6) (rise : Bool) (num : Nat) (den : Nat), d.por = false ∧ 0 < den ∧
      num / den = d.epoch ∧ d.lateAt num den = false ∧ d.ddrClocked n clk.val rise num den = true) ∧
    (∃ (d : Device) (n : Fin 16) (b : Fin 16), ∃ x ∈ d.bmDue n b.val 0, d.por = false ∧ d.isFifo n b.val = true ∧
      (pinsA x).orst = false ∧ d.bmActive n b.val = true ∧ (d.slot n).cyc.resets = false) ∧
    (∃ (d : Device) (n : Fin 16) (b : Fin 16), ∃ x ∈ d.bmDue n b.val 0, d.por = false ∧ d.isFifo n b.val = true ∧
      (pinsA x).orst = true ∧ d.bmActive n b.val = true ∧ (d.slot n).cyc.resets = false) ∧
    (∃ (d : Device) (n : Fin 16) (b : Fin 16), d.por = false ∧ d.isFifo n b.val = false ∧ d.bmActive n b.val = true ∧
      (d.bmDue n b.val 0 ≠ none ∨ d.bmDue n b.val 1 ≠ none) ∧ (d.slot n).cyc.resets = false ∧ d.bmNow n b.val 1 2 ≠ 1) ∧
    (∃ (d : Device) (n : Fin 16) (b : Fin 16), d.por = false ∧ d.isFifo n b.val = false ∧ d.bmActive n b.val = true ∧
      (d.bmDue n b.val 0 ≠ none ∨ d.bmDue n b.val 1 ≠ none) ∧ (d.slot n).cyc.resets = false ∧ d.bmNow n b.val 1 2 = 1) ∧
    (∃ (d : Device) (n : Fin 16) (b : Fin 16), d.por = false ∧ d.isFifo n b.val = false) ∧
    (∃ (d : Device) (n : Fin 16) (b : Fin 16), d.por = false ∧ d.isFifo n b.val = true) ∧
    (∃ (d : Device) (n : Fin 16) (b : Fin 16), d.por = false ∧ d.clearDue n b.val = true) ∧
    (∃ (d : Device) (n : Fin 16) (b : Fin 16), d.por = false ∧ d.clearDue n b.val = false) :=
  ⟨⟨fabric, 0, 1, by decide +kernel⟩,
   ⟨fabric, 0, 0, by decide +kernel⟩,
   ⟨fabric, 0, 0, by decide +kernel⟩,
   ⟨(cycle .swap fabric), 0, 0, by decide +kernel⟩,
   ⟨fabric, 0, 1, by decide +kernel⟩,
   ⟨(cycle .reset fabric), 0, 1, 0, by decide +kernel⟩,
   ⟨fabric, fabric.curView, 0, 1, ([0, 1, 2]), by decide +kernel⟩,
   ⟨fabric, fabric.curView, 0, 1, by decide +kernel⟩,
   ⟨fabric, 0, 0, 1, by decide +kernel⟩,
   ⟨fabric, 1, 0, 1, by decide +kernel⟩,
   ⟨fabric, 1, by decide +kernel⟩,
   ⟨fabric, 0, 0, true, 1, 3, by decide +kernel⟩,
   ⟨fabric, 0, 0, true, 0, 1, by decide +kernel⟩,
   ⟨(fifo0 0 live), 0, 0, by decide +kernel⟩,
   ⟨(fifo0 (2 ^ 57) live), 0, 0, by decide +kernel⟩,
   ⟨tdp0, 0, 0, by decide +kernel⟩,
   ⟨sdp0, 0, 0, by decide +kernel⟩,
   ⟨fabric, 0, 0, by decide +kernel⟩,
   ⟨(fifo0 0 live), 0, 0, by decide +kernel⟩,
   ⟨(fifo0 (2 ^ 57) live), 0, 0, by decide +kernel⟩,
   ⟨fabric, 0, 0, by decide +kernel⟩⟩

end OfSlotFabric

/-! ### HeartwoodQueuesAndAbort -/

namespace OfHeartwoodQueuesAndAbort

def tag5 : List (Nat × Nat × Nat) := [(8, 4, 5), (12, 1, 0xFF)]

/-- Every hypothesis of `Obligations.HeartwoodQueuesAndAbort` is met. -/
theorem witness_HeartwoodQueuesAndAbort :
    (∃ (d : Device) (q : Fin 3), d.por = false ∧ d.fld (Fld.hwdQSqStatusDepth q.val) < 64) ∧
    (∃ (d : Device) (q : Fin 3), d.por = false ∧ 64 ≤ d.fld (Fld.hwdQSqStatusDepth q.val)) ∧
    (∃ (d : Device) (q : Fin 3) (n : Nat), d.por = false ∧ d.fld (Fld.hwdQCqStatusDepth q.val) = n + 1) ∧
    (∃ (d : Device) (q : Fin 3), d.por = false ∧ d.fld (Fld.hwdQCqStatusDepth q.val) = 0) ∧
    (∃ (d : Device), d.por = false ∧ d.fwRuns = false) ∧
    (∃ (d : Device), d.por = false ∧ d.fwRuns = true ∧ (∀ (q : Fin 3), d.fld (Fld.hwdQSqStatusDepth q.val) = 0)) ∧
    (∃ (d : Device) (q : Fin 3), d.por = false ∧ d.fwRuns = true ∧ d.hwd.skips = [] ∧ d.takeable q.val = true ∧ (∀ (o : Fin 3),
      (o.val + 2 - d.hwd.rr.val) % 3 < (q.val + 2 - d.hwd.rr.val) % 3 → d.takeable o.val = false) ∧
      (d.fwRead (benchBase + d.sqAddr q.val (d.fld (Fld.hwdQSqStatusHead q.val))) 64).1.code = 0 ∧
      (d.fwRead (benchBase + d.sqAddr q.val (d.fld (Fld.hwdQSqStatusHead q.val))) 64).2.fld (Fld.hwdQSqStatusDepth q.val) ≠ 0) ∧
    (∃ (d : Device) (cid : Nat), ∃ k ∈ d.cmd cid, d.por = false ∧ d.fwRuns = true ∧ k.op = 127 ∧ k.stage = 0 ∧ k.queue ≠ 2 ∧
      k.f 12 1 ≠ 255 ∧ k.f 12 1 ≠ k.queue.val) ∧
    (∃ (d : Device) (cid : Nat), ∃ k ∈ d.cmd cid, d.por = false ∧ d.fwRuns = true ∧ k.op = 127 ∧ k.stage = 0 ∧ (k.queue = 2 ∨
      (if k.f 12 1 = 255 then k.queue.val else k.f 12 1) = k.queue.val) ∧
      d.abortTarget (if k.f 12 1 = 255 then k.queue.val else k.f 12 1) (k.f 8 4) = none ∧
      d.abortEntry (if k.f 12 1 = 255 then k.queue.val else k.f 12 1) (k.f 8 4) = none) ∧
    (∃ (d : Device) (cid : Nat), ∃ k ∈ d.cmd cid, ∃ t ∈ d.abortTarget (if k.f 12 1 = 255 then k.queue.val else k.f 12 1) (k.f 8 4),
      d.por = false ∧ d.fwRuns = true ∧ k.op = 127 ∧ k.stage = 0 ∧ (k.queue = 2 ∨
      (if k.f 12 1 = 255 then k.queue.val else k.f 12 1) = k.queue.val) ∧ t.stage = 0) ∧
    (∃ (d : Device) (cid : Nat), ∃ k ∈ d.cmd cid, ∃ t ∈ d.abortTarget (if k.f 12 1 = 255 then k.queue.val else k.f 12 1) (k.f 8 4),
      d.por = false ∧ d.fwRuns = true ∧ k.op = 127 ∧ k.stage = 0 ∧ (k.queue = 2 ∨
      (if k.f 12 1 = 255 then k.queue.val else k.f 12 1) = k.queue.val) ∧ t.stage ≠ 0 ∧ t.op = 21 ∧ d.pend5Of t.cid ≠ []) ∧
    (∃ (d : Device) (cid : Nat), ∃ k ∈ d.cmd cid, ∃ t ∈ d.abortTarget (if k.f 12 1 = 255 then k.queue.val else k.f 12 1) (k.f 8 4),
      d.por = false ∧ d.fwRuns = true ∧ k.op = 127 ∧ k.stage = 0 ∧ (k.queue = 2 ∨
      (if k.f 12 1 = 255 then k.queue.val else k.f 12 1) = k.queue.val) ∧ t.stage ≠ 0 ∧ t.op = 22 ∧ d.pend7Of t.cid = []) ∧
    (∃ (d : Device), d.flag Fld.devReadyBench = false) :=
  ⟨⟨(setF [(Fld.hwdQSqStatusDepth 1, 1)] (bench 0 (desc 0x01 [(4, 4, 7)]) fw)), 0, by decide +kernel⟩,
   ⟨(setF [(Fld.hwdQSqStatusDepth 0, 64)] fw), 0, by decide +kernel⟩,
   ⟨(setF [(Fld.hwdQCqStatusDepth 0, 1)] fw), 0, 0, by decide +kernel⟩,
   ⟨(setF [(Fld.hwdQSqStatusDepth 1, 1)] (bench 0 (desc 0x01 [(4, 4, 7)]) fw)), 0, by decide +kernel⟩,
   ⟨live, by decide +kernel⟩,
   ⟨fw, by decide +kernel⟩,
   ⟨(setF [(Fld.hwdQSqStatusDepth 1, 1)] (bench 0 (desc 0x01 [(4, 4, 7)]) fw)), 1, by decide +kernel⟩,
   ⟨(taking 0 0x7F [(8, 4, 5), (12, 1, 1)] fw), 20, by decide +kernel⟩,
   ⟨(taking 0 0x7F tag5 fw), 20, by decide +kernel⟩,
   ⟨(also 21 2 0x15 0 [(4, 4, 5)] (taking 2 0x7F tag5 fw)), 20, by decide +kernel⟩,
   ⟨(slotIs 3 (fun s => { s with pend5 := some ⟨.release, some 21, 3⟩ }) (also 21 0 0x15 1 [(4, 4, 5)] (taking 0 0x7F tag5 fw))), 20, by decide +kernel⟩,
   ⟨(also 21 0 0x16 1 [(4, 4, 5)] (taking 0 0x7F tag5 fw)), 20, by decide +kernel⟩,
   ⟨live, by decide +kernel⟩⟩

end OfHeartwoodQueuesAndAbort

/-! ### ManagementAndAttestation -/

namespace OfManagementAndAttestation

def keyed (d : Device) : Device := (d.setByte keyIdk 1).setByte keyKak 1
def noIdk (d : Device) : Device := d.setByte keyIdk 0
def attest (sub len out : Nat) (d : Device) : Device := taking 0 0x52 [(8, 1, sub), (0x10, 8, benchBase), (0x18, 4, len), (0x20, 8,
    benchBase + 0x1000), (0x28, 4, out)] d

/-- Every hypothesis of `Obligations.ManagementAndAttestation` is met. -/
theorem witness_ManagementAndAttestation :
    (∃ (d : Device) (cid : Nat), ∃ k ∈ d.cmd cid, d.por = false ∧ d.fwRuns = true ∧ k.op = 1 ∧ k.stage = 0) ∧
    (∃ (d : Device) (cid : Nat), ∃ k ∈ d.cmd cid, d.por = false ∧ d.fwRuns = true ∧ k.op = 2 ∧ k.stage = 0) ∧
    (∃ (d : Device) (cid : Nat), ∃ k ∈ d.cmd cid, d.por = false ∧ d.fwRuns = true ∧ k.op = 82 ∧ k.stage = 0 ∧ k.f 8 1 = 1 ∧
      (d.fwRead (k.f 16 8) (min 512 (k.f 24 4))).1.code = 0 ∧ (d.fwRead (k.f 16 8) (min 512 (k.f 24 4))).1.data = []) ∧
    (∃ (d : Device) (cid : Nat), ∃ k ∈ d.cmd cid, d.por = false ∧ d.fwRuns = true ∧ k.op = 82 ∧ k.stage = 0 ∧ k.f 8 1 = 2 ∧
      208 ≤ k.f 40 4 ∧ (d.fwRead (k.f 16 8) (min 512 (k.f 24 4))).1.code = 0 ∧
      (d.fwRead (k.f 16 8) (min 512 (k.f 24 4))).1.data = [] ∧ ((d.fwRead (k.f 16 8) (min 512 (k.f 24 4))).2.hasIdk = false ∨
      (d.fwRead (k.f 16 8) (min 512 (k.f 24 4))).2.hasKak = false)) ∧
    (∃ (d : Device) (cid : Nat), ∃ k ∈ d.cmd cid, d.por = false ∧ d.fwRuns = true ∧ k.op = 82 ∧ k.stage = 0 ∧ k.f 8 1 = 2 ∧
      208 ≤ k.f 40 4 ∧ (d.fwRead (k.f 16 8) (min 512 (k.f 24 4))).1.code = 0 ∧
      (d.fwRead (k.f 16 8) (min 512 (k.f 24 4))).1.data = [] ∧ (d.fwRead (k.f 16 8) (min 512 (k.f 24 4))).2.hasIdk = true ∧
      (d.fwRead (k.f 16 8) (min 512 (k.f 24 4))).2.hasKak = true) ∧
    (∃ (d : Device) (cid : Nat), ∃ k ∈ d.cmd cid, d.por = false ∧ d.fwRuns = true ∧ k.op = 82 ∧ k.stage = 0 ∧ k.f 8 1 = 3 ∧
      (d.fwRead (k.f 16 8) (min 512 (k.f 24 4))).1.code = 0 ∧ ((d.fwRead (k.f 16 8) (min 512 (k.f 24 4))).1.data.length ≠ 64 ∨
      k.f 40 4 < ((d.fwRead (k.f 16 8) (min 512 (k.f 24 4))).2.quoteBody (d.fwRead (k.f 16 8) (min 512 (k.f 24 4))).1.data).length + 96)) ∧
    (∃ (d : Device) (cid : Nat), ∃ k ∈ d.cmd cid, d.por = false ∧ d.fwRuns = true ∧ k.op = 82 ∧ k.stage = 0 ∧ k.f 8 1 = 3 ∧
      (d.fwRead (k.f 16 8) (min 512 (k.f 24 4))).1.code = 0 ∧ (d.fwRead (k.f 16 8) (min 512 (k.f 24 4))).1.data.length = 64 ∧
      ((d.fwRead (k.f 16 8) (min 512 (k.f 24 4))).2.quoteBody (d.fwRead (k.f 16 8) (min 512 (k.f 24 4))).1.data).length + 96 ≤ k.f 40 4 ∧
      (d.fwRead (k.f 16 8) (min 512 (k.f 24 4))).2.hasIdk = false) ∧
    (∃ (d : Device) (cid : Nat), ∃ k ∈ d.cmd cid, d.por = false ∧ d.fwRuns = true ∧ k.op = 82 ∧ k.stage = 0 ∧ k.f 8 1 = 3 ∧
      (d.fwRead (k.f 16 8) (min 512 (k.f 24 4))).1.code = 0 ∧ (d.fwRead (k.f 16 8) (min 512 (k.f 24 4))).1.data.length = 64 ∧
      ((d.fwRead (k.f 16 8) (min 512 (k.f 24 4))).2.quoteBody (d.fwRead (k.f 16 8) (min 512 (k.f 24 4))).1.data).length + 96 ≤ k.f 40 4 ∧
      (d.fwRead (k.f 16 8) (min 512 (k.f 24 4))).2.hasIdk = true) ∧
    (∃ (d : Device) (cid : Nat), ∃ k ∈ d.cmd cid, d.por = false ∧ d.fwRuns = true ∧ k.op = 82 ∧ k.stage = 0 ∧ k.f 8 1 = 3 ∧
      (d.fwRead (k.f 16 8) (min 512 (k.f 24 4))).1.code ≠ 0) :=
  ⟨⟨(taking 1 0x01 [] fw), 20, by decide +kernel⟩,
   ⟨(taking 1 0x02 [] fw), 20, by decide +kernel⟩,
   ⟨(attest 1 0 4096 fw), 20, by decide +kernel⟩,
   ⟨(attest 2 0 4096 (noIdk fw)), 20, by decide +kernel⟩,
   ⟨(attest 2 0 4096 fw), 20, by decide +kernel⟩,
   ⟨(attest 3 63 4096 fw), 20, by decide +kernel⟩,
   ⟨(attest 3 64 4096 (noIdk fw)), 20, by decide +kernel⟩,
   ⟨(attest 3 64 4096 (keyed fw)), 20, by decide +kernel⟩,
   ⟨(attest 3 64 4096 (setF [(Fld.devReadyBench, 0)] fw)), 20, by decide +kernel⟩⟩

end OfManagementAndAttestation

/-! ### BindingAndGroups -/

namespace OfBindingAndGroups

def vfw : Device := setF [(Fld.ptStatusVfEn 0, 1), (Fld.ptStatusNumVfs 0, 4)] fw
def grp (d : Device) : Device := (d.modSlot 1 fun s => { s with gkind := 1, gmember := 0 }).modSlot 2 fun s => { s with gkind := 1, gmember := 1 }
def bind_ (n v : Nat) (d : Device) : Device := taking 0 0x10 [(8, 1, n), (10, 1, v)] d
def ticks (d : Device) : Device := setF [(Fld.turnCtlRun, 1)] d

/-- Every hypothesis of `Obligations.BindingAndGroups` is met. -/
theorem witness_BindingAndGroups :
    (∃ (d : Device) (cid : Nat) (p : Fin 2), ∃ k ∈ d.cmd cid, d.por = false ∧ d.fwRuns = true ∧ k.op = 16 ∧ k.stage = 0 ∧
      k.queue ≠ 2 ∧ p.val = k.queue.val ∧ (d.slot (k.slotAt 8)).gkind = 0 ∧ (d.slot (k.slotAt 8)).gmember = 0 ∧
      (d.slot (k.slotAt 8)).st = SlotState.empty ∧ (d.slot (k.slotAt 8)).binding = none ∧ (d.slot (k.slotAt 8)).pend5 = none ∧
      bitOf (d.rd (Reg.slcFault (k.slotAt 8).val)) faultSweep = false ∧
      d.vfEnabled p.val (if k.f 10 1 = 0 then (k.slotAt 8).val + 1 else k.f 10 1) = true ∧ (∀ (m : Fin 16),
      (d.slot m).binding ≠ some (p, if k.f 10 1 = 0 then (k.slotAt 8).val + 1 else k.f 10 1))) ∧
    (∃ (d : Device) (cid : Nat) (p : Fin 2), ∃ k ∈ d.cmd cid, d.por = false ∧ d.fwRuns = true ∧ k.op = 16 ∧ k.stage = 0 ∧
      k.queue ≠ 2 ∧ p.val = k.queue.val ∧ (d.slot (k.slotAt 8)).gkind = 0 ∧ (d.slot (k.slotAt 8)).gmember = 0 ∧
      (d.slot (k.slotAt 8)).binding = none ∧ (d.slot (k.slotAt 8)).st ≠ SlotState.empty) ∧
    (∃ (d : Device) (cid : Nat) (p : Fin 2), ∃ k ∈ d.cmd cid, d.por = false ∧ d.fwRuns = true ∧ k.op = 16 ∧ k.stage = 0 ∧
      k.queue ≠ 2 ∧ p.val = k.queue.val ∧ (d.slot (k.slotAt 8)).gkind = 0 ∧ (d.slot (k.slotAt 8)).gmember = 0 ∧
      (d.slot (k.slotAt 8)).binding = none ∧ (d.slot (k.slotAt 8)).st = SlotState.empty ∧ (d.slot (k.slotAt 8)).pend5 = none ∧
      bitOf (d.rd (Reg.slcFault (k.slotAt 8).val)) faultSweep = true) ∧
    (∃ (d : Device) (cid : Nat) (p : Fin 2), ∃ k ∈ d.cmd cid, d.por = false ∧ d.fwRuns = true ∧ k.op = 16 ∧ k.stage = 0 ∧
      k.queue ≠ 2 ∧ p.val = k.queue.val ∧ (d.slot (k.slotAt 8)).gkind = 0 ∧ (d.slot (k.slotAt 8)).gmember = 0 ∧
      (d.slot (k.slotAt 8)).binding = none ∧ (d.slot (k.slotAt 8)).st = SlotState.empty ∧ (d.slot (k.slotAt 8)).pend5 = none ∧
      bitOf (d.rd (Reg.slcFault (k.slotAt 8).val)) faultSweep = false ∧
      d.vfEnabled p.val (if k.f 10 1 = 0 then (k.slotAt 8).val + 1 else k.f 10 1) = false) ∧
    (∃ (d : Device) (cid : Nat) (p : Fin 2), ∃ k ∈ d.cmd cid, d.por = false ∧ d.fwRuns = true ∧ k.op = 16 ∧ k.stage = 0 ∧
      k.queue ≠ 2 ∧ p.val = k.queue.val ∧ (d.slot (k.slotAt 8)).gkind = 0 ∧ (d.slot (k.slotAt 8)).gmember = 0 ∧
      (d.slot (k.slotAt 8)).binding = none ∧ (d.slot (k.slotAt 8)).st = SlotState.empty ∧ (d.slot (k.slotAt 8)).pend5 = none ∧
      bitOf (d.rd (Reg.slcFault (k.slotAt 8).val)) faultSweep = false ∧
      d.vfEnabled p.val (if k.f 10 1 = 0 then (k.slotAt 8).val + 1 else k.f 10 1) = true ∧ (∃ m, (d.slot m).binding = some (p,
      if k.f 10 1 = 0 then (k.slotAt 8).val + 1 else k.f 10 1))) ∧
    (∃ (d : Device) (cid : Nat), ∃ k ∈ d.cmd cid, d.por = false ∧ d.fwRuns = true ∧ k.op = 17 ∧ k.stage = 0 ∧
      (d.slot (k.slotAt 8)).gkind = 0 ∧ (d.slot (k.slotAt 8)).gmember = 0 ∧ (d.slot (k.slotAt 8)).st ≠ SlotState.empty ∧
      (d.slot (k.slotAt 8)).st ≠ SlotState.sweeping ∧ (d.slot (k.slotAt 8)).pend5 = none ∧ d.ticking = true) ∧
    (∃ (d : Device) (cid : Nat), ∃ k ∈ d.cmd cid, d.por = false ∧ d.fwRuns = true ∧ k.op = 17 ∧ k.stage = 0 ∧
      ((d.slot (k.slotAt 8)).st = SlotState.sweeping ∨ (d.slot (k.slotAt 8)).st = SlotState.empty ∧
      bitOf (d.rd (Reg.slcFault (k.slotAt 8).val)) faultSweep = false)) ∧
    (∃ (d : Device) (cid : Nat), ∃ k ∈ d.cmd cid, d.por = false ∧ d.fwRuns = true ∧ k.op = 17 ∧ k.stage = 0 ∧
      (d.slot (k.slotAt 8)).gkind = 0 ∧ (d.slot (k.slotAt 8)).gmember = 0 ∧ (d.slot (k.slotAt 8)).st ≠ SlotState.empty ∧
      (d.slot (k.slotAt 8)).st ≠ SlotState.sweeping ∧ (d.slot (k.slotAt 8)).pend5 ≠ none) ∧
    (∃ (base : Nat), base < 16) ∧
    (∃ (b : Nat), b < 16 ∧ b % 4 + 1 < 4) ∧
    (∃ (b : Nat), b < 16 ∧ b + 4 < 16) ∧
    (∃ (d : Device) (cid : Nat), ∃ k ∈ d.cmd cid, d.por = false ∧ d.fwRuns = true ∧ k.op = 23 ∧ k.stage = 0 ∧
      groupShape (k.f 8 1) (k.slotAt 9).val = false) ∧
    (∃ (d : Device) (cid : Nat) (m : Fin 16), ∃ k ∈ d.cmd cid, d.por = false ∧ d.fwRuns = true ∧ k.op = 23 ∧ k.stage = 0 ∧
      groupShape (k.f 8 1) (k.slotAt 9).val = true ∧ (∀ (o : Fin 16), (d.slot o).binding = none) ∧
      m ∈ groupSlots (k.f 8 1) (k.slotAt 9).val ∧ ((d.slot m).gkind ≠ 0 ∨ (d.slot m).st = SlotState.running)) ∧
    (∃ (d : Device) (cid : Nat), ∃ k ∈ d.cmd cid, d.por = false ∧ d.fwRuns = true ∧ k.op = 23 ∧ k.stage = 0 ∧
      groupShape (k.f 8 1) (k.slotAt 9).val = true ∧ (∀ m ∈ groupSlots (k.f 8 1) (k.slotAt 9).val, (d.slot m).gkind = 0 ∧
      (d.slot m).st = SlotState.empty ∧ (d.slot m).binding = none ∧ d.anyPending m = false)) ∧
    (∃ (d : Device) (cid : Nat), ∃ k ∈ d.cmd cid, d.por = false ∧ d.fwRuns = true ∧ k.op = 24 ∧ k.stage = 0 ∧
      (d.slot (k.slotAt 8)).gkind = 0) ∧
    (∃ (d : Device) (cid : Nat) (m : Fin 16), ∃ k ∈ d.cmd cid, d.por = false ∧ d.fwRuns = true ∧ k.op = 24 ∧ k.stage = 0 ∧
      (d.slot (k.slotAt 8)).gkind ≠ 0 ∧ m ∈ d.members (k.slotAt 8) ∧ ((d.slot m).st = SlotState.running ∨
      (d.slot m).st = SlotState.sweeping)) ∧
    (∃ (d : Device) (cid : Nat), ∃ k ∈ d.cmd cid, d.por = false ∧ d.fwRuns = true ∧ k.op = 24 ∧ k.stage = 0 ∧
      (d.slot (k.slotAt 8)).gkind ≠ 0 ∧ (∀ m ∈ d.members (k.slotAt 8), (d.slot m).st ≠ SlotState.running ∧
      (d.slot m).st ≠ SlotState.sweeping ∧ d.anyPending m = false)) :=
  ⟨⟨(bind_ 3 2 vfw), 20, 0, by decide +kernel⟩,
   ⟨(bind_ 3 2 (slotIs 3 (fun s => { s with st := .loaded }) vfw)), 20, 0, by decide +kernel⟩,
   ⟨(up [(Reg.slcFault 3, 2 ^ faultSweep)] (bind_ 3 2 vfw)), 20, 0, by decide +kernel⟩,
   ⟨(bind_ 3 9 vfw), 20, 0, by decide +kernel⟩,
   ⟨(bind_ 3 2 (runs 1 vfw)), 20, 0, by decide +kernel⟩,
   ⟨(taking 0 0x11 [(8, 1, 3)] (ticks (runs 3 fw))), 20, by decide +kernel⟩,
   ⟨(taking 0 0x11 [(8, 1, 3)] fw), 20, by decide +kernel⟩,
   ⟨(taking 0 0x11 [(8, 1, 3)] (slotIs 3 (fun s => { s with pend5 := some ⟨.hold, none, 3⟩ }) (runs 3 fw))), 20, by decide +kernel⟩,
   ⟨0, by decide +kernel⟩,
   ⟨0, by decide +kernel⟩,
   ⟨0, by decide +kernel⟩,
   ⟨(taking 2 0x17 [(8, 1, 1), (9, 1, 3)] fw), 20, by decide +kernel⟩,
   ⟨((taking 2 0x17 [(8, 1, 3), (9, 1, 0)] ([(0, 0), (1, 1), (4, 2), (5, 3)].foldl (fun d (x : Fin 16 × Nat) => d.modSlot x.1 fun s => { s with gkind := 3, gmember := x.2 }) fw))), 20, 0, by decide +kernel⟩,
   ⟨(taking 2 0x17 [(8, 1, 1), (9, 1, 1)] fw), 20, by decide +kernel⟩,
   ⟨(taking 2 0x18 [(8, 1, 1)] fw), 20, by decide +kernel⟩,
   ⟨(taking 2 0x18 [(8, 1, 1)] (slotIs 2 (fun s => { s with st := .running }) (grp fw))), 20, 2, by decide +kernel⟩,
   ⟨(taking 2 0x18 [(8, 1, 1)] (grp fw)), 20, by decide +kernel⟩⟩

end OfBindingAndGroups

/-! ### SlotRequests -/

namespace OfSlotRequests

def st3 (x : SlotState) (d : Device) : Device := slotIs 3 (fun s => { s with st := x, binding := some (0, 4) }) d
def ask (op opt : Nat) (d : Device) : Device := taking 0 op [(8, 1, 3), (9, 1, opt)] d
def dss (d : Device) : Device := up [(Reg.slcFault 3, 2 ^ faultDevice)] (setF [(Fld.safeStatusDss, 1)] d)

/-- Every hypothesis of `Obligations.SlotRequests` is met. -/
theorem witness_SlotRequests :
    (∃ (d : Device) (cid : Nat), ∃ k ∈ d.cmd cid, d.requestCode (k.slotAt 8) Req5.hold ≠ 0 ∧ d.por = false ∧ d.fwRuns = true ∧
      k.op = 20 ∧ k.stage = 0 ∧ k.f 9 1 = 0) ∧
    (∃ (d : Device) (cid : Nat), ∃ k ∈ d.cmd cid, d.requestCode (k.slotAt 8) Req5.slotReset ≠ 0 ∧ d.por = false ∧ d.fwRuns = true ∧
      k.op = 20 ∧ k.stage = 0 ∧ k.f 9 1 = 1) ∧
    (∃ (d : Device) (cid : Nat), ∃ k ∈ d.cmd cid, d.requestCode (k.slotAt 8) Req5.release ≠ 0 ∧ d.por = false ∧ d.fwRuns = true ∧
      k.op = 21 ∧ k.stage = 0) ∧
    (∃ (d : Device) (n : Fin 16) (m : Fin 16), ((d.slot n).st = SlotState.loaded ∨ (d.slot n).st = SlotState.held) ∧
      m ∈ d.members n ∧ (d.slot m).st = SlotState.bound ∧ d.pValid m.val (d.act m) = false ∧ d.flag Fld.safeStatusDss = false ∧
      (∀ o ∈ d.members n, d.blocksRelease o = false)) ∧
    (∃ (d : Device) (cid : Nat), ∃ k ∈ d.cmd cid, d.por = false ∧ d.fwRuns = true ∧ k.op = 20 ∧ k.stage = 0 ∧ k.f 9 1 = 0 ∧
      d.requestCode (k.slotAt 8) Req5.hold = 0 ∧ (∀ m ∈ d.members (k.slotAt 8), (d.slot m).st ≠ SlotState.running) ∧
      d.resumeHolds (k.slotAt 8) = false) ∧
    (∃ (d : Device) (cid : Nat), ∃ k ∈ d.cmd cid, d.por = false ∧ d.fwRuns = true ∧ k.op = 20 ∧ k.stage = 0 ∧ k.f 9 1 = 0 ∧
      d.requestCode (k.slotAt 8) Req5.hold = 0 ∧ (∃ m ∈ d.members (k.slotAt 8), (d.slot m).st = SlotState.running) ∧
      (∀ m ∈ d.members (k.slotAt 8), (d.slot m).pend5 = none)) ∧
    (∃ (d : Device) (cid : Nat), ∃ k ∈ d.cmd cid, (∀ m ∈ d.members (k.slotAt 8), (d.slot m).pend5 = none ∧
      d.resumeHolds m = false) ∧ d.por = false ∧ d.fwRuns = true ∧ k.op = 20 ∧ k.stage = 0 ∧ k.f 9 1 = 1 ∧
      d.requestCode (k.slotAt 8) Req5.slotReset = 0) ∧
    (∃ (d : Device) (cid : Nat), ∃ k ∈ d.cmd cid, (∀ m ∈ d.members (k.slotAt 8), (d.slot m).pend5 = none ∧
      d.resumeHolds m = false) ∧ d.por = false ∧ d.fwRuns = true ∧ k.op = 21 ∧ k.stage = 0 ∧
      d.requestCode (k.slotAt 8) Req5.release = 0) ∧
    (∃ (d : Device) (cid : Nat), ∃ k ∈ d.cmd cid, (∀ m ∈ d.members (k.slotAt 8), (d.slot m).pend5 = none ∧
      d.resumeHolds m = false) ∧ d.por = false ∧ d.fwRuns = true ∧ k.op = 20 ∧ k.stage = 0 ∧ k.f 9 1 = 2 ∧
      d.requestCode (k.slotAt 8) Req5.faultClear = 0 ∧ (d.flag Fld.safeStatusDss = false ∨ ∀ m ∈ d.members (k.slotAt 8),
      (d.slot m).st = SlotState.faulted → bitOf (d.rd (Reg.slcFault m.val)) faultDevice = false)) ∧
    (∃ (d : Device) (cid : Nat) (m : Fin 16), ∃ k ∈ d.cmd cid, d.por = false ∧ d.fwRuns = true ∧ k.op = 20 ∧ k.stage = 0 ∧
      k.f 9 1 = 2 ∧ m ∈ d.members (k.slotAt 8) ∧ (d.slot m).st = SlotState.faulted ∧
      bitOf (d.rd (Reg.slcFault m.val)) faultDevice = true ∧ d.flag Fld.safeStatusDss = true ∧ (d.dssClear 62).1 = false) ∧
    (∃ (d : Device) (cid : Nat), ∃ k ∈ d.cmd cid, d.por = false ∧ d.fwRuns = true ∧ k.op = 22 ∧ k.stage = 0 ∧
      k.f 9 1 = powerCode (d.slot (k.slotAt 8)).power) ∧
    (∃ (d : Device) (cid : Nat) (dst : SlotPower), ∃ k ∈ d.cmd cid, d.por = false ∧ d.fwRuns = true ∧ k.op = 22 ∧ k.stage = 0 ∧
      k.f 9 1 = powerCode dst ∧ (d.slot (k.slotAt 8)).power ≠ dst ∧ d.slotPowerCode (k.slotAt 8) dst ≠ 0) ∧
    (∃ (d : Device) (cid : Nat) (dst : SlotPower), ∃ k ∈ d.cmd cid, d.por = false ∧ d.fwRuns = true ∧ k.op = 22 ∧ k.stage = 0 ∧
      k.f 9 1 = powerCode dst ∧ (d.slot (k.slotAt 8)).power ≠ dst ∧ d.slotPowerCode (k.slotAt 8) dst = 0 ∧
      (∀ m ∈ d.powerReach (k.slotAt 8) dst, (d.slot m).pend7 = none)) ∧
    (∃ (d : Device) (cid : Nat) (dst : SlotPower), ∃ k ∈ d.cmd cid, d.por = false ∧ d.fwRuns = true ∧ k.op = 22 ∧ k.stage = 0 ∧
      k.f 9 1 = powerCode dst ∧ (d.slot (k.slotAt 8)).power ≠ dst ∧ d.slotPowerCode (k.slotAt 8) dst = 0 ∧
      (∃ m ∈ d.powerReach (k.slotAt 8) dst, (d.slot m).pend7 ≠ none)) ∧
    (∃ (d : Device) (tcid : Fin 64), d.por = false ∧ tcid.val = 62) ∧
    (∃ (d : Device) (n : Fin 16) (tcid : Fin 64), ∃ w0 : Fin 2 × Nat, w0 ∈ (portOfTcid tcid.val) ∧ d.por = false ∧
      portOfTcid tcid.val = some (w0.1, w0.2) ∧ w0.2 ≠ 0 ∧ d.bindingOf n = some (w0.1, w0.2) ∧
      d.flag (Fld.slcCtlVfreqEn n.val) = true) ∧
    (∃ (d : Device) (n : Fin 16) (tcid : Fin 64), d.por = false ∧ tcid.val ≠ 62 ∧ d.flag (Fld.slcCtlVfreqEn n.val) = false) :=
  ⟨⟨(ask 0x14 0 fw), 20, by decide +kernel⟩,
   ⟨(ask 0x14 1 (st3 .bound fw)), 20, by decide +kernel⟩,
   ⟨(ask 0x15 0 (st3 .bound fw)), 20, by decide +kernel⟩,
   ⟨((slotIs 2 (fun s => { s with st := .bound, gkind := 1, gmember := 0 }) (slotIs 3 (fun s => { s with gkind := 1, gmember := 1 }) (loaded 3 fw)))), 3, 2, by decide +kernel⟩,
   ⟨(ask 0x14 0 (st3 .held fw)), 20, by decide +kernel⟩,
   ⟨(ask 0x14 0 (st3 .running fw)), 20, by decide +kernel⟩,
   ⟨(ask 0x14 1 (st3 .running fw)), 20, by decide +kernel⟩,
   ⟨(ask 0x15 0 (loaded 3 fw)), 20, by decide +kernel⟩,
   ⟨(ask 0x14 2 (st3 .faulted (loaded 3 fw))), 20, by decide +kernel⟩,
   ⟨(ask 0x14 2 (setF [(Fld.safeActiveActive, 8)] (dss (st3 .faulted (loaded 3 fw))))), 20, 3, by decide +kernel⟩,
   ⟨(ask 0x16 0 fw), 20, by decide +kernel⟩,
   ⟨(ask 0x16 1 fw), 20, .retain, by decide +kernel⟩,
   ⟨(ask 0x16 2 fw), 20, .off, by decide +kernel⟩,
   ⟨(ask 0x16 2 (slotIs 3 (fun s => { s with pend7 := some ⟨.off, none⟩ }) fw)), 20, .off, by decide +kernel⟩,
   ⟨((slotIs 2 (fun s => { s with st := .bound, gkind := 1, gmember := 0 }) (slotIs 3 (fun s => { s with gkind := 1, gmember := 1 }) (loaded 3 fw)))), 0x3E, by decide +kernel⟩,
   ⟨(setF [(Fld.slcCtlVfreqEn 3, 1)] (st3 .running live)), 3, 4, by decide +kernel⟩,
   ⟨((slotIs 2 (fun s => { s with st := .bound, gkind := 1, gmember := 0 }) (slotIs 3 (fun s => { s with gkind := 1, gmember := 1 }) (loaded 3 fw)))), 3, 1, by decide +kernel⟩⟩

end OfSlotRequests

/-! ### LoaderJobs -/

namespace OfLoaderJobs

def job (op kind mask sel src len : Nat) : List Byte := jobEntry op kind mask sel src len benchBase 0
def queued (e : List Byte) (d : Device) : Device := setF [(Fld.ldrJqStatusDepth, 1)] (bench (d.jqAddr 0 - benchBase) e d)
def jobIs (op stage : Nat) (ms : List (Fin 16)) (d : Device) : Device := { d with loader := { d.loader with job := some ⟨op, ms, job op 0 8 0 benchBase 4096, stage, none, 0, [], []⟩ } }
def load_ (op : Nat) (d : Device) : Device := taking 2 0x12 [(8, 1, op), (0xA, 2, 8), (0x10, 8, benchBase + 4096), (0x18, 4, 4096)] d

/-- A LOAD whose first pass is done, its source in Bench memory at offset 4,096, with an image header that says `n` bytes. -/
def again (n : Nat) (d : Device) : Device :=
  let h := List.replicate 24 0 ++ leBytes 4 n ++ List.replicate 228 0
  { d with loader := { d.loader with job := some ⟨1, [3], job 1 0 8 0 (benchBase + 4096) n, 1, none, 0, h, []⟩ } }

/-- The head job of the loader's queue. -/
def headJob (d : Device) : List Byte := ((d.jqRead d.loader.jqHead).1).getD []

/-- The slots that the head job names. -/
def headSlots (d : Device) : List (Fin 16) := allSlots.filter fun n => bitOf (leAt (headJob d) 2 2) n.val

/-- The device with the head job popped and in progress. -/
def popped (d : Device) : Device :=
  let i := d.loader.jqHead
  let r := (d.jqRead i).2
  let e := headJob d
  ({ r.jqPop with loader := { r.jqPop.loader with
      owners := r.jqPop.loader.owners.filter (fun o => o.1 != i), aborts := r.jqPop.loader.aborts.filter (fun a => a != i),
      job := some ⟨leAt e 0 1, headSlots d, e, 0, (d.loader.owners.find? (fun o => o.1 = i)).map (·.2), 0, [], []⟩ } } : Device).wr
        Reg.ldrStatus (leAt e 0 1 % 4 * 256 + ((headSlots d).headD 0).val * 16 + 1)

/-- A job waits, of operation `op`, and none is in progress or aborted. -/
abbrev JobWaits (d : Device) (op : Nat) : Prop :=
  d.por = false ∧ d.loader.job = none ∧ d.fld Fld.ldrJqStatusDepth ≠ 0 ∧
    (d.jqRead d.loader.jqHead).1 = some (headJob d) ∧ leAt (headJob d) 0 1 = op

/-- Every hypothesis of `Obligations.LoaderJobs` is met; `popped`, `headJob` and `headSlots` are what its equations name. -/
theorem witness_LoaderJobs :
    (∃ d : Device, ∃ k ∈ d.cmd 20, d.por = false ∧ d.fwRuns = true ∧ k.op = 0x12 ∧ k.stage = 0 ∧ k.f 8 1 = 1) ∧
    (∃ d : Device, ∃ k ∈ d.cmd 20, d.por = false ∧ d.fwRuns = true ∧ k.op = 0x12 ∧ k.stage = 0 ∧ k.f 8 1 = 2) ∧
    (∃ d : Device, ∃ k ∈ d.cmd 20, d.por = false ∧ d.fwRuns = true ∧ k.op = 0x12 ∧ k.stage = 0 ∧ k.f 8 1 = 3) ∧
    (∃ d : Device, d.por = false ∧ d.fld Fld.ldrJqStatusDepth = 15) ∧
    (∃ d : Device, d.por = false ∧ d.fld Fld.ldrJqStatusDepth = 16) ∧
    (∃ d : Device, d.por = false ∧ d.fld Fld.ldrJqStatusDepth = 0) ∧
    (∃ d : Device, d.por = false ∧ d.loader.job = none ∧ d.fld Fld.ldrJqStatusDepth ≠ 0 ∧ (d.jqRead d.loader.jqHead).1 = none) ∧
    (∃ d : Device, JobWaits d 1 ∧ d.loader.jqHead ∈ d.loader.aborts) ∧
    (∃ d : Device, JobWaits d 1 ∧ d.loader.jqHead ∉ d.loader.aborts ∧ ∃ n ∈ headSlots d, (popped d).loadTarget n = false) ∧
    (∃ d : Device, JobWaits d 1 ∧ d.loader.jqHead ∉ d.loader.aborts ∧ ∀ n ∈ headSlots d, (popped d).loadTarget n = true) ∧
    (∃ d : Device, JobWaits d 2 ∧ d.loader.jqHead ∉ d.loader.aborts ∧ headSlots d ≠ [] ∧
      ∀ n ∈ headSlots d, (((popped d).slot n).st = .loaded ∨ ((popped d).slot n).st = .held) ∧
        (popped d).pValid n ((popped d).act n) = true ∧ (popped d).swapPend n = false ∧ ((popped d).slot n).copying = none ∧ (popped d).jobWaits n = false) ∧
    (∃ d : Device, JobWaits d 3 ∧ d.loader.jqHead ∉ d.loader.aborts ∧ leAt (headJob d) 4 1 = 0 ∧
      bitOf ((popped d).pSec ((headSlots d).headD 0) ((popped d).act ((headSlots d).headD 0))) 0 = true) ∧
    (∃ d : Device, JobWaits d 3 ∧ d.loader.jqHead ∉ d.loader.aborts ∧ leAt (headJob d) 4 1 = 0 ∧
      bitOf ((popped d).pSec ((headSlots d).headD 0) ((popped d).act ((headSlots d).headD 0))) 0 = false ∧
      inBench (leAt (headJob d) 0x18 8) 468960 = true) ∧
    (∃ d : Device, ∃ j ∈ d.loader.job, d.por = false ∧ j.op = 1 ∧ j.stage = 1 ∧ (d.loadAgain j).1 ≠ 0) ∧
    (∃ d : Device, ∃ j ∈ d.loader.job, (d.srcRead (leAt j.entry 1 1) (leAt j.entry 8 8) (imgTotal (j.image.take 256))).1 = none) ∧
    (∃ d : Device, ∃ j ∈ d.loader.job, ∃ x ∈ (d.srcRead (leAt j.entry 1 1) (leAt j.entry 8 8) (imgTotal (j.image.take 256))).1, x.length = 64) ∧
    (∃ d : Device, ∃ j ∈ d.loader.job, d.por = false ∧ j.op = 3 ∧ j.stage = 2) ∧
    (∃ d : Device, ∃ j ∈ d.loader.job, d.por = false ∧ j.op = 2 ∧ j.stage = 2 ∧ j.members = [3]) ∧
    (∃ d : Device, d.por = false ∧ d.loader.job = none) :=
  ⟨⟨load_ 1 fw, by decide +kernel⟩, ⟨load_ 2 fw, by decide +kernel⟩, ⟨load_ 3 fw, by decide +kernel⟩,
   ⟨setF [(Fld.ldrJqStatusDepth, 15)] fw, by decide +kernel⟩, ⟨setF [(Fld.ldrJqStatusDepth, 16)] fw, by decide +kernel⟩,
   ⟨fw, by decide +kernel⟩, ⟨setF [(Fld.devReadyBench, 0)] (queued (job 1 0 8 0 (benchBase + 4096) 4096) fw), by decide +kernel⟩,
   ⟨(let d := queued (job 1 0 8 0 (benchBase + 4096) 4096) fw; { d with loader := { d.loader with aborts := [0] } }), by decide +kernel⟩,
   ⟨queued (job 1 0 8 0 (benchBase + 4096) 4096) fw, by decide +kernel⟩,
   ⟨queued (job 1 0 8 0 (benchBase + 4096) 4096) (slotIs 3 (fun s => { s with st := .bound }) fw), by decide +kernel⟩,
   ⟨queued (job 2 0 8 0 0 0) (loaded 3 fw), by decide +kernel⟩,
   ⟨queued (job 3 0 8 0 0 0) (cfgPut 3 7 1 384 1 1 (loaded 3 fw)), by decide +kernel⟩,
   ⟨queued (job 3 0 8 0 0 0) (loaded 3 fw), by decide +kernel⟩,
   ⟨again 64 fw, by decide +kernel⟩, ⟨again 64 (setF [(Fld.devReadyBench, 0)] fw), by decide +kernel⟩,
   ⟨again 64 fw, by decide +kernel⟩,
   ⟨jobIs 3 2 [3] (loaded 3 fw), by decide +kernel⟩,
   ⟨jobIs 2 2 [3] (loaded 3 fw), by decide +kernel⟩, ⟨fw, by decide +kernel⟩⟩

end OfLoaderJobs

/-! ### Swaps -/

namespace OfSwaps

def swap_ (mask mode turns : Nat) (d : Device) : Device := taking 2 0x13 [(8, 2, mask), (0xA, 1, mode), (0xC, 1, turns)] d
def armed (c : Option Nat) (d : Device) : Device := slotIs 3 (fun s => { s with swap := some ⟨false, false, 0, c⟩ }) d
def copying (c : Option Nat) (d : Device) : Device := slotIs 3 (fun s => { s with copying := some (true, c) }) d

theorem foldl_stays {α β : Type} (f : β → α → β) (b : β) (l : List α) (h : ∀ a ∈ l, f b a = b) : l.foldl f b = b := by
  induction l with
  | nil => rfl
  | cons a t ih => rw [List.foldl_cons, h a List.mem_cons_self]; exact ih fun x hx => h x (List.mem_cons_of_mem _ hx)

/-- Content frames lie where nothing written reads 0. -/
theorem content_range (n p b w : Nat) (hn : n < 16) (hp : p ≤ 1) (hb : b < 16) (hw : w < 576) :
    0x2000000 ≤ frameBase n p 3 b (4 + w / 8) ∧ frameBase n p 3 b (4 + w / 8) + 128 ≤ 2 ^ 40 := by
  unfold frameBase planeBase frameOffset
  simp only [regionInfo]
  omega

/-- With nothing written, the content frames of a plane copy without an uncorrectable word. -/
theorem blank_content (e : Device) (n : Fin 16) (he : e.mem = []) : (e.copyContent n).1 = false := by
  have hp : e.act n ≤ 1 := by unfold Device.act natOf; split <;> decide
  have key : ∀ d : Device, d.mem = [] → ∀ b < 16, ∀ w < 576,
      d.frameWord (frameBase n.val (e.act n) 3 b (4 + w / 8)) (w % 8) = 0 ∧
      d.frameCheck (frameBase n.val (e.act n) 3 b (4 + w / 8)) (w % 8) = 0 := by
    intro d hm b hb w hw
    obtain ⟨h1, h2⟩ := content_range n.val _ b w n.isLt hp hb hw
    refine ⟨blank_le d hm _ (by omega) (by omega), ?_⟩
    unfold Device.frameCheck
    rw [blank_byte d hm _ (by omega) (by omega)]; rfl
  have hz : eccDecode 0 0 = .clean := by decide +kernel
  have hv : eccData 0 0 = 0 := by decide +kernel
  rw [Device.copyContent]
  have hm : (e.clearMem (keyBm n.val 0) 0x20000).mem = [] := by show Sparse.clear e.mem _ _ = []; rw [he]; rfl
  generalize e.clearMem (keyBm n.val 0) 0x20000 = d at hm
  rw [foldl_stays]
  intro b hb
  refine foldl_stays _ _ _ fun w hw => ?_
  obtain ⟨h1, h2⟩ := key d hm b (List.mem_range.1 hb) w (List.mem_range.1 hw)
  simp only [h1, h2, hz, hv, if_true]

/-- Every hypothesis of `Obligations.Swaps` is met. -/
theorem witness_Swaps :
    (∃ (d : Device) (cid : Nat), ∃ k ∈ d.cmd cid, ∃ n ∈ (maskSlots (k.f 8 2)).head?, d.por = false ∧ d.fwRuns = true ∧ k.op = 19 ∧
      k.stage = 0 ∧ d.maskShape (k.f 8 2) = true ∧ d.swapCode n (k.f 10 1) (k.f 12 1) ≠ 0) ∧
    (∃ (d : Device) (cid : Nat), ∃ k ∈ d.cmd cid, ∃ n ∈ (maskSlots (k.f 8 2)).head?, d.por = false ∧ d.fwRuns = true ∧ k.op = 19 ∧
      k.stage = 0 ∧ d.maskShape (k.f 8 2) = true ∧ d.swapCode n (k.f 10 1) (k.f 12 1) = 0 ∧ d.swapPend n = true) ∧
    (∃ (d : Device) (cid : Nat), ∃ k ∈ d.cmd cid, ∃ n ∈ (maskSlots (k.f 8 2)).head?, d.por = false ∧ d.fwRuns = true ∧ k.op = 19 ∧
      k.stage = 0 ∧ d.maskShape (k.f 8 2) = true ∧ d.swapCode n (k.f 10 1) (k.f 12 1) = 0 ∧ d.swapPend n = false) ∧
    (∃ (d : Device) (cid : Nat), ∃ k ∈ d.cmd cid, d.por = false ∧ d.fwRuns = true ∧ k.op = 19 ∧ k.stage = 0 ∧
      d.maskShape (k.f 8 2) = false) ∧
    (∃ (d : Device) (v : Word) (n : Fin 16), d.por = false ∧ bitOf (BitVec.toNat v) 7 = false ∧ n.val = BitVec.toNat v % 16 ∧
      d.swapCode n (bitsOf (BitVec.toNat v) 4 2) (bitsOf (BitVec.toNat v) 8 8) ≠ 0) ∧
    (∃ (d : Device) (v : Word) (n : Fin 16), d.por = false ∧ bitOf (BitVec.toNat v) 7 = false ∧ n.val = BitVec.toNat v % 16 ∧
      d.swapCode n (bitsOf (BitVec.toNat v) 4 2) (bitsOf (BitVec.toNat v) 8 8) = 0 ∧ d.swapPend n = true) ∧
    (∃ (d : Device) (v : Word) (n : Fin 16), d.por = false ∧ bitOf (BitVec.toNat v) 7 = false ∧ n.val = BitVec.toNat v % 16 ∧
      d.swapCode n (bitsOf (BitVec.toNat v) 4 2) (bitsOf (BitVec.toNat v) 8 8) = 0 ∧ d.swapPend n = false) ∧
    (∃ (d : Device) (n : Fin 16), d.por = false ∧ (d.slot n).swap = none) ∧
    (∃ (d : Device) (n : Fin 16), ∃ w ∈ (d.slot n).swap, d.por = false) ∧
    (∃ (d : Device) (n : Fin 16) (v : Word), ∃ w ∈ (d.slot n).swap, d.por = false ∧ bitOf (BitVec.toNat v) 7 = true ∧
      n.val = BitVec.toNat v % 16) ∧
    (∃ (d : Device) (n : Fin 16), d.por = false ∧ (d.slot n).copying = some (true, none)) ∧
    (∃ (d : Device) (n : Fin 16), ∃ w0 : Bool × Option Nat, w0 ∈ (d.slot n).copying ∧ ∃ c ∈ w0.2, ∃ k ∈ d.cmd c, d.por = false ∧
      (d.slot n).copying = some (true, some c) ∧ (d.copyContent n).1 = false ∧ (∀ (m : Fin 16), m ≠ n →
      (d.slot m).copying ≠ some (true, some c))) ∧
    (∃ (d : Device) (n : Fin 16), d.por = false ∧ (d.slot n).copying = none) :=
  ⟨⟨(swap_ 8 0 0 fw), 20, by decide +kernel⟩,
   ⟨(swap_ 8 0 0 (armed none (twinned 3 (loaded 3 fw)))), 20, by decide +kernel⟩,
   ⟨(swap_ 8 0 0 (twinned 3 (loaded 3 fw))), 20, by decide +kernel⟩,
   ⟨(swap_ 12 0 0 fw), 20, by decide +kernel⟩,
   ⟨(swap_ 8 0 0 fw), 3, 3, by decide +kernel⟩,
   ⟨(swap_ 8 0 0 (armed none (twinned 3 (loaded 3 fw)))), 3, 3, by decide +kernel⟩,
   ⟨(swap_ 8 0 0 (twinned 3 (loaded 3 fw))), 3, 3, by decide +kernel⟩,
   ⟨(swap_ 8 0 0 fw), 3, by decide +kernel⟩,
   ⟨(swap_ 8 0 0 (armed none (twinned 3 (loaded 3 fw)))), 3, by decide +kernel⟩,
   ⟨(swap_ 8 0 0 (armed none (twinned 3 (loaded 3 fw)))), 3, 0x83, by decide +kernel⟩,
   ⟨(copying none (loaded 3 fw)), 3, by decide +kernel⟩,
   ⟨(copying (some 20) (swap_ 8 0 0 fw)), 3, (true, some 20), by decide +kernel, 20, by decide +kernel, _, Eq.refl _, by decide +kernel, by decide +kernel, blank_content _ _ rfl, by decide +kernel⟩,
   ⟨(swap_ 8 0 0 fw), 3, by decide +kernel⟩⟩

end OfSwaps

/-! ### PlanesScrubAndSweep -/

namespace OfPlanesScrubAndSweep

def upset (a : Nat) (v : Byte) (d : Device) : Device := d.setByte a (d.byte a ^^^ v)
def at_ (k : Nat) (d : Device) : Device := { d with loader := { d.loader with scrub := d.loader.scrub.set 3 ⟨false, k, 0⟩ } }
def sweeping (k : Nat) (d : Device) : Device := upset (planeBase 3 1) 5 (slotIs 3 (fun s => { s with st := .sweeping, sweepTry := k, mc := 5 }) d)
def run3 : Device := slotIs 3 (fun s => { s with st := .running }) (loaded 3 fw)
def good3 (d : Device) : Device := cfgPut 3 3 0 0 64 1 (cfgPut 3 5 0 0 16 0x8404 d)

/-- Every hypothesis of `Obligations.PlanesScrubAndSweep` is met. -/
theorem witness_PlanesScrubAndSweep :
    (∃ (d : Device) (off : BitVec 22), ∃ x ∈ frameOfOffset off.toNat, d.por = false ∧ x.2.2.2 < 72 ∧ (∀ (m : Fin 16),
      (d.slot m).due = DueOps.reset)) ∧
    (∃ (d : Device) (off : BitVec 22), d.por = false ∧ frameOfOffset off.toNat = none) ∧
    (∃ (d : Device) (n : Fin 16) (f : Device → Device), (∀ (b : Fin 16), d.flushEdges.readAhead.bmActive n b.val = true ∨
      (f d.flushEdges.readAhead).bmActive n b.val = false)) ∧
    (∃ (d : Device) (n : Fin 16) (b : Fin 16) (f : Device → Device), d.flushEdges.readAhead.bmActive n b.val = false ∧
      (f d.flushEdges.readAhead).bmActive n b.val = true) ∧
    (∃ (d : Device), d.por = false) ∧
    (∃ (d : Device) (n : Fin 16), ∃ x ∈ presentFrames[(d.scrubPos n).frame]?, (d.slot n).power = SlotPower.on ∧
      (d.scrubPos n).inactive = false ∧ (d.scrubPos n).word < 7 ∧
      eccDecode (d.frameWord (frameBase n.val (d.act n) x.1 x.2.1 x.2.2) (d.scrubPos n).word) (d.frameCheck (frameBase n.val (d.act n) x.1 x.2.1 x.2.2) (d.scrubPos n).word) = Ecc.clean) ∧
    (∃ (d : Device) (n : Fin 16) (u : Nat), ∃ x ∈ presentFrames[(d.scrubPos n).frame]?, (d.slot n).power = SlotPower.on ∧
      (d.scrubPos n).inactive = false ∧ (d.scrubPos n).word < 7 ∧
      eccDecode (d.frameWord (frameBase n.val (d.act n) x.1 x.2.1 x.2.2) (d.scrubPos n).word) (d.frameCheck (frameBase n.val (d.act n) x.1 x.2.1 x.2.2) (d.scrubPos n).word) = Ecc.corrected u) ∧
    (∃ (d : Device) (n : Fin 16), ∃ x ∈ presentFrames[(d.scrubPos n).frame]?, (d.slot n).power = SlotPower.on ∧
      (d.scrubPos n).inactive = false ∧ (d.scrubPos n).word < 7 ∧
      eccDecode (d.frameWord (frameBase n.val (d.act n) x.1 x.2.1 x.2.2) (d.scrubPos n).word) (d.frameCheck (frameBase n.val (d.act n) x.1 x.2.1 x.2.2) (d.scrubPos n).word) = Ecc.uncorrectable ∧
      d.twinOk n x = true) ∧
    (∃ (d : Device) (n : Fin 16), ∃ x ∈ presentFrames[(d.scrubPos n).frame]?, (d.slot n).power = SlotPower.on ∧
      (d.scrubPos n).inactive = false ∧ (d.scrubPos n).word < 7 ∧
      eccDecode (d.frameWord (frameBase n.val (d.act n) x.1 x.2.1 x.2.2) (d.scrubPos n).word) (d.frameCheck (frameBase n.val (d.act n) x.1 x.2.1 x.2.2) (d.scrubPos n).word) = Ecc.uncorrectable ∧
      d.twinOk n x = false ∧ x.1 = 3 ∧ 4 ≤ x.2.2) ∧
    (∃ (d : Device) (n : Fin 16), ∃ x ∈ presentFrames[(d.scrubPos n).frame]?, (d.slot n).power = SlotPower.on ∧
      (d.scrubPos n).inactive = false ∧ (d.scrubPos n).word < 7 ∧
      eccDecode (d.frameWord (frameBase n.val (d.act n) x.1 x.2.1 x.2.2) (d.scrubPos n).word) (d.frameCheck (frameBase n.val (d.act n) x.1 x.2.1 x.2.2) (d.scrubPos n).word) = Ecc.uncorrectable ∧
      d.twinOk n x = false ∧ ¬(x.1 = 3 ∧ 4 ≤ x.2.2)) ∧
    (∃ (d : Device) (n : Fin 16), (d.slot n).power ≠ SlotPower.on) ∧
    (∃ (d : Device) (n : Fin 16), d.por = false ∧ (d.slot n).st = SlotState.sweeping ∧ (d.slot n).power = SlotPower.on ∧
      d.captureReading n = false ∧ (d.slot n).sweepCmd = none) ∧
    (∃ (d : Device) (n : Fin 16), d.por = false ∧ (d.slot n).st = SlotState.sweeping ∧ (d.slot n).power = SlotPower.on ∧
      d.captureReading n = false ∧ (d.slot n).sweepTry = 0) ∧
    (∃ (d : Device) (n : Fin 16), d.por = false ∧ (d.slot n).st = SlotState.sweeping ∧ (d.slot n).power = SlotPower.on ∧
      d.captureReading n = false ∧ (d.slot n).sweepTry ≠ 0 ∧ (d.slot n).sweepCmd = none) ∧
    (∃ (d : Device) (n : Fin 16), d.por = false ∧ ((d.slot n).st ≠ SlotState.sweeping ∨ (d.slot n).power ≠ SlotPower.on ∨
      d.captureReading n = true)) :=
  ⟨⟨run3, 0, by decide +kernel⟩,
   ⟨run3, 0x3FFFFF, by decide +kernel⟩,
   ⟨run3, 3, id, by decide +kernel⟩,
   ⟨run3, 3, 0, good3, by decide +kernel⟩,
   ⟨run3, by decide +kernel⟩,
   ⟨run3, 3, by decide +kernel⟩,
   ⟨(upset (frameBase 3 0 0 0 0) 1 run3), 3, 0, by decide +kernel⟩,
   ⟨(upset (frameBase 3 0 0 0 0) 3 (twinned 3 run3)), 3, by decide +kernel⟩,
   ⟨(at_ 4636 (upset (frameBase 3 0 3 0 4) 3 run3)), 3, by decide +kernel⟩,
   ⟨(upset (frameBase 3 0 0 0 0) 3 run3), 3, by decide +kernel⟩,
   ⟨(slotIs 3 (fun s => { s with power := .off }) run3), 3, by decide +kernel⟩,
   ⟨(sweeping 0 live), 3, by decide +kernel⟩,
   ⟨(sweeping 0 live), 3, by decide +kernel⟩,
   ⟨(sweeping 1 live), 3, by decide +kernel⟩,
   ⟨run3, 3, by decide +kernel⟩⟩

end OfPlanesScrubAndSweep

/-! ### CapturesAndRestores -/

namespace OfCapturesAndRestores

def run3 : Device := slotIs 3 (fun s => { s with st := .running }) (loaded 3 fw)
def capt (mask opt len : Nat) (d : Device) : Device := taking 0 0x20 [(8, 2, mask), (0xA, 1, opt), (0x10, 8, benchBase), (0x18, 4, len)] d
def rest (mask len turn : Nat) (d : Device) : Device := taking 0 0x21 [(8, 2, mask), (0x10, 8, benchBase), (0x18, 4, len), (0x20, 8,
    turn)] d
def held3 : Device := slotIs 3 (fun s => { s with st := .held }) (loaded 3 fw)
def writing : Device := { held3 with scribe := { held3.scribe with restores := [⟨20, [3], (List.replicate 9000 7), 0, 1⟩] } }
def reading : Device := { held3 with scribe := { held3.scribe with captures := [⟨20, [3], 0, benchBase, 90000, 2, 5, 6, [5], List.replicate 16 0, [0], []⟩] } }
def waits20 (d : Device) : Device := { d with scribe := { d.scribe with captures := [⟨21, [3], 0, benchBase, 90000, 1, 5, 6, [5], [], [0], []⟩] } }

/-- Every hypothesis of `Obligations.CapturesAndRestores` is met. -/
theorem witness_CapturesAndRestores :
    (∃ (d : Device) (cid : Nat), ∃ k ∈ d.cmd cid, d.por = false ∧ d.fwRuns = true ∧ k.op = 32 ∧ k.stage = 0 ∧
      d.maskShape (k.f 8 2) = false) ∧
    (∃ (d : Device) (cid : Nat), ∃ k ∈ d.cmd cid, d.por = false ∧ d.fwRuns = true ∧ k.op = 32 ∧ k.stage = 0 ∧
      d.maskShape (k.f 8 2) = true ∧ (k.f 16 8 % 64 ≠ 0 ∨ inBench (k.f 16 8) (k.f 24 4) = false ∨
      k.f 24 4 < 8528 + 75360 * (maskSlots (k.f 8 2)).length)) ∧
    (∃ (d : Device) (cid : Nat), ∃ k ∈ d.cmd cid, d.por = false ∧ d.fwRuns = true ∧ k.op = 32 ∧ k.stage = 0 ∧
      d.maskShape (k.f 8 2) = true ∧ k.f 16 8 % 64 = 0 ∧ inBench (k.f 16 8) (k.f 24 4) = true ∧
      8528 + 75360 * (maskSlots (k.f 8 2)).length ≤ k.f 24 4 ∧ d.captureCode (maskSlots (k.f 8 2)) cid ≠ 0) ∧
    (∃ (d : Device) (cid : Nat), ∃ k ∈ d.cmd cid, d.por = false ∧ d.fwRuns = true ∧ k.op = 32 ∧ k.stage = 0 ∧
      d.maskShape (k.f 8 2) = true ∧ k.f 16 8 % 64 = 0 ∧ inBench (k.f 16 8) (k.f 24 4) = true ∧
      8528 + 75360 * (maskSlots (k.f 8 2)).length ≤ k.f 24 4 ∧ d.captureCode (maskSlots (k.f 8 2)) cid = 0 ∧
      (bitOf (k.f 10 1) 1 = false ∨ ∀ n ∈ maskSlots (k.f 8 2), (d.slot n).pend5 = none ∧ d.resumeHolds n = false)) ∧
    (∃ (d : Device), d.lockBit 5 = true) ∧
    (∃ (d : Device) (ms : List (Fin 16)) (n : Fin 16) (own : Nat) (c : CaptureJob), d.lockBit 5 = false ∧ (∀ m ∈ ms,
      bitOf (d.pSec m.val (d.act m)) 1 = false) ∧ c ∈ d.scribe.captures ∧ c.cid ≠ own ∧ c.stage ≠ 2 ∧ n ∈ ms ∧ n ∈ c.members) ∧
    (∃ (d : Device) (n : Fin 16), d.lockBit 5 = false ∧ bitOf (d.pSec n.val (d.act n)) 1 = false ∧ d.scribe.captures = [] ∧
      (d.slot n).st = SlotState.faulted) ∧
    (∃ (d : Device) (cid : Nat),
      ∃ c ∈ List.find? (fun c => decide (c.cid = cid) && decide (c.stage = 2)) d.endStopped.scribe.captures, d.por = false ∧
      d.endStopped.sealed (c.members.headD 0) = false) ∧
    (∃ (d : Device) (cid : Nat), d.por = false ∧
      List.find? (fun c => decide (c.cid = cid) && decide (c.stage = 2)) d.endStopped.scribe.captures = none) ∧
    (∃ (d : Device) (cid : Nat), ∃ k ∈ d.cmd cid, d.por = false ∧ d.fwRuns = true ∧ k.op = 33 ∧ k.stage = 0 ∧
      d.maskShape (k.f 8 2) = false) ∧
    (∃ (d : Device) (cid : Nat), ∃ k ∈ d.cmd cid, d.por = false ∧ d.fwRuns = true ∧ k.op = 33 ∧ k.stage = 0 ∧
      d.maskShape (k.f 8 2) = true ∧ (∃ n ∈ maskSlots (k.f 8 2), (d.slot n).st = SlotState.running)) ∧
    (∃ (d : Device) (cid : Nat), ∃ k ∈ d.cmd cid, d.por = false ∧ d.fwRuns = true ∧ k.op = 33 ∧ k.stage = 0 ∧
      d.maskShape (k.f 8 2) = true ∧ (∀ n ∈ maskSlots (k.f 8 2), ((d.slot n).st = SlotState.loaded ∨ (d.slot n).st = SlotState.held) ∧
      (d.slot n).power = SlotPower.on ∧ d.capturing n = false) ∧ (∃ n ∈ maskSlots (k.f 8 2), d.restoring n = true)) ∧
    (∃ (d : Device) (cid : Nat), ∃ k ∈ d.cmd cid, d.por = false ∧ d.fwRuns = true ∧ k.op = 33 ∧ k.stage = 0 ∧
      d.maskShape (k.f 8 2) = true ∧ (∀ n ∈ maskSlots (k.f 8 2), ((d.slot n).st = SlotState.loaded ∨ (d.slot n).st = SlotState.held) ∧
      (d.slot n).power = SlotPower.on ∧ d.capturing n = false ∧ d.restoring n = false) ∧ k.f 32 8 ≠ 0 ∧ k.f 32 8 ≤ d.turnCount) ∧
    (∃ (d : Device) (cid : Nat), ∃ k ∈ d.cmd cid, ∃ rec ∈ (d.benchRead (k.f 16 8 - benchBase) (min (k.f 24 4) (recordLen 4))).1,
      d.por = false ∧ d.fwRuns = true ∧ k.op = 33 ∧ k.stage = 0 ∧ d.maskShape (k.f 8 2) = true ∧ (∀ n ∈ maskSlots (k.f 8 2),
      ((d.slot n).st = SlotState.loaded ∨ (d.slot n).st = SlotState.held) ∧ (d.slot n).power = SlotPower.on ∧ d.capturing n = false ∧
      d.restoring n = false) ∧ (k.f 32 8 = 0 ∨ d.turnCount < k.f 32 8) ∧ 128 ≤ k.f 24 4 ∧
      (d.benchRead (k.f 16 8 - benchBase) (min (k.f 24 4) (recordLen 4))).1 = some rec) ∧
    (∃ (d : Device) (cid : Nat), ∃ r ∈ List.find? (fun r => decide (r.cid = cid) && decide (r.stage = 1)) d.scribe.restores,
      ∃ n ∈ r.members.head?, d.por = false ∧ ((d.slot n).st = SlotState.loaded ∨ (d.slot n).st = SlotState.held) ∧
      (d.slot n).power = SlotPower.on ∧ (r.relTurn = 0 ∨ d.turnCount < r.relTurn) ∧ (∀ (o : Fin 16), (d.slot o).chan.stage ≠ 5)) ∧
    (∃ (d : Device) (cid : Nat), ∃ r ∈ List.find? (fun r => decide (r.cid = cid) && decide (r.stage = 1)) d.scribe.restores,
      ∃ n ∈ r.members.head?, d.por = false ∧ ((d.slot n).st = SlotState.loaded ∨ (d.slot n).st = SlotState.held) ∧
      (d.slot n).power = SlotPower.on ∧ r.relTurn ≠ 0 ∧ r.relTurn ≤ d.turnCount ∧ (∀ (o : Fin 16), (d.slot o).chan.stage ≠ 5)) ∧
    (∃ (d : Device) (cid : Nat), d.por = false ∧
      List.find? (fun r => decide (r.cid = cid) && decide (r.stage = 1)) d.scribe.restores = none) ∧
    (∃ (d : Device), d.por = false) ∧
    (∃ (d : Device) (n : Fin 16), (∀ (o : Fin 16), o ≠ n → (d.slot o).chan.stage ≠ 5) ∧ (d.slot n).chan.stage = 5) :=
  ⟨⟨(capt 12 0 90000 run3), 20, by decide +kernel⟩,
   ⟨(capt 8 0 9000 run3), 20, by decide +kernel⟩,
   ⟨(capt 8 0 90000 fw), 20, by decide +kernel⟩,
   ⟨(capt 8 0 90000 run3), 20, by decide +kernel⟩,
   ⟨(setF [(Fld.secLocksInForce, 32)] fw), by decide +kernel⟩,
   ⟨(waits20 held3), [3], 3, 20, (⟨21, [3], 0, benchBase, 90000, 1, 5, 6, [5], [], [0], []⟩), by decide +kernel⟩,
   ⟨(slotIs 3 (fun s => { s with st := .faulted }) fw), 3, by decide +kernel⟩,
   ⟨reading, 20, by decide +kernel⟩,
   ⟨(capt 12 0 90000 run3), 20, by decide +kernel⟩,
   ⟨(rest 12 90000 0 held3), 20, by decide +kernel⟩,
   ⟨(rest 8 90000 0 run3), 20, by decide +kernel⟩,
   ⟨((let d := rest 8 90000 0 held3; { d with scribe := writing.scribe })), 20, by decide +kernel⟩,
   ⟨(up [(Reg.turnCountLo, 8)] (rest 8 90000 5 held3)), 20, by decide +kernel⟩,
   ⟨(rest 8 128 0 held3), 20, by decide +kernel⟩,
   ⟨writing, 20, by decide +kernel⟩,
   ⟨(up [(Reg.turnCountLo, 8)] (let d := writing; { d with scribe := { d.scribe with restores := d.scribe.restores.map fun r => { r with relTurn := 5 } } })), 20, by decide +kernel⟩,
   ⟨(capt 12 0 90000 run3), 20, by decide +kernel⟩,
   ⟨(capt 12 0 90000 run3), by decide +kernel⟩,
   ⟨(slotIs 3 (fun s => { s with chan := { s.chan with stage := 5, data := [1, 2] } }) fw), 3, by decide +kernel⟩⟩

end OfCapturesAndRestores

/-! ### ScribeTriggers -/

namespace OfScribeTriggers

def ringed (d : Device) : Device := setF [(Fld.ringCtlEn, 1)] d

/-- Every hypothesis of `Obligations.ScribeTriggers` is met. -/
theorem witness_ScribeTriggers :
    (∃ (d : Device), d.por = false ∧ d.scribe.lastTrig ≠ some d.now ∧ d.flag Fld.scribeCtlMode = false) ∧
    (∃ (d : Device), d.por = false ∧ d.scribe.lastTrig ≠ some d.now ∧ d.flag Fld.scribeCtlMode = true ∧
      d.flag Fld.scribeCtlRingOutEn = false ∧ d.flag Fld.scribeStatusPendAligned = false) ∧
    (∃ (d : Device), d.por = false ∧ d.scribe.lastTrig = some d.now) ∧
    (∃ (d : Device), d.por = false ∧ d.flag Fld.scribeCtlIoInEn = true ∧ d.scribe.deafTill ≤ d.now ∧
      d.scribe.lastTrig ≠ some d.now ∧ d.flag Fld.scribeCtlMode = false) ∧
    (∃ (d : Device), d.por = false ∧ (d.flag Fld.scribeCtlIoInEn = false ∨ d.now < d.scribe.deafTill)) ∧
    (∃ (d : Device), ∃ t ∈ d.scribe.immDue.head?, d.por = false ∧ d.flag Fld.scribeStatusUnread = false) ∧
    (∃ (d : Device), ∃ t ∈ d.scribe.immDue.head?, d.por = false ∧ d.flag Fld.scribeStatusUnread = true) ∧
    (∃ (d : Device), d.por = false ∧ d.scribe.immDue = []) ∧
    (∃ (d : Device), d.por = false) ∧
    (∃ (d : Device) (src : Fin 16) (seq : BitVec 8) (al : Bool) (tick : BitVec 64) (chk : BitVec 8), d.por = false ∧
      d.ringOn = true ∧ chk8 (triggerBytes src.val seq.toNat al tick.toNat) ≠ chk.toNat) ∧
    (∃ (d : Device) (src : Fin 16) (seq : BitVec 8) (al : Bool) (tick : BitVec 64) (chk : BitVec 8), d.por = false ∧
      d.ringOn = true ∧ chk8 (triggerBytes src.val seq.toNat al tick.toNat) = chk.toNat ∧ src.val = d.ringAddr) ∧
    (∃ (d : Device) (src : Fin 16) (seq : BitVec 8) (al : Bool) (tick : BitVec 64) (chk : BitVec 8), d.por = false ∧
      d.ringOn = true ∧ chk8 (triggerBytes src.val seq.toNat al tick.toNat) = chk.toNat ∧ src.val ≠ d.ringAddr ∧ (src.val,
      seq.toNat) ∈ d.ring.seen) ∧
    (∃ (d : Device) (src : Fin 16) (seq : BitVec 8) (al : Bool) (tick : BitVec 64) (chk : BitVec 8), d.por = false ∧
      d.ringOn = true ∧ chk8 (triggerBytes src.val seq.toNat al tick.toNat) = chk.toNat ∧ src.val ≠ d.ringAddr ∧ (src.val,
      seq.toNat) ∉ d.ring.seen ∧ d.flag Fld.scribeCtlRingInEn = false) ∧
    (∃ (d : Device) (src : Fin 16) (seq : BitVec 8) (tick : BitVec 64) (chk : BitVec 8), d.por = false ∧ d.ringOn = true ∧
      chk8 (triggerBytes src.val seq.toNat false tick.toNat) = chk.toNat ∧ src.val ≠ d.ringAddr ∧ (src.val, seq.toNat) ∉ d.ring.seen ∧
      d.flag Fld.scribeCtlRingInEn = true) ∧
    (∃ (d : Device) (src : Fin 16) (seq : BitVec 8) (tick : BitVec 64) (chk : BitVec 8), d.por = false ∧ d.ringOn = true ∧
      chk8 (triggerBytes src.val seq.toNat true tick.toNat) = chk.toNat ∧ src.val ≠ d.ringAddr ∧ (src.val, seq.toNat) ∉ d.ring.seen ∧
      d.flag Fld.scribeCtlRingInEn = true ∧ d.flag Fld.turnCtlAdopt = true ∧ d.turnCount < tick.toNat) ∧
    (∃ (d : Device) (src : Fin 16) (seq : BitVec 8) (tick : BitVec 64) (chk : BitVec 8), d.por = false ∧ d.ringOn = true ∧
      chk8 (triggerBytes src.val seq.toNat true tick.toNat) = chk.toNat ∧ src.val ≠ d.ringAddr ∧ (src.val, seq.toNat) ∉ d.ring.seen ∧
      d.flag Fld.scribeCtlRingInEn = true ∧ d.flag Fld.turnCtlAdopt = true ∧ tick.toNat ≤ d.turnCount) ∧
    (∃ (d : Device), d.por = false ∧ d.ringOn = false) :=
  ⟨⟨((ringed live)), by decide +kernel⟩,
   ⟨(setF [(Fld.scribeCtlMode, 1)] live), by decide +kernel⟩,
   ⟨({ live with scribe := { live.scribe with lastTrig := some 0 } }), by decide +kernel⟩,
   ⟨(setF [(Fld.scribeCtlIoInEn, 1)] live), by decide +kernel⟩,
   ⟨((ringed live)), by decide +kernel⟩,
   ⟨({ live with scribe := { live.scribe with immDue := [0, 0, 5] } }), by decide +kernel⟩,
   ⟨(setF [(Fld.scribeStatusUnread, 1)] { live with scribe := { live.scribe with immDue := [0] } }), by decide +kernel⟩,
   ⟨((ringed live)), by decide +kernel⟩,
   ⟨((ringed live)), by decide +kernel⟩,
   ⟨((ringed live)), 3, 0, false, 0, 0, by decide +kernel⟩,
   ⟨(setF [(Fld.ringCtlAddr, 3)] (ringed live)), 3, 1, false, 0, (BitVec.ofNat 8 (chk8 (triggerBytes 3 1 false 0))), by decide +kernel⟩,
   ⟨({ (ringed live) with ring := { live.ring with seen := [(3, 1)] } }), 3, 1, false, 0, (BitVec.ofNat 8 (chk8 (triggerBytes 3 1 false 0))), by decide +kernel⟩,
   ⟨((ringed live)), 3, 1, false, 0, (BitVec.ofNat 8 (chk8 (triggerBytes 3 1 false 0))), by decide +kernel⟩,
   ⟨(setF [(Fld.scribeCtlRingInEn, 1)] (ringed live)), 3, 1, 0, (BitVec.ofNat 8 (chk8 (triggerBytes 3 1 false 0))), by decide +kernel⟩,
   ⟨(setF [(Fld.scribeCtlRingInEn, 1), (Fld.turnCtlAdopt, 1)] (ringed live)), 3, 1, 7, (BitVec.ofNat 8 (chk8 (triggerBytes 3 1 false 0))), by decide +kernel⟩,
   ⟨(setF [(Fld.scribeCtlRingInEn, 1), (Fld.turnCtlAdopt, 1)] (ringed live)), 3, 1, 0, (BitVec.ofNat 8 (chk8 (triggerBytes 3 1 true 0))), by decide +kernel⟩,
   ⟨(setF [(Fld.scribeCtlIoInEn, 1)] live), by decide +kernel⟩⟩

end OfScribeTriggers

/-! ### ResidentStoreCommands -/

namespace OfResidentStoreCommands

def prog (off len : Nat) (d : Device) : Device := taking 2 0x30 [(8, 4, off), (0x10, 8, benchBase), (0x18, 4, len)] d
def erase (s n : Nat) (d : Device) : Device := taking 2 0x31 [(8, 2, s), (0xA, 2, n)] d
def busy (d : Device) : Device := { d with resident := { d.resident with job := some ⟨2, false, 300, [], 0⟩ } }
def verify (off len : Nat) (d : Device) : Device := taking 2 0x32 [(8, 4, off), (0x10, 8, benchBase), (0x18, 4, len)] d
def fws : Device := setF [(Fld.grnStatusDReady, 1)] { fw with hwd := { fw.hwd with copyLen := 4096 } }

/-- Every hypothesis of `Obligations.ResidentStoreCommands` is met. -/
theorem witness_ResidentStoreCommands :
    (∃ (d : Device) (cid : Nat), ∃ k ∈ d.cmd cid, d.por = false ∧ d.fwRuns = true ∧ k.op = 48 ∧ k.stage = 0 ∧
      d.selfProtected (sectorSpan (k.f 8 4) (k.f 24 4)).1 (sectorSpan (k.f 8 4) (k.f 24 4)).2 = true) ∧
    (∃ (d : Device) (cid : Nat), ∃ k ∈ d.cmd cid, d.por = false ∧ d.fwRuns = true ∧ k.op = 49 ∧ k.stage = 0 ∧
      d.selfProtected (k.f 8 2) (k.f 10 2) = true) ∧
    (∃ (d : Device) (cid : Nat), ∃ k ∈ d.cmd cid, d.por = false ∧ d.fwRuns = true ∧ k.op = 48 ∧ k.stage = 0 ∧
      d.selfProtected (sectorSpan (k.f 8 4) (k.f 24 4)).1 (sectorSpan (k.f 8 4) (k.f 24 4)).2 = false ∧ d.resBusy = true) ∧
    (∃ (d : Device) (cid : Nat), ∃ k ∈ d.cmd cid, d.por = false ∧ d.fwRuns = true ∧ k.op = 49 ∧ k.stage = 0 ∧
      d.selfProtected (k.f 8 2) (k.f 10 2) = false ∧ d.resBusy = true) ∧
    (∃ (d : Device) (cid : Nat), ∃ k ∈ d.cmd cid, d.por = false ∧ d.fwRuns = true ∧ k.op = 48 ∧ k.stage = 0 ∧ k.f 24 4 = 0 ∧
      k.prog = 0 ∧ d.resBusy = false) ∧
    (∃ (d : Device) (cid : Nat), ∃ k ∈ d.cmd cid, d.por = false ∧ d.fwRuns = true ∧ k.op = 49 ∧ k.stage = 0 ∧ k.f 10 2 = 0 ∧
      k.prog = 0 ∧ d.resBusy = false) ∧
    (∃ (d : Device) (cid : Nat), ∃ k ∈ d.cmd cid, d.por = false ∧ d.fwRuns = true ∧ k.op = 48 ∧ k.stage = 0 ∧ k.prog = 0 ∧
      k.f 24 4 ≠ 0 ∧ d.selfProtected (sectorSpan (k.f 8 4) (k.f 24 4)).1 (sectorSpan (k.f 8 4) (k.f 24 4)).2 = false ∧
      d.resBusy = false ∧ (d.fwRead (k.f 16 8) (min (256 - k.f 8 4 % 256) (k.f 24 4))).1.code = 0 ∧
      ((d.fwRead (k.f 16 8) (min (256 - k.f 8 4 % 256) (k.f 24 4))).2.fwProgramPage (k.f 8 4 / 256) (pageImage (k.f 8 4 % 256) (d.fwRead (k.f 16 8) (min (256 - k.f 8 4 % 256) (k.f 24 4))).1.data)).2.1.code = 0) ∧
    (∃ (d : Device) (cid : Nat), ∃ k ∈ d.cmd cid, d.por = false ∧ d.fwRuns = true ∧ k.op = 49 ∧ k.stage = 0 ∧ k.prog = 0 ∧
      k.f 10 2 ≠ 0 ∧ d.selfProtected (k.f 8 2) (k.f 10 2) = false ∧ d.resBusy = false) ∧
    (∃ (d : Device) (cid : Nat), ∃ k ∈ d.cmd cid, d.por = false ∧ d.fwRuns = true ∧ k.op = 50 ∧ k.stage = 0 ∧
      (d.fwRead (k.f 8 4) (k.f 24 4)).1.code = 0 ∧ ((d.fwRead (k.f 8 4) (k.f 24 4)).2.fwRead (k.f 16 8) (k.f 24 4)).1.code = 0 ∧
      (d.fwRead (k.f 8 4) (k.f 24 4)).1.data = ((d.fwRead (k.f 8 4) (k.f 24 4)).2.fwRead (k.f 16 8) (k.f 24 4)).1.data) ∧
    (∃ (d : Device) (cid : Nat) (i : Nat), ∃ k ∈ d.cmd cid, d.por = false ∧ d.fwRuns = true ∧ k.op = 50 ∧ k.stage = 0 ∧
      (d.fwRead (k.f 8 4) (k.f 24 4)).1.code = 0 ∧ ((d.fwRead (k.f 8 4) (k.f 24 4)).2.fwRead (k.f 16 8) (k.f 24 4)).1.code = 0 ∧
      i < (d.fwRead (k.f 8 4) (k.f 24 4)).1.data.length ∧
      (d.fwRead (k.f 8 4) (k.f 24 4)).1.data[i]? ≠ ((d.fwRead (k.f 8 4) (k.f 24 4)).2.fwRead (k.f 16 8) (k.f 24 4)).1.data[i]? ∧
      (∀ j < i,
      (d.fwRead (k.f 8 4) (k.f 24 4)).1.data[j]? = ((d.fwRead (k.f 8 4) (k.f 24 4)).2.fwRead (k.f 16 8) (k.f 24 4)).1.data[j]?)) ∧
    (∃ (d : Device) (cid : Nat), ∃ k ∈ d.cmd cid, d.por = false ∧ d.fwRuns = true ∧ k.op = 113 ∧ k.stage = 0 ∧
      (d.readCopy (k.f 16 8) (k.f 24 4)).1.code = 0) ∧
    (∃ (d : Device) (bs : List Byte), leAt bs 8 4 < d.rollback) ∧
    (∃ (bs : List Byte), List.take 4 bs ≠ ascii "GDNF") :=
  ⟨⟨(prog 0 64 fws), 20, by decide +kernel⟩,
   ⟨(erase 0 1 fws), 20, by decide +kernel⟩,
   ⟨(prog 0x1F00040 64 (busy fws)), 20, by decide +kernel⟩,
   ⟨(erase 300 1 (busy fws)), 20, by decide +kernel⟩,
   ⟨(prog 0 0 fws), 20, by decide +kernel⟩,
   ⟨(erase 0 0 fws), 20, by decide +kernel⟩,
   ⟨(prog 0x1F00040 64 fws), 20, by decide +kernel⟩,
   ⟨(erase 300 1 fws), 20, by decide +kernel⟩,
   ⟨(verify 0x1F00000 16 (bench 0 (List.replicate 16 0xFF) fws)), 20, by decide +kernel⟩,
   ⟨(verify 0x1F00000 16 (bench 0 (List.replicate 3 0xFF) fws)), 20, 3, by decide +kernel⟩,
   ⟨(taking 2 0x71 [(0x10, 8, benchBase), (0x18, 4, 1024)] fws), 20, by decide +kernel⟩,
   ⟨(((setF [(Fld.grnStatusDReady, 1)] fw).recordWrite 0x0001 [5, 0, 0, 0]).2), [1], by decide +kernel⟩,
   ⟨[1], by decide +kernel⟩⟩

end OfResidentStoreCommands

/-! ### GrainCommands -/

namespace OfGrainCommands

def recw (key len : Nat) (d : Device) : Device := taking 2 0x40 [(8, 2, key), (0xA, 1, len), (0xC, 4, 0x01020304)] d
def recr (key : Nat) (d : Device) : Device := taking 2 0x41 [(8, 2, key), (0x10, 8, benchBase)] d
def store_ (d : Device) : Device := taking 2 0x42 [] d
def ready (d : Device) : Device := setF [(Fld.grnStatusDReady, 1)] d

/-- Every hypothesis of `Obligations.GrainCommands` is met. -/
theorem witness_GrainCommands :
    (∃ (d : Device) (cid : Nat), ∃ k ∈ d.cmd cid, d.por = false ∧ d.fwRuns = true ∧ k.op = 64 ∧ k.stage = 0 ∧ k.f 8 2 < 4096) ∧
    (∃ (d : Device) (cid : Nat), ∃ k ∈ d.cmd cid, d.por = false ∧ d.fwRuns = true ∧ k.op = 64 ∧ k.stage = 0 ∧ 4096 ≤ k.f 8 2) ∧
    (∃ (d : Device) (cid : Nat), ∃ k ∈ d.cmd cid, d.por = false ∧ d.fwRuns = true ∧ k.op = 65 ∧ k.stage = 0 ∧ k.f 8 2 < 4096) ∧
    (∃ (d : Device) (cid : Nat), ∃ k ∈ d.cmd cid, d.por = false ∧ d.fwRuns = true ∧ k.op = 65 ∧ k.stage = 0 ∧ 4096 ≤ k.f 8 2) ∧
    (∃ (d : Device) (cid : Nat), ∃ k ∈ d.cmd cid, d.por = false ∧ d.fwRuns = true ∧ k.op = 66 ∧ k.stage = 0 ∧ d.grain.store ≠ none) ∧
    (∃ (d : Device) (cid : Nat), ∃ k ∈ d.cmd cid, d.por = false ∧ d.fwRuns = true ∧ k.op = 66 ∧ k.stage = 0 ∧ d.grain.store = none ∧
      d.flag Fld.grnStatusArmed = false) ∧
    (∃ (d : Device) (cid : Nat), ∃ k ∈ d.cmd cid, ∃ b ∈ d.newestBank, d.por = false ∧ d.fwRuns = true ∧ k.op = 66 ∧ k.stage = 0 ∧
      d.grain.store = none ∧ d.flag Fld.grnStatusArmed = true) ∧
    (∃ (d : Device) (cid : Nat), ∃ k ∈ d.cmd cid, d.por = false ∧ d.fwRuns = true ∧ k.op = 67 ∧ k.stage = 0) :=
  ⟨⟨(recw 0x20 4 (ready fw)), 20, by decide +kernel⟩,
   ⟨(recw 0x1001 4 (ready fw)), 20, by decide +kernel⟩,
   ⟨(recr 0x20 fw), 20, by decide +kernel⟩,
   ⟨(recr 0x1001 fw), 20, by decide +kernel⟩,
   ⟨(store_ { fw with grain := { fw.grain with store := some ⟨0, 1, 2⟩ } }), 20, by decide +kernel⟩,
   ⟨(store_ fw), 20, by decide +kernel⟩,
   ⟨(store_ (setF [(Fld.grnStatusArmed, 1)] (fw.writeHeader 0 7 2 1 0 0))), 20, by decide +kernel⟩,
   ⟨(taking 2 0x43 [] (ready fw)), 20, by decide +kernel⟩⟩

end OfGrainCommands

/-! ### KeyCommands -/

namespace OfKeyCommands

def key (op sub len out : Nat) (d : Device) : Device := taking 2 op [(8, 1, sub), (0x10, 8, benchBase), (0x18, 4, len), (0x20, 8,
    benchBase + 0x1000), (0x28, 4, out)] d
def opk (d : Device) : Device := setF [(Fld.secStatusOpKey, 1)] d
def noKak (d : Device) : Device := d.setByte keyKak 0
def tsk0 (d : Device) : Device := d.setByte (keyTsk 0) 1

/-- Every hypothesis of `Obligations.KeyCommands` is met. -/
theorem witness_KeyCommands :
    (∃ (d : Device) (cid : Nat), ∃ k ∈ d.cmd cid, d.por = false ∧ d.fwRuns = true ∧ k.op = 80 ∧ k.stage = 0 ∧ k.f 8 1 = 1 ∧
      (d.fwRead (k.f 16 8) (min 512 (k.f 24 4))).1.code = 0 ∧
      (d.fwRead (k.f 16 8) (min 512 (k.f 24 4))).1.data.length ≠ if (d.fwRead (k.f 16 8) (min 512 (k.f 24 4))).2.opKeyed = true then 288 else 192) ∧
    (∃ (d : Device) (cid : Nat), ∃ k ∈ d.cmd cid, d.por = false ∧ d.fwRuns = true ∧ k.op = 80 ∧ k.stage = 0 ∧ k.f 8 1 = 1 ∧
      (d.fwRead (k.f 16 8) (min 512 (k.f 24 4))).1.code = 0 ∧ (d.fwRead (k.f 16 8) (min 512 (k.f 24 4))).1.data.length = 192 ∧
      (d.fwRead (k.f 16 8) (min 512 (k.f 24 4))).2.opKeyed = false ∧
      (d.fwRead (k.f 16 8) (min 512 (k.f 24 4))).2.otpClass 1 = OtpClass.unprogrammed) ∧
    (∃ (d : Device) (cid : Nat), ∃ k ∈ d.cmd cid, d.por = false ∧ d.fwRuns = true ∧ k.op = 80 ∧ k.stage = 0 ∧ k.f 8 1 = 1 ∧
      (d.fwRead (k.f 16 8) (min 512 (k.f 24 4))).1.code = 0 ∧ (d.fwRead (k.f 16 8) (min 512 (k.f 24 4))).1.data.length = 192 ∧
      (d.fwRead (k.f 16 8) (min 512 (k.f 24 4))).2.opKeyed = false ∧
      (d.fwRead (k.f 16 8) (min 512 (k.f 24 4))).2.otpClass 1 ≠ OtpClass.unprogrammed ∧
      ((d.fwRead (k.f 16 8) (min 512 (k.f 24 4))).2.otpClass 2 ≠ OtpClass.unprogrammed ∨
      (d.fwRead (k.f 16 8) (min 512 (k.f 24 4))).2.lockBit 4 = true)) ∧
    (∃ (d : Device) (cid : Nat), ∃ k ∈ d.cmd cid, d.por = false ∧ d.fwRuns = true ∧ k.op = 80 ∧ k.stage = 0 ∧ k.f 8 1 = 2 ∧
      (d.fwRead (k.f 16 8) (min 512 (k.f 24 4))).1.code = 0 ∧
      (d.fwRead (k.f 16 8) (min 512 (k.f 24 4))).1.data.length ≠ if (d.fwRead (k.f 16 8) (min 512 (k.f 24 4))).2.opKeyed = true then 100 else 4) ∧
    (∃ (d : Device) (cid : Nat), ∃ k ∈ d.cmd cid, d.por = false ∧ d.fwRuns = true ∧ k.op = 80 ∧ k.stage = 0 ∧ k.f 8 1 = 2 ∧
      (d.fwRead (k.f 16 8) (min 512 (k.f 24 4))).1.code = 0 ∧ (d.fwRead (k.f 16 8) (min 512 (k.f 24 4))).1.data.length = 100 ∧
      (d.fwRead (k.f 16 8) (min 512 (k.f 24 4))).2.opKeyed = true) ∧
    (∃ (d : Device) (cid : Nat), ∃ k ∈ d.cmd cid, d.por = false ∧ d.fwRuns = true ∧ k.op = 80 ∧ k.stage = 0 ∧ k.f 8 1 = 2 ∧
      (d.fwRead (k.f 16 8) (min 512 (k.f 24 4))).1.code = 0 ∧ (d.fwRead (k.f 16 8) (min 512 (k.f 24 4))).1.data.length = 4 ∧
      (d.fwRead (k.f 16 8) (min 512 (k.f 24 4))).2.opKeyed = false) ∧
    (∃ (d : Device) (cid : Nat), ∃ k ∈ d.cmd cid, d.por = false ∧ d.fwRuns = true ∧ k.op = 80 ∧ k.stage = 0 ∧ k.f 8 1 = 3 ∧
      (d.fwRead (k.f 16 8) (min 512 (k.f 24 4))).1.code = 0 ∧ 16 ≤ k.f 40 4 ∧
      (d.fwRead (k.f 16 8) (min 512 (k.f 24 4))).1.data.length ≠ 352) ∧
    (∃ (d : Device) (cid : Nat), ∃ k ∈ d.cmd cid, d.por = false ∧ d.fwRuns = true ∧ k.op = 80 ∧ k.stage = 0 ∧ k.f 8 1 = 3 ∧
      (d.fwRead (k.f 16 8) (min 512 (k.f 24 4))).1.code = 0 ∧ 16 ≤ k.f 40 4 ∧
      (d.fwRead (k.f 16 8) (min 512 (k.f 24 4))).1.data.length = 352 ∧ (d.fwRead (k.f 16 8) (min 512 (k.f 24 4))).2.hasKak = false) ∧
    (∃ (d : Device) (cid : Nat), ∃ k ∈ d.cmd cid, d.por = false ∧ d.fwRuns = true ∧ k.op = 80 ∧ k.stage = 0 ∧ k.f 8 1 = 3 ∧
      (d.fwRead (k.f 16 8) (min 512 (k.f 24 4))).1.code = 0 ∧ 16 ≤ k.f 40 4 ∧
      (d.fwRead (k.f 16 8) (min 512 (k.f 24 4))).1.data.length = 352 ∧ (d.fwRead (k.f 16 8) (min 512 (k.f 24 4))).2.hasKak = true) ∧
    (∃ (d : Device) (cid : Nat), ∃ k ∈ d.cmd cid, d.por = false ∧ d.fwRuns = true ∧ k.op = 80 ∧ k.stage = 0 ∧ k.f 8 1 = 4 ∧
      (d.fwRead (k.f 16 8) (min 512 (k.f 24 4))).1.code = 0 ∧
      (d.fwRead (k.f 16 8) (min 512 (k.f 24 4))).2.flag Fld.devReadyGrainD = false) ∧
    (∃ (d : Device) (cid : Nat), ∃ k ∈ d.cmd cid, d.por = false ∧ d.fwRuns = true ∧ k.op = 80 ∧ k.stage = 0 ∧ k.f 8 1 = 4 ∧
      (d.fwRead (k.f 16 8) (min 512 (k.f 24 4))).1.code = 0 ∧
      (d.fwRead (k.f 16 8) (min 512 (k.f 24 4))).2.flag Fld.devReadyGrainD = true ∧
      (d.fwRead (k.f 16 8) (min 512 (k.f 24 4))).2.opKeyed = false) ∧
    (∃ (d : Device) (cid : Nat), ∃ k ∈ d.cmd cid, d.por = false ∧ d.fwRuns = true ∧ k.op = 80 ∧ k.stage = 0 ∧ k.f 8 1 = 4 ∧
      (d.fwRead (k.f 16 8) (min 512 (k.f 24 4))).1.code = 0 ∧
      (d.fwRead (k.f 16 8) (min 512 (k.f 24 4))).2.flag Fld.devReadyGrainD = true ∧
      (d.fwRead (k.f 16 8) (min 512 (k.f 24 4))).2.opKeyed = true ∧ (d.fwRead (k.f 16 8) (min 512 (k.f 24 4))).1.data.length ≠ 100) ∧
    (∃ (d : Device) (cid : Nat), ∃ k ∈ d.cmd cid, d.por = false ∧ d.fwRuns = true ∧ k.op = 80 ∧ k.stage = 0 ∧ k.f 8 1 = 4 ∧
      (d.fwRead (k.f 16 8) (min 512 (k.f 24 4))).1.code = 0 ∧
      (d.fwRead (k.f 16 8) (min 512 (k.f 24 4))).2.flag Fld.devReadyGrainD = true ∧
      (d.fwRead (k.f 16 8) (min 512 (k.f 24 4))).2.opKeyed = true ∧ (d.fwRead (k.f 16 8) (min 512 (k.f 24 4))).1.data.length = 100) ∧
    (∃ (d : Device) (cid : Nat), ∃ k ∈ d.cmd cid, d.por = false ∧ d.fwRuns = true ∧ k.op = 81 ∧ k.stage = 0 ∧ k.f 8 1 = 1 ∧
      (d.fwRead (k.f 16 8) (min 512 (k.f 24 4))).1.code = 0 ∧ (d.fwRead (k.f 16 8) (min 512 (k.f 24 4))).1.data.length ≠ 16) ∧
    (∃ (d : Device) (cid : Nat), ∃ k ∈ d.cmd cid, d.por = false ∧ d.fwRuns = true ∧ k.op = 81 ∧ k.stage = 0 ∧ k.f 8 1 = 1 ∧
      (d.fwRead (k.f 16 8) (min 512 (k.f 24 4))).1.code = 0 ∧ (d.fwRead (k.f 16 8) (min 512 (k.f 24 4))).1.data.length = 16 ∧
      (d.fwRead (k.f 16 8) (min 512 (k.f 24 4))).2.tskSlot (d.fwRead (k.f 16 8) (min 512 (k.f 24 4))).1.data = none) ∧
    (∃ (d : Device) (cid : Nat), ∃ k ∈ d.cmd cid,
      ∃ i ∈ (d.fwRead (k.f 16 8) (min 512 (k.f 24 4))).2.tskSlot (d.fwRead (k.f 16 8) (min 512 (k.f 24 4))).1.data, d.por = false ∧
      d.fwRuns = true ∧ k.op = 81 ∧ k.stage = 0 ∧ k.f 8 1 = 1 ∧ (d.fwRead (k.f 16 8) (min 512 (k.f 24 4))).1.code = 0 ∧
      (d.fwRead (k.f 16 8) (min 512 (k.f 24 4))).1.data.length = 16) ∧
    (∃ (d : Device) (cid : Nat), ∃ k ∈ d.cmd cid, d.por = false ∧ d.fwRuns = true ∧ k.op = 81 ∧ k.stage = 0 ∧ k.f 8 1 = 2 ∧
      (d.fwRead (k.f 16 8) (min 512 (k.f 24 4))).1.code = 0 ∧ (d.fwRead (k.f 16 8) (min 512 (k.f 24 4))).1.data ≠ []) ∧
    (∃ (d : Device) (cid : Nat), ∃ k ∈ d.cmd cid, d.por = false ∧ d.fwRuns = true ∧ k.op = 81 ∧ k.stage = 0 ∧ k.f 8 1 = 2 ∧
      (d.fwRead (k.f 16 8) (min 512 (k.f 24 4))).1.code = 0 ∧ (d.fwRead (k.f 16 8) (min 512 (k.f 24 4))).1.data = []) ∧
    (∃ (d : Device) (cid : Nat), ∃ k ∈ d.cmd cid, d.por = false ∧ d.fwRuns = true ∧ k.op = 81 ∧ k.stage = 0 ∧ k.f 8 1 = 3 ∧
      (d.fwRead (k.f 16 8) (min 512 (k.f 24 4))).1.code = 0 ∧
      (d.fwRead (k.f 16 8) (min 512 (k.f 24 4))).1.data.length ≠ if (d.fwRead (k.f 16 8) (min 512 (k.f 24 4))).2.opKeyed = true then 96 else 0) ∧
    (∃ (d : Device) (cid : Nat), ∃ k ∈ d.cmd cid, d.por = false ∧ d.fwRuns = true ∧ k.op = 81 ∧ k.stage = 0 ∧ k.f 8 1 = 3 ∧
      (d.fwRead (k.f 16 8) (min 512 (k.f 24 4))).1.code = 0 ∧ (d.fwRead (k.f 16 8) (min 512 (k.f 24 4))).1.data.length = 96 ∧
      (d.fwRead (k.f 16 8) (min 512 (k.f 24 4))).2.opKeyed = true) ∧
    (∃ (d : Device) (cid : Nat), ∃ k ∈ d.cmd cid, d.por = false ∧ d.fwRuns = true ∧ k.op = 81 ∧ k.stage = 0 ∧ k.f 8 1 = 3 ∧
      (d.fwRead (k.f 16 8) (min 512 (k.f 24 4))).1.code = 0 ∧ (d.fwRead (k.f 16 8) (min 512 (k.f 24 4))).1.data = [] ∧
      (d.fwRead (k.f 16 8) (min 512 (k.f 24 4))).2.opKeyed = false) ∧
    (∃ (i : Nat), i < 32) :=
  ⟨⟨(key 0x50 1 191 4 fw), 20, by decide +kernel⟩,
   ⟨(key 0x50 1 192 4 fw), 20, by decide +kernel⟩,
   ⟨(key 0x50 1 192 4 (setF [(Fld.secLocksInForce, 16)] (fw.setLe (keyOtp + (otpField 1).2) 4 7))), 20, by decide +kernel⟩,
   ⟨(key 0x50 2 99 4 (opk fw)), 20, by decide +kernel⟩,
   ⟨(key 0x50 2 100 4 (opk fw)), 20, by decide +kernel⟩,
   ⟨(key 0x50 2 4 4 fw), 20, by decide +kernel⟩,
   ⟨(key 0x50 3 351 16 fw), 20, by decide +kernel⟩,
   ⟨(key 0x50 3 352 16 (noKak fw)), 20, by decide +kernel⟩,
   ⟨(key 0x50 3 352 16 fw), 20, by decide +kernel⟩,
   ⟨(key 0x50 4 100 4 (setF [(Fld.devReadyGrainD, 0)] fw)), 20, by decide +kernel⟩,
   ⟨(key 0x50 4 100 4 fw), 20, by decide +kernel⟩,
   ⟨(key 0x50 4 99 4 (opk fw)), 20, by decide +kernel⟩,
   ⟨(key 0x50 4 100 4 (opk (setF [(Fld.grnStatusDReady, 1)] fw))), 20, by decide +kernel⟩,
   ⟨(key 0x51 1 15 4 fw), 20, by decide +kernel⟩,
   ⟨(key 0x51 1 16 4 fw), 20, by decide +kernel⟩,
   ⟨(key 0x51 1 16 4 (tsk0 fw)), 20, by decide +kernel⟩,
   ⟨(key 0x51 2 1 4 fw), 20, by decide +kernel⟩,
   ⟨(key 0x51 2 0 4 (tsk0 fw)), 20, by decide +kernel⟩,
   ⟨(key 0x51 3 1 4 fw), 20, by decide +kernel⟩,
   ⟨(key 0x51 3 96 4 (opk fw)), 20, by decide +kernel⟩,
   ⟨(key 0x51 3 0 4 fw), 20, by decide +kernel⟩,
   ⟨20, by decide +kernel⟩⟩

end OfKeyCommands

/-! ### TurnRingAndHibernateCommands -/

namespace OfTurnRingAndHibernateCommands

def tset (set src ad per : Nat) (d : Device) : Device := taking 2 0x60 [(8, 1, set), (9, 1, src), (10, 1, ad), (12, 4, per)] d
def rcfg (sub len : Nat) (d : Device) : Device := taking 2 0x61 [(8, 1, sub), (0x10, 8, benchBase), (0x18, 4, len)] d
def rsend (len out : Nat) (d : Device) : Device := taking 2 0x62 [(8, 1, 1), (0x10, 8, benchBase), (0x18, 4, len), (0x20, 8,
    benchBase + 0x1000), (0x28, 4, out)] d
def ringed (d : Device) : Device := setF [(Fld.ringCtlEn, 1), (Fld.grnStatusDReady, 1)] d
def ringUp : Device := setF [(Fld.ringStatusUp, 1)] (ringed (bench 12 [4] fw))
def hibern (d : Device) : Device := taking 2 0x70 [] d

/-- Every hypothesis of `Obligations.TurnRingAndHibernateCommands` is met. -/
theorem witness_TurnRingAndHibernateCommands :
    (∃ (d : Device) (cid : Nat), ∃ k ∈ d.cmd cid, d.por = false ∧ d.fwRuns = true ∧ k.op = 96 ∧ k.stage = 0 ∧ k.f 8 1 ≤ 15 ∧
      k.f 9 1 ≤ 3 ∧ k.f 10 1 ≤ 1) ∧
    (∃ (d : Device) (cid : Nat), ∃ k ∈ d.cmd cid, d.por = false ∧ d.fwRuns = true ∧ k.op = 97 ∧ k.stage = 0 ∧ k.f 8 1 = 1 ∧
      (d.fwRead (k.f 16 8) (k.f 24 4)).1.code = 0 ∧
      (d.fwRead (k.f 16 8) (k.f 24 4)).2.ringCfgCode (d.fwRead (k.f 16 8) (k.f 24 4)).1.data ≠ 0) ∧
    (∃ (d : Device) (cid : Nat), ∃ k ∈ d.cmd cid, d.por = false ∧ d.fwRuns = true ∧ k.op = 97 ∧ k.stage = 0 ∧ k.f 8 1 = 1 ∧
      (d.fwRead (k.f 16 8) (k.f 24 4)).1.code = 0 ∧
      (d.fwRead (k.f 16 8) (k.f 24 4)).2.ringCfgCode (d.fwRead (k.f 16 8) (k.f 24 4)).1.data = 0) ∧
    (∃ (b : List Byte), b.length ≠ 16) ∧
    (∃ (d : Device) (cid : Nat), ∃ k ∈ d.cmd cid, d.por = false ∧ d.fwRuns = true ∧ k.op = 97 ∧ k.stage = 0 ∧ k.f 8 1 = 2 ∧
      d.ringOn = false) ∧
    (∃ (d : Device) (cid : Nat), ∃ k ∈ d.cmd cid, d.por = false ∧ d.fwRuns = true ∧ k.op = 97 ∧ k.stage = 0 ∧ k.f 8 1 = 2 ∧
      d.ringOn = true) ∧
    (∃ (d : Device) (cid : Nat), ∃ k ∈ d.cmd cid, d.por = false ∧ d.fwRuns = true ∧ k.op = 98 ∧ k.stage = 0 ∧ k.f 8 1 = 1 ∧
      (d.fwRead (k.f 16 8) (min 16 (k.f 24 4))).1.code = 0 ∧ k.f 40 4 < 16) ∧
    (∃ (d : Device) (cid : Nat), ∃ k ∈ d.cmd cid, d.por = false ∧ d.fwRuns = true ∧ k.op = 98 ∧ k.stage = 0 ∧ k.f 8 1 = 1 ∧
      (d.fwRead (k.f 16 8) (min 16 (k.f 24 4))).1.code = 0 ∧ 16 ≤ k.f 40 4 ∧
      (d.fwRead (k.f 16 8) (min 16 (k.f 24 4))).2.ringSendCode (d.fwRead (k.f 16 8) (min 16 (k.f 24 4))).1.data (k.f 24 4) ≠ 0) ∧
    (∃ (d : Device) (cid : Nat), ∃ k ∈ d.cmd cid, d.por = false ∧ d.fwRuns = true ∧ k.op = 98 ∧ k.stage = 0 ∧ k.f 8 1 = 1 ∧
      (d.fwRead (k.f 16 8) (min 16 (k.f 24 4))).1.code = 0 ∧ 16 ≤ k.f 40 4 ∧
      (d.fwRead (k.f 16 8) (min 16 (k.f 24 4))).2.ringSendCode (d.fwRead (k.f 16 8) (min 16 (k.f 24 4))).1.data (k.f 24 4) = 0) ∧
    (∃ (d : Device), (d.ringOn = false ∨ d.flag Fld.ringStatusUp = false)) ∧
    (∃ (d : Device) (cid : Nat), ∃ k ∈ d.cmd cid, d.por = false ∧ d.fwRuns = true ∧ k.op = 112 ∧ k.stage = 0 ∧ d.power.vbat = false) ∧
    (∃ (d : Device) (cid : Nat), ∃ k ∈ d.cmd cid, d.por = false ∧ d.fwRuns = true ∧ k.op = 112 ∧ k.stage = 0 ∧ d.power.vbat = true ∧
      (d.resBusy = true ∨ d.flag Fld.grnStatusArmed = false)) ∧
    (∃ (d : Device) (cid : Nat), ∃ k ∈ d.cmd cid, ∃ b ∈ d.newestBank, d.por = false ∧ d.fwRuns = true ∧ k.op = 112 ∧ k.stage = 0 ∧
      d.power.vbat = true ∧ d.resBusy = false ∧ d.flag Fld.grnStatusArmed = true ∧ d.grain.store = none) :=
  ⟨⟨(tset 15 1 1 200 fw), 20, by decide +kernel⟩,
   ⟨(rcfg 1 15 (ringed fw)), 20, by decide +kernel⟩,
   ⟨(rcfg 1 16 (ringed fw)), 20, by decide +kernel⟩,
   ⟨[1], by decide +kernel⟩,
   ⟨(rcfg 2 0 fw), 20, by decide +kernel⟩,
   ⟨(rcfg 2 0 (ringed fw)), 20, by decide +kernel⟩,
   ⟨(rsend 20 8 ringUp), 20, by decide +kernel⟩,
   ⟨(rsend 20 16 (ringed fw)), 20, by decide +kernel⟩,
   ⟨(rsend 20 16 (bench 0 [1, 1] ringUp)), 20, by decide +kernel⟩,
   ⟨(tset 15 1 1 200 fw), by decide +kernel⟩,
   ⟨(hibern { fw with power := { fw.power with vbat := false } }), 20, by decide +kernel⟩,
   ⟨(hibern fw), 20, by decide +kernel⟩,
   ⟨(hibern (setF [(Fld.grnStatusArmed, 1)] (fw.writeHeader 0 7 2 1 0 0))), 20, by decide +kernel⟩⟩

end OfTurnRingAndHibernateCommands

/-! ### EventDeliveryAndQueues -/

namespace OfEventDeliveryAndQueues

def latch (e r : Nat) : RaiseLatch := ⟨e, 7, 3, BitVec.ofNat 32 r, 1⟩
def withL (l : List RaiseLatch) (d : Device) : Device := { d with latches := l }
def msix_ (d : Device) : Device := (((((link 0 .l0 d).setCfgDw 0 0 0x0B0 (2 ^ 31)).setCfgDw 0 0 0x004 4)).modPort 0 fun q => { q with pba := [(0, 1)] })
def unmask (d : Device) : Device := d.modPort 0 fun q => { q with msix := [(7, 0)] }

/-- Every hypothesis of `Obligations.EventDeliveryAndQueues` is met. -/
theorem witness_EventDeliveryAndQueues :
    (∃ (d : Device), d.por = false ∧ d.latches = []) ∧
    (∃ (d : Device) (x : RaiseLatch), d.por = false ∧ (List.find? (fun y => decide (480 ≤ y.event ∧
      y.event ≤ 495)) d.latches = some x ∨ (∀ y ∈ d.latches, ¬(480 ≤ y.event ∧ y.event ≤ 495)) ∧ d.latches.head? = some x)) ∧
    (∃ (d : Device), ∃ x ∈ nextLatch d.latches, d.por = false ∧ bitOf x.route.toNat 0 = false ∧ bitOf x.route.toNat 1 = true ∧
      bitOf x.route.toNat 2 = false) ∧
    (∃ (d : Device), d.por = false) ∧
    (∃ (d : Device) (p : Fin 2) (fn : Nat) (v : Nat), d.por = false ∧ (fn, v) ∈ d.ports[p].pba ∧
      bitOf (d.cfgDw p fn 176) 31 = true ∧ bitOf (d.cfgDw p fn 176) 30 = false ∧ bitOf (d.msixDw p fn (4 * v + 3)) 0 = false ∧
      d.busMaster p fn = true ∧ d.inL0 p = true ∧ d.inD3 p fn = false) ∧
    (∃ (d : Device) (p : Fin 2) (fn : Nat) (v : Nat), d.por = false ∧ ((fn, v) ∉ d.ports[p].pba ∨
      bitOf (d.cfgDw p fn 176) 31 = false ∨ bitOf (d.cfgDw p fn 176) 30 = true ∨ bitOf (d.msixDw p fn (4 * v + 3)) 0 = true ∨
      d.busMaster p fn = false ∨ d.inL0 p = false ∨ d.inD3 p fn = true)) ∧
    (∃ (d : Device), d.por = false ∧ d.denials = []) ∧
    (∃ (d : Device), ∃ x ∈ d.denials.head?, d.por = false) :=
  ⟨⟨live, by decide +kernel⟩,
   ⟨(withL [latch 5 1] live), (latch 5 1), by decide +kernel⟩,
   ⟨(withL [latch 5 0x302] live), by decide +kernel⟩,
   ⟨live, by decide +kernel⟩,
   ⟨(unmask (msix_ live)), 0, 0, 1, by decide +kernel⟩,
   ⟨live, 0, 0, 0, by decide +kernel⟩,
   ⟨live, by decide +kernel⟩,
   ⟨({ live with denials := [⟨0x1234, 5, 6⟩, ⟨0x34, 5, 6⟩] }), by decide +kernel⟩⟩

end OfEventDeliveryAndQueues

/-! ### PortRequestsAndCompletions -/

namespace OfPortRequestsAndCompletions

def mr (a : Nat) (w : Bool) (len : Nat) : MemReq := ⟨.mem, BitVec.ofNat 64 a, w, len, List.replicate len true, List.replicate len 5, 9,
    false, 77⟩
def pf (d : Device) : Device := ((link 0 .l0 d).setCfgDw 0 0 0x004 6)
def vf_ : Device := runs 0 (setF [(Fld.ptStatusVfEn 0, 1), (Fld.ptStatusNumVfs 0,
    4)] (((pf fw).setCfgDw 0 0 0x168 9).setCfgDw 0 0 0x184 0x10000000))
def waits (st : Nat) (d : Device) : Device := slotIs 0 (fun s => { s with chan := { s.chan with stage := st, desc := leBytes 64 0, len := 8 } }) (cfgPut 0 7 1 416 20 0x10001 (cfgPut 0 3 0 0 64 (1 + 2 ^ 20) d))

/-- Every hypothesis of `Obligations.PortRequestsAndCompletions` is met. -/
theorem witness_PortRequestsAndCompletions :
    (∃ (d : Device) (port : Fin 2) (q : MemReq), ∃ w0 : Nat × Nat × Nat, w0 ∈ (d.claim port q.addr.toNat) ∧
      ∃ a ∈ d.translate port w0.1 w0.2.1 w0.2.2 q.len, d.por = false ∧ d.linkUp port = true ∧ q.memory = true ∧ 0 < q.len ∧
      (q.write = true → q.poisoned = false) ∧ d.claim port q.addr.toNat = some (w0.1, w0.2.1, w0.2.2) ∧ w0.1 ∉ d.ports[port].flr ∧
      d.inD3 port w0.1 = false ∧ d.memSpace port w0.1 = true ∧ (q.write = true → q.len ≤ d.mps port) ∧ (q.write = false →
      q.len ≤ d.mrrs port) ∧ msixPlace port w0.1 w0.2.1 w0.2.2 q.len = none ∧ (registerSpan a = true → a % 64 + q.len ≤ 64)) ∧
    (∃ (d : Device) (port : Fin 2) (q : MemReq), ∃ w0 : Nat × Nat × Nat, w0 ∈ (d.claim port q.addr.toNat) ∧
      ∃ a ∈ d.translate port w0.1 w0.2.1 w0.2.2 q.len, d.por = false ∧ d.linkUp port = true ∧ q.memory = true ∧ 0 < q.len ∧
      (q.write = true → q.poisoned = false) ∧ d.claim port q.addr.toNat = some (w0.1, w0.2.1, w0.2.2) ∧ w0.1 ∉ d.ports[port].flr ∧
      d.inD3 port w0.1 = false ∧ d.memSpace port w0.1 = true ∧ (q.write = true → q.len ≤ d.mps port) ∧ (q.write = false →
      q.len ≤ d.mrrs port) ∧ msixPlace port w0.1 w0.2.1 w0.2.2 q.len = none ∧ registerSpan a = true ∧ 64 < a % 64 + q.len) ∧
    (∃ (d : Device) (port : Fin 2) (q : MemReq), d.por = false ∧ d.linkUp port = true ∧ 0 < q.len ∧ (q.kind = ReqKind.other ∨
      d.claim port q.addr.toNat = none)) ∧
    (∃ (d : Device) (port : Fin 2) (q : MemReq), ∃ w0 : Nat × Nat × Nat, w0 ∈ (d.claim port q.addr.toNat) ∧ d.por = false ∧
      d.linkUp port = true ∧ 0 < q.len ∧ q.kind ≠ ReqKind.other ∧ d.claim port q.addr.toNat = some (w0.1, w0.2.1, w0.2.2) ∧
      (q.kind = ReqKind.atomic ∨ w0.1 ∉ d.ports[port].flr ∧ (d.inD3 port w0.1 = true ∨ d.memSpace port w0.1 = false))) ∧
    (∃ (d : Device) (port : Fin 2) (q : MemReq), ∃ w0 : Nat × Nat × Nat, w0 ∈ (d.claim port q.addr.toNat) ∧ d.por = false ∧
      d.linkUp port = true ∧ q.memory = true ∧ 0 < q.len ∧ q.write = true ∧ d.claim port q.addr.toNat = some (w0.1, w0.2.1, w0.2.2) ∧
      w0.1 ∉ d.ports[port].flr ∧ d.inD3 port w0.1 = false ∧ d.memSpace port w0.1 = true ∧ q.poisoned = true) ∧
    (∃ (d : Device) (port : Fin 2) (q : MemReq), ∃ w0 : Nat × Nat × Nat, w0 ∈ (d.claim port q.addr.toNat) ∧ d.por = false ∧
      d.linkUp port = true ∧ q.memory = true ∧ 0 < q.len ∧ q.write = true ∧ d.claim port q.addr.toNat = some (w0.1, w0.2.1, w0.2.2) ∧
      w0.1 ∉ d.ports[port].flr ∧ d.inD3 port w0.1 = false ∧ d.memSpace port w0.1 = true ∧ q.poisoned = false ∧ d.mps port < q.len) ∧
    (∃ (d : Device) (port : Fin 2) (fn : Nat), d.por = false ∧ d.linkUp port = true ∧ d.fnEnabled port fn = true) ∧
    (∃ (d : Device) (port : Fin 2) (dw : Fin 1024), d.por = false ∧ d.linkUp port = true ∧ d.fnEnabled port 0 = true ∧
      dw.val ≠ 88 / 4 ∧ dw.val ≠ 360 / 4 ∧ dw.val ≠ 664 / 4 ∧ dw.val ≠ 672 / 4 ∧ dw.val ≠ 676 / 4) ∧
    (∃ (d : Device) (port : Fin 2) (fn : Nat), d.por = false ∧ d.linkUp port = true ∧ d.fnEnabled port fn = false) ∧
    (∃ (d : Device) (port : Fin 2) (fn : Nat), ∃ n ∈ d.slotOfVf port fn, ∃ m ∈ d.chanSlot n (d.slot n).chan, d.por = false ∧
      d.linkUp port = true ∧ fn ∉ d.ports[port].stale ∧ (d.slot n).chan.stage = 3 ∧ d.dmaTargetCode m (d.slot n).chan = 0 ∧
      d.memBusy m = true) ∧
    (∃ (d : Device) (port : Fin 2) (fn : Nat), ∃ n ∈ d.slotOfVf port fn, ∃ m ∈ d.chanSlot n (d.slot n).chan, d.por = false ∧
      d.linkUp port = true ∧ fn ∉ d.ports[port].stale ∧ (d.slot n).chan.stage = 3 ∧ d.dmaTargetCode m (d.slot n).chan = 0 ∧
      d.memBusy m = false ∧ (d.dmaJudge n m (d.slot n).chan.len true).1 = true) ∧
    (∃ (d : Device) (port : Fin 2) (fn : Nat), ∃ n ∈ d.slotOfVf port fn, ∃ m ∈ d.chanSlot n (d.slot n).chan, d.por = false ∧
      d.linkUp port = true ∧ fn ∉ d.ports[port].stale ∧ (d.slot n).chan.stage = 3 ∧ d.dmaTargetCode m (d.slot n).chan = 0 ∧
      d.memBusy m = false ∧ (d.dmaJudge n m (d.slot n).chan.len true).1 = false) ∧
    (∃ (d : Device) (port : Fin 2) (fn : Nat) (status : Nat), ∃ n ∈ d.slotOfVf port fn, ∃ w0 : Fin 2 × Nat, w0 ∈ (d.chanVf n) ∧
      d.por = false ∧ d.linkUp port = true ∧ fn ∉ d.ports[port].stale ∧ (d.slot n).chan.stage = 3 ∧ d.chanVf n = some (w0.1, w0.2) ∧
      (status = 1 ∨ status = 4)) ∧
    (∃ (d : Device) (port : Fin 2) (fn : Nat), d.por = false ∧ d.linkUp port = true ∧ fn ∈ d.ports[port].stale) :=
  ⟨⟨(pf fw), 0, (mr 0x1000030 true 64), (0, 0, 0x1000030), by decide +kernel, _, Eq.refl _, by decide +kernel⟩,
   ⟨(pf fw), 0, (mr 0x2007C false 8), (0, 0, 0x2007C), by decide +kernel, _, Eq.refl _, by decide +kernel⟩,
   ⟨(pf fw), 0, (mr 0x10000020 false 4), by decide +kernel⟩,
   ⟨(pf fw), 0, ({ mr 0x1000 false 8 with kind := .atomic }), by decide +kernel⟩,
   ⟨(pf fw), 0, ({ mr 0x1000 true 8 with poisoned := true }), by decide +kernel⟩,
   ⟨(pf fw), 0, (mr 0x1000000 true 512), by decide +kernel⟩,
   ⟨(pf fw), 0, 0, by decide +kernel⟩,
   ⟨(pf fw), 0, 1, by decide +kernel⟩,
   ⟨(pf fw), 0, 1, by decide +kernel⟩,
   ⟨((let d := waits 3 vf_; { d with scribe := { d.scribe with captures := [⟨21, [0], 0, benchBase, 90000, 2, 5, 6, [5], [], [0], []⟩] } })), 0, 1, by decide +kernel⟩,
   ⟨(((waits 3 vf_).grantSlot 0 0 1)), 0, 1, by decide +kernel⟩,
   ⟨(waits 3 vf_), 0, 1, by decide +kernel⟩,
   ⟨(waits 3 vf_), 0, 1, 1, by decide +kernel⟩,
   ⟨((vf_.modPort 0 fun q => { q with stale := [1] })), 0, 1, by decide +kernel⟩⟩

end OfPortRequestsAndCompletions

/-! ### DoeAndSpdm -/

namespace OfDoeAndSpdm

def spdm (st : Nat) (r : List Nat) (n : Nat) (d : Device) : Device := (link 0 .l0 d).modPort 0 fun q => { q with doeIn := [0x00010001, BitVec.ofNat 32 (2 + n)] ++ (List.range n).map fun i => BitVec.ofNat 32 (leAt (padTo (4 * n) (r.map fun x => BitVec.ofNat 8 x)) (4 * i) 4), spdm := st }

/-- Every hypothesis of `Obligations.DoeAndSpdm` is met. -/
theorem witness_DoeAndSpdm :
    (∃ (d : Device) (p : Fin 2) (dw : List Word), d.por = false ∧ d.linkUp p = true ∧ d.flag Fld.hwdStatusCmdReady = true ∧
      d.ports[p].doeIn = [] ∧ d.ports[p].doeOut = [] ∧ 2 ≤ dw.length ∧ dw.length ≤ 1024 ∧
      BitVec.toNat (dw.getD 1 0) % 2 ^ 18 = dw.length ∧ BitVec.toNat (dw.headD 0) % 2 ^ 16 = 1 ∧
      bitsOf (BitVec.toNat (dw.headD 0)) 16 8 = 1) ∧
    (∃ (d : Device) (p : Fin 2), d.por = false ∧ d.linkUp p = true) ∧
    (∃ (d : Device) (p : Fin 2), d.por = false ∧ d.spdmWaits p = true ∧ leAt (d.doePayload p) 1 1 = 132 ∧
      leAt (d.doePayload p) 0 1 = 16) ∧
    (∃ (d : Device) (p : Fin 2), d.por = false ∧ d.spdmWaits p = true ∧ leAt (d.doePayload p) 1 1 = 225 ∧
      leAt (d.doePayload p) 0 1 = 18 ∧ 1 ≤ d.ports[p].spdm) ∧
    (∃ (d : Device) (p : Fin 2), d.por = false ∧ d.spdmWaits p = true ∧ leAt (d.doePayload p) 1 1 = 227 ∧
      leAt (d.doePayload p) 0 1 = 18 ∧ 2 ≤ d.ports[p].spdm) ∧
    (∃ (d : Device) (p : Fin 2), d.por = false ∧ d.spdmWaits p = true ∧ leAt (d.doePayload p) 1 1 = 129 ∧
      leAt (d.doePayload p) 0 1 = 18 ∧ 3 ≤ d.ports[p].spdm ∧ d.hasIdk = true) ∧
    (∃ (d : Device) (p : Fin 2), d.por = false ∧ d.spdmWaits p = true ∧ leAt (d.doePayload p) 1 1 = 130 ∧
      leAt (d.doePayload p) 0 1 = 18 ∧ 3 ≤ d.ports[p].spdm ∧ d.hasIdk = true ∧ leAt (d.doePayload p) 2 1 % 16 = 0) ∧
    (∃ (d : Device) (p : Fin 2), d.por = false ∧ d.spdmWaits p = true ∧ leAt (d.doePayload p) 1 1 = 131 ∧
      leAt (d.doePayload p) 0 1 = 18 ∧ 3 ≤ d.ports[p].spdm ∧ d.hasIdk = true ∧ leAt (d.doePayload p) 2 1 = 0 ∧
      leAt (d.doePayload p) 3 1 = 0) ∧
    (∃ (d : Device) (p : Fin 2), d.por = false ∧ d.spdmWaits p = true ∧ leAt (d.doePayload p) 1 1 = 224 ∧
      leAt (d.doePayload p) 0 1 = 18 ∧ 3 ≤ d.ports[p].spdm ∧ d.hasIdk = true ∧ bitOf (leAt (d.doePayload p) 2 1) 0 = false ∧
      1 ≤ leAt (d.doePayload p) 3 1 ∧ leAt (d.doePayload p) 3 1 ≤ 20) ∧
    (∃ (d : Device) (p : Fin 2), d.por = false ∧ d.spdmWaits p = true ∧ spdmAccepts (leAt (d.doePayload p) 1 1) = false) ∧
    (∃ (d : Device) (p : Fin 2), d.por = false ∧ d.spdmWaits p = true ∧ leAt (d.doePayload p) 1 1 = 129 ∧
      leAt (d.doePayload p) 0 1 = 18 ∧ d.ports[p].spdm < 3 ∧ d.hasIdk = true) :=
  ⟨⟨(link 0 .l0 fw), 0, ([0x00010001, 3, 5]), by decide +kernel⟩,
   ⟨(link 0 .l0 fw), 0, by decide +kernel⟩,
   ⟨(spdm 0 [0x10, 0x84, 0, 0] 1 fw), 0, by decide +kernel⟩,
   ⟨(spdm 1 [0x12, 0xE1, 0, 0] 5 fw), 0, by decide +kernel⟩,
   ⟨(spdm 2 [0x12, 0xE3, 1, 0, 36, 0, 1, 0, 0x80, 0, 0, 0, 2, 0, 0, 0] 9 fw), 0, by decide +kernel⟩,
   ⟨(spdm 3 [0x12, 0x81, 0, 0] 1 fw), 0, by decide +kernel⟩,
   ⟨(spdm 3 [0x12, 0x82, 0, 0, 0, 0, 16, 0] 2 fw), 0, by decide +kernel⟩,
   ⟨(spdm 3 [0x12, 0x83, 0, 0] 9 fw), 0, by decide +kernel⟩,
   ⟨(spdm 3 [0x12, 0xE0, 0, 5] 1 fw), 0, by decide +kernel⟩,
   ⟨(spdm 3 [0x12, 0xEE, 0, 0] 1 fw), 0, by decide +kernel⟩,
   ⟨(spdm 1 [0x12, 0x81, 0, 0] 1 fw), 0, by decide +kernel⟩⟩

end OfDoeAndSpdm

/-! ### DmaChannels -/

namespace OfDmaChannels

def vf_ : Device := setF [(Fld.dmaCtlEn 0, 1), (Fld.dmaTailTail 0, 3)] (runs 0 (setF [(Fld.ptStatusVfEn 0, 1), (Fld.ptStatusNumVfs 0,
    4)] (((link 0 .l0 fw).setCfgDw 0 0 0x168 9).setCfgDw 0 1 0x004 4)))
def chan_ (st : Nat) (host : Nat) (d : Device) : Device := slotIs 0 (fun s => { s with chan := { s.chan with stage := st, desc := leBytes 64 (0x1000 + 8 * 2 ^ 64 + host * 2 ^ 120), len := 8 } }) (cfgPut 0 7 1 416 20 0x10001 (cfgPut 0 3 0 0 64 (1 + 2 ^ 20) d))

/-- Every hypothesis of `Obligations.DmaChannels` is met. -/
theorem witness_DmaChannels :
    (∃ (d : Device) (n : Fin 16), d.por = false ∧ ((d.members n).any fun m => (d.slot m).power == SlotPower.retain) = false) ∧
    (∃ (d : Device) (n : Fin 16), ∃ w0 : Fin 2 × Nat, w0 ∈ (d.chanVf n) ∧ d.por = false ∧ (d.slot n).chan.stage = 0 ∧
      d.dmaActive n = true ∧ d.dmaMayIssue n = true ∧ d.dmaWaits n n = false ∧ d.chanVf n = some (w0.1, w0.2)) ∧
    (∃ (d : Device) (n : Fin 16) (status : Nat), ∃ w0 : Fin 2 × Nat, w0 ∈ (d.chanVf n) ∧ d.por = false ∧ (d.slot n).chan.stage = 0 ∧
      d.dmaActive n = true ∧ d.dmaMayIssue n = true ∧ d.dmaWaits n n = false ∧ d.chanVf n = some (w0.1, w0.2) ∧ (status = 1 ∨
      status = 4)) ∧
    (∃ (d : Device) (n : Fin 16), ∃ m ∈ d.chanSlot n (d.slot n).chan, ∃ w0 : Fin 2 × Nat, w0 ∈ (d.chanVf n) ∧
      ∃ e ∈ d.dmaPay n w0.1 w0.2 (d.chunkLen w0.1 (d.slot n).chan), d.por = false ∧ d.chunkReady n = true ∧ d.chanVf n = some (w0.1,
      w0.2) ∧ d.dmaTargetCode m (d.slot n).chan = 0) ∧
    (∃ (d : Device) (n : Fin 16), ∃ w0 : Fin 2 × Nat, w0 ∈ (d.chanVf n) ∧ d.por = false ∧ (d.slot n).chan.stage = 4 ∧
      d.chanVf n = some (w0.1, w0.2)) ∧
    (∃ (d : Device), d.por = false) ∧
    (∃ (d : Device) (n : Fin 16), ∃ w0 : Fin 2 × Nat, w0 ∈ (d.chanVf n) ∧ d.por = false ∧ (d.slot n).chan.stage = 3 ∧
      d.chanVf n = some (w0.1, w0.2)) :=
  ⟨⟨vf_, 0, by decide +kernel⟩,
   ⟨vf_, 0, by decide +kernel⟩,
   ⟨vf_, 0, 1, by decide +kernel⟩,
   ⟨(chan_ 2 0 vf_), 0, by decide +kernel⟩,
   ⟨(chan_ 4 0 vf_), 0, by decide +kernel⟩,
   ⟨vf_, by decide +kernel⟩,
   ⟨(chan_ 3 0 vf_), 0, by decide +kernel⟩⟩

end OfDmaChannels

/-! ### MatrixArbitrationAndLocks -/

namespace OfMatrixArbitrationAndLocks

def rd6 : Txn := ⟨6, 0, 0, 0x10000008, false, false, false, 8, List.replicate 8 true, [], false⟩
def queue1 (l : List MtxEntry) (s : State) : State := { s with mtx := { s.mtx with queues := s.mtx.queues.set 1 l } }
def on (d : Device) : State := { State.reset with dev := d }
def guarded : HwdUnit := { live.hwd with pmp := live.hwd.pmp.set 0 ⟨.napot, true, false, true, false, 0x1000007⟩ }
def rd3 : Txn := ⟨3, 0, 0, 0x4000008, false, false, false, 8, List.replicate 8 true, [], false⟩

/-- Every hypothesis of `Obligations.MatrixArbitrationAndLocks` is met. -/
theorem witness_MatrixArbitrationAndLocks :
    (∃ (k : Fin 8) (s : State), ∃ w0 : Nat × Bool, w0 ∈ ((s.mapDev id).winner k) ∧ ∃ e ∈ s.mtx.headOf k w0.1,
      (s.mapDev id).dev.por = false ∧ (s.mapDev id).dev.safety.inj = none ∧ s.mtx.waiting = [] ∧ (s.mapDev id).winner k = some (w0.1,
      w0.2) ∧ (w0.1 = 6 ∨ w0.1 = 7 ∨ w0.1 = 8) ∧ e.txn.master.val = w0.1 ∧ e.txn.write = false ∧ e.txn.lock = false ∧
      e.txn.lockEnd = false ∧ e.txn.corrupt = false ∧ (∀ (t : Fin 8), s.mtx.locks[t].holder ≠ some w0.1) ∧
      (s.mapDev id).dev.decode e.txn.addr.toNat = some k.val ∧ (s.mapDev id).dev.hasPath w0.1 k.val false = true ∧
      (s.mapDev id).dev.actGrants k.val w0.1 (txnTcid e.txn) e.txn.addr.toNat false = true ∧
      (s.mapDev id).dev.targetReady k.val e.txn.addr.toNat = true ∧
      ((s.mapDev id).dev.targetRead k.val w0.1 (txnTcid e.txn) e.txn.addr.toNat e.txn.len e.txn.en).1 = 0) ∧
    (∃ (s : State) (k : Fin 8), s.dev.por = false ∧ s.mtx.waiting = [] ∧ (s.mapDev id).winner k = none) ∧
    (∃ (s : State) (k : Fin 8) (m : Fin 9), ∃ e ∈ s.mtx.headOf k m.val, s.dev.por = false ∧ s.mtx.locks[k].holder = none) ∧
    (∃ (s : State) (k : Fin 8), ∃ m ∈ s.mtx.locks[k].holder, s.dev.por = false) ∧
    (∃ (s : State) (data : BitVec 80), ∃ k ∈ (s.mapDev id).dev.decode (axTxn data).addr.toNat, (s.mapDev id).dev.por = false ∧
      (s.mapDev id).dev.lockBit 0 = false ∧ (s.mapDev id).dev.lockBit 2 = false ∧ (s.mapDev id).dev.flag Fld.devReadyAon = true ∧
      (s.mapDev id).dev.jtag.axBusy = false ∧ s.mtx.waiting = [] ∧ s.mtx.outstanding 5 < 16 ∧ k < 8 ∧
      (s.mapDev id).dev.hasPath 5 k (axTxn data).write = true ∧ s.mtx.held 5 (targetFin k) < 4) ∧
    (∃ (u : HwdUnit) (i : Fin 16) (a : Nat), u.pmpCovers i a = true ∧ (∀ j < i, u.pmpCovers j a = false)) ∧
    (∃ (u : HwdUnit) (a : Nat), (∀ (i : Fin 16), u.pmpCovers i a = false)) ∧
    (∃ (u : HwdUnit) (i : Fin 16), u.pmp[i].lock = true) ∧
    (∃ (s : State) (x : Txn), s.dev.por = false ∧ s.dev.pmpPasses x = false) :=
  ⟨⟨1, (queue1 [⟨rd6, false, 0⟩] (on fw)), by decide +kernel⟩,
   ⟨(on { fw with hwd := guarded }), 1, by decide +kernel⟩,
   ⟨(queue1 [⟨rd6, false, 0⟩] (on fw)), 1, 6, by decide +kernel⟩,
   ⟨((on fw).modLock 1 (fun l => { l with holder := some 3 })), 1, by decide +kernel⟩,
   ⟨(on { fw with hwd := guarded }), (0x10000000 * 2 ^ 32 + 5), by decide +kernel⟩,
   ⟨guarded, 0, 0x4000008, by decide +kernel⟩,
   ⟨live.hwd, 0, by decide +kernel⟩,
   ⟨guarded, 0, by decide +kernel⟩,
   ⟨(on { fw with hwd := guarded }), rd3, by decide +kernel⟩⟩

end OfMatrixArbitrationAndLocks

/-! ### BenchLineRequests -/

namespace OfBenchLineRequests

def req (c : Nat) (op : LineOp) : LineReq := ⟨1, c, op⟩
def line (f : BenchLine → BenchLine) (d : Device) : Device := d.setBenchLine (f (d.benchLine 5))

/-- Every hypothesis of `Obligations.BenchLineRequests` is met. -/
theorem witness_BenchLineRequests :
    (∃ (d : Device) (a : Fin 3) (line : BitVec 17), d.por = false ∧ d.flag Fld.devReadyBench = true ∧
      (d.benchLine line.toNat).busy = false ∧ d.benchBusy < 16 ∧ d.laneWaiting a.val < 8 ∧ (d.benchLine line.toNat).owner = none ∧
      (∀ i < 8, eccDecode (d.benchData (8 * line.toNat + i)) (d.benchCheck (8 * line.toNat + i)) = Ecc.clean)) ∧
    (∃ (d : Device) (a : Fin 3) (line : BitVec 17), ∃ o ∈ (d.benchLine line.toNat).owner, d.por = false ∧
      d.flag Fld.devReadyBench = true ∧ (d.benchLine line.toNat).busy = false ∧ d.benchBusy < 16 ∧ d.laneWaiting a.val < 8) ∧
    (∃ (d : Device) (a : Fin 3) (line : BitVec 17) (i : Nat), d.por = false ∧ d.flag Fld.devReadyBench = true ∧
      (d.benchLine line.toNat).busy = false ∧ d.benchBusy < 16 ∧ d.laneWaiting a.val < 8 ∧ (d.benchLine line.toNat).owner = none ∧
      i < 8 ∧ bitOf (d.benchLine line.toNat).sharers.toNat a.val = false ∧
      eccDecode (d.benchData (8 * line.toNat + i)) (d.benchCheck (8 * line.toNat + i)) = Ecc.uncorrectable) ∧
    (∃ (d : Device) (a : Fin 3) (line : BitVec 17), d.por = false ∧ d.flag Fld.devReadyBench = true ∧
      (d.benchLine line.toNat).busy = false ∧ d.benchBusy < 16 ∧ d.laneWaiting a.val < 8) ∧
    (∃ (d : Device) (a : Fin 3) (line : BitVec 17), d.por = false ∧ d.flag Fld.devReadyBench = true ∧
      (∀ q ∈ (d.benchLine line.toNat).pend, q.src.val ≠ a.val) ∧ d.laneWaiting a.val < 8 ∧ ((d.benchLine line.toNat).busy = true ∨
      16 ≤ d.benchBusy)) ∧
    (∃ (d : Device) (a : Fin 3) (line : BitVec 17), d.por = false ∧ d.flag Fld.devReadyBench = true ∧
      (∀ q ∈ (d.benchLine line.toNat).pend, q.src.val ≠ a.val) ∧ d.laneWaiting a.val < 8) ∧
    (∃ (d : Device) (line : BitVec 17), d.por = false ∧ (d.benchLine line.toNat).pend = []) ∧
    (∃ (l : List LineReq) (r : LineReq), ∃ q ∈ nextLineReq l, r ∈ l) ∧
    (∃ (d : Device) (a : Fin 3) (line : BitVec 17), ∃ w0 : LineReq, w0 ∈ (d.benchLine line.toNat).pend.head? ∧ d.por = false ∧
      (d.benchLine line.toNat).pend = [{ src := a.castSucc, cycle := w0.cycle, op := LineOp.getS }] ∧
      (d.benchLine line.toNat).owner = none ∧ (∀ i < 8,
      eccDecode (d.benchData (8 * line.toNat + i)) (d.benchCheck (8 * line.toNat + i)) = Ecc.clean)) ∧
    (∃ (d : Device) (a : Fin 3) (line : BitVec 17) (op : Bool → Instr), d.por = false ∧ d.flag Fld.devReadyBench = false ∧
      (op = Instr.getS a line ∨ op = Instr.getM a line)) ∧
    (∃ (d : Device) (a : Fin 3) (line : BitVec 17) (op : Bool → Instr), d.por = false ∧ d.flag Fld.devReadyBench = true ∧
      8 ≤ d.laneWaiting a.val ∧ (op = Instr.getS a line ∨ op = Instr.getM a line)) :=
  ⟨⟨fw, 0, 5, by decide +kernel⟩,
   ⟨(line (fun l => { l with owner := some 2, data := 99 }) fw), 0, 5, by decide +kernel⟩,
   ⟨((fw.setByte (0x10000000 + 320) 3)), 0, 5, 0, by decide +kernel⟩,
   ⟨fw, 0, 5, by decide +kernel⟩,
   ⟨(line (fun l => { l with busy := true }) fw), 0, 5, by decide +kernel⟩,
   ⟨fw, 0, 5, by decide +kernel⟩,
   ⟨fw, 5, by decide +kernel⟩,
   ⟨([req 3 .getS, req 2 .getM, req 3 (.putM 5)]), (req 3 .getS), by decide +kernel⟩,
   ⟨(line (fun l => { l with busy := true, pend := [⟨0, 3, .getS⟩] }) fw), 0, 5, by decide +kernel⟩,
   ⟨live, 0, 5, _, rfl, by decide +kernel, .inl rfl⟩,
   ⟨iter 8 (fun k d => d.setBenchLine { d.benchLine k with busy := true, pend := [⟨0, 0, .getS⟩] }) fw, 0, 5, _, rfl, by decide +kernel, by decide +kernel, .inl rfl⟩⟩

end OfBenchLineRequests

/-! ### BenchPatrolAndCache -/

namespace OfBenchPatrolAndCache

def line (k : Nat) (f : BenchLine → BenchLine) (d : Device) : Device := d.setBenchLine (f (d.benchLine k))
def patrol (d : Device) : Device := setF [(Fld.benchPatrolCtlEn, 1)] d

/-- Every hypothesis of `Obligations.BenchPatrolAndCache` is met. -/
theorem witness_BenchPatrolAndCache :
    (∃ (d : Device), d.por = false ∧ d.flag Fld.devReadyBench = true ∧ d.flag Fld.benchPatrolCtlEn = true ∧
      eccDecode (d.benchData d.bench.patrol) (d.benchCheck d.bench.patrol) = Ecc.clean) ∧
    (∃ (d : Device) (v : Nat), d.por = false ∧ d.flag Fld.devReadyBench = true ∧ d.flag Fld.benchPatrolCtlEn = true ∧
      eccDecode (d.benchData d.bench.patrol) (d.benchCheck d.bench.patrol) = Ecc.corrected v) ∧
    (∃ (d : Device), d.por = false ∧ d.flag Fld.devReadyBench = true ∧ d.flag Fld.benchPatrolCtlEn = true ∧
      eccDecode (d.benchData d.bench.patrol) (d.benchCheck d.bench.patrol) = Ecc.uncorrectable) ∧
    (∃ (d : Device), d.por = false ∧ (d.flag Fld.devReadyBench = false ∨ d.flag Fld.benchPatrolCtlEn = false)) ∧
    (∃ (d : Device), d.por = false) ∧
    (∃ (d : Device), d.por = false ∧ d.flag Fld.benchStatusZeroing = true ∧ d.fldBit Fld.pwrDomStatusOn 18 = true ∧
      d.flag Fld.secStatusErasing = false) ∧
    (∃ (d : Device), d.por = false ∧ (d.flag Fld.benchStatusZeroing = false ∨ d.fldBit Fld.pwrDomStatusOn 18 = false ∨
      d.flag Fld.secStatusErasing = true)) ∧
    (∃ (d : Device) (addr : Word), d.por = false ∧ 268435456 ≤ BitVec.toNat addr ∧ BitVec.toNat addr < 276824064 ∧
      (d.benchLine ((BitVec.toNat addr - 268435456) / 64)).owner = some 2) ∧
    (∃ (d : Device) (addr : Word), d.por = false ∧ 268435456 ≤ BitVec.toNat addr ∧ BitVec.toNat addr < 276824064 ∧
      (d.benchLine ((BitVec.toNat addr - 268435456) / 64)).owner ≠ some 2) ∧
    (∃ (d : Device) (addr : Word), d.por = false ∧ (BitVec.toNat addr < 268435456 ∨ 276824064 ≤ BitVec.toNat addr)) :=
  ⟨⟨(patrol fw), by decide +kernel⟩,
   ⟨((patrol fw).setByte 0x10000000 1), 0, by decide +kernel⟩,
   ⟨((patrol fw).setByte 0x10000000 3), by decide +kernel⟩,
   ⟨live, by decide +kernel⟩,
   ⟨(patrol fw), by decide +kernel⟩,
   ⟨(setF [(Fld.benchStatusZeroing, 1)] (bench 8 [5] live)), by decide +kernel⟩,
   ⟨(patrol fw), by decide +kernel⟩,
   ⟨(line 5 (fun l => { l with owner := some 2 }) (line 9 (fun l => { l with owner := some 2 }) fw)), 0x10000148, by decide +kernel⟩,
   ⟨(patrol fw), 0x10000148, by decide +kernel⟩,
   ⟨(patrol fw), 0xFFFFFFF, by decide +kernel⟩⟩

end OfBenchPatrolAndCache

/-! ### BootAndCommandReady, Autoload -/

namespace OfBootAndCommandReady

def rom (d : Device) : Device := setF [(Fld.secStatusOtpOk, 1)] { d with hwd := { d.hwd with boot := 1 } }
def allReady (d : Device) : Device := up [(Reg.devReady, 0xFFFF)] (setF [(Fld.grnStatusDReady, 1), (Fld.resStatusReady, 1)] d)
def ready2 : Device := allReady { live with hwd := { live.hwd with boot := 2 } }
def dirBytes (n src per pol : Nat) (es : List Byte) : List Byte :=
  let h := ascii "GDNA" ++ leBytes 1 1 ++ leBytes 1 n ++ leBytes 1 src ++ leBytes 1 0 ++ leBytes 4 per ++ leBytes 4 pol ++ List.replicate 44 0
  h ++ leBytes 4 (crc32c (h ++ es)) ++ es
def entry (k s p v : Nat) : List Byte := leBytes 1 k ++ leBytes 1 s ++ leBytes 1 p ++ leBytes 1 v ++ leBytes 60 0
def boots (sel : Nat) (b : List Byte) : Device := (setF [(Fld.bmxCtlActRestored, 1), (Fld.devStrapBootSel,
    sel)] (setF [(Fld.resStatusReady, 1)] fw)).setBytes (autoDirectory sel) b

/-- Every hypothesis of `Obligations.BootAndCommandReady` is met. -/
theorem witness_BootAndCommandReady :
    (∃ (d : Device), d.por = false ∧ d.warm = false ∧ d.hwd.boot = 1 ∧ d.safety.test ≠ 2 ∧ d.flag Fld.secStatusOtpOk = false) ∧
    (∃ (d : Device), d.por = false ∧ d.warm = false ∧ d.hwd.boot = 1 ∧ d.safety.test ≠ 2 ∧ d.flag Fld.secStatusOtpOk = true ∧
      d.flag Fld.devReadyAon = true ∧ d.flag Fld.devReadyGrainD = true ∧ d.flag Fld.devReadyResident = true) ∧
    (∃ (d : Device), d.por = false ∧ (d.warm = true ∨ d.hwd.boot ≠ 1 ∨ d.safety.test = 2 ∨ d.flag Fld.secStatusOtpOk = true ∧
      (d.flag Fld.devReadyAon = false ∨ d.flag Fld.devReadyGrainD = false ∨ d.flag Fld.devReadyResident = false))) ∧
    (∃ (d : Device), d.por = false ∧ d.warm = false ∧ d.hwd.boot = 2 ∧ d.flag Fld.hwdStatusCmdReady = false) ∧
    (∃ (d : Device), d.por = false ∧ d.warm = false ∧ d.hwd.boot = 2 ∧ d.flag Fld.hwdStatusCmdReady = false ∧
      d.fld Fld.hwdSvnSvn ≤ d.rollback ∧ (∀ (n : Fin 16), (d.slot n).binding = none) ∧ (∀ t < 8, d.actRecorded t = none)) ∧
    (∃ (d : Device), d.por = false ∧ (d.warm = true ∨ d.hwd.boot ≠ 2 ∨ d.flag Fld.hwdStatusCmdReady = true)) :=
  ⟨⟨(setF [(Fld.secStatusOtpOk, 0)] (rom live)), by decide +kernel⟩,
   ⟨(rom (allReady live)), by decide +kernel⟩,
   ⟨(rom live), by decide +kernel⟩,
   ⟨ready2, by decide +kernel⟩,
   ⟨ready2, by decide +kernel⟩,
   ⟨(setF [(Fld.secStatusOtpOk, 0)] (rom live)), by decide +kernel⟩⟩

/-- Every hypothesis of `Obligations.Autoload` is met. -/
theorem witness_Autoload :
    (∃ (d : Device), d.por = false ∧ (d.fwRuns = false ∨ d.flag Fld.bmxCtlActRestored = false ∨ d.fld Fld.devStrapBootSel = 0 ∨
      d.fld Fld.devBootCauseCause = 5 ∨ d.flag Fld.devAutoloadDone = true)) ∧
    (∃ (d : Device), d.por = false ∧ d.fwRuns = true ∧ d.flag Fld.bmxCtlActRestored = true ∧ d.fld Fld.devStrapBootSel ≠ 0 ∧
      d.fld Fld.devBootCauseCause ≠ 5 ∧ d.flag Fld.devAutoloadDone = false ∧ d.hwd.auto = none ∧
      d.torn ((if d.fld Fld.devStrapBootSel = 3 then 33488896 else 16711680) / 65536) = true) ∧
    (∃ (d : Device), d.por = false ∧ d.fwRuns = true ∧ d.flag Fld.bmxCtlActRestored = true ∧ d.fld Fld.devStrapBootSel ≠ 0 ∧
      d.fld Fld.devBootCauseCause ≠ 5 ∧ d.flag Fld.devAutoloadDone = false ∧ d.hwd.auto = none ∧
      d.torn ((if d.fld Fld.devStrapBootSel = 3 then 33488896 else 16711680) / 65536) = false ∧
      ((d.setFlag Fld.devAutoloadRunning true).fwRead (if d.fld Fld.devStrapBootSel = 3 then 33488896 else 16711680) 64).1.code = 0 ∧
      (((d.setFlag Fld.devAutoloadRunning true).fwRead (if d.fld Fld.devStrapBootSel = 3 then 33488896 else 16711680) 64).2.fwRead ((if d.fld Fld.devStrapBootSel = 3 then 33488896 else 16711680) + 64) (64 * min 16 (leAt ((d.setFlag Fld.devAutoloadRunning true).fwRead (if d.fld Fld.devStrapBootSel = 3 then 33488896 else 16711680) 64).1.data 5 1))).1.code = 0 ∧
      autoValid ((d.setFlag Fld.devAutoloadRunning true).fwRead (if d.fld Fld.devStrapBootSel = 3 then 33488896 else 16711680) 64).1.data (((d.setFlag Fld.devAutoloadRunning true).fwRead (if d.fld Fld.devStrapBootSel = 3 then 33488896 else 16711680) 64).2.fwRead ((if d.fld Fld.devStrapBootSel = 3 then 33488896 else 16711680) + 64) (64 * min 16 (leAt ((d.setFlag Fld.devAutoloadRunning true).fwRead (if d.fld Fld.devStrapBootSel = 3 then 33488896 else 16711680) 64).1.data 5 1))).1.data = false) ∧
    (∃ (d : Device), d.por = false ∧ d.fwRuns = true ∧ d.flag Fld.bmxCtlActRestored = true ∧ d.fld Fld.devStrapBootSel ≠ 0 ∧
      d.fld Fld.devBootCauseCause ≠ 5 ∧ d.flag Fld.devAutoloadDone = false ∧ d.hwd.auto = none ∧
      d.torn ((if d.fld Fld.devStrapBootSel = 3 then 33488896 else 16711680) / 65536) = false ∧
      ((d.setFlag Fld.devAutoloadRunning true).fwRead (if d.fld Fld.devStrapBootSel = 3 then 33488896 else 16711680) 64).1.code = 0 ∧
      leAt ((d.setFlag Fld.devAutoloadRunning true).fwRead (if d.fld Fld.devStrapBootSel = 3 then 33488896 else 16711680) 64).1.data 5 1 = 0 ∧
      (((d.setFlag Fld.devAutoloadRunning true).fwRead (if d.fld Fld.devStrapBootSel = 3 then 33488896 else 16711680) 64).2.fwRead ((if d.fld Fld.devStrapBootSel = 3 then 33488896 else 16711680) + 64) 0).1.code = 0 ∧
      autoValid ((d.setFlag Fld.devAutoloadRunning true).fwRead (if d.fld Fld.devStrapBootSel = 3 then 33488896 else 16711680) 64).1.data (((d.setFlag Fld.devAutoloadRunning true).fwRead (if d.fld Fld.devStrapBootSel = 3 then 33488896 else 16711680) 64).2.fwRead ((if d.fld Fld.devStrapBootSel = 3 then 33488896 else 16711680) + 64) 0).1.data = true) ∧
    (∃ (d : Device), d.por = false ∧ d.fwRuns = true ∧ d.flag Fld.bmxCtlActRestored = true ∧ d.fld Fld.devStrapBootSel = 1 ∧
      d.fld Fld.devBootCauseCause ≠ 5 ∧ d.flag Fld.devAutoloadDone = false ∧ d.hwd.auto = none ∧ d.torn 255 = false ∧
      ((d.setFlag Fld.devAutoloadRunning true).fwRead 16711680 64).1.code = 0 ∧
      leAt ((d.setFlag Fld.devAutoloadRunning true).fwRead 16711680 64).1.data 5 1 = 1 ∧
      (((d.setFlag Fld.devAutoloadRunning true).fwRead 16711680 64).2.fwRead (16711680 + 64) 64).1.code = 0 ∧
      autoValid ((d.setFlag Fld.devAutoloadRunning true).fwRead 16711680 64).1.data (((d.setFlag Fld.devAutoloadRunning true).fwRead 16711680 64).2.fwRead (16711680 + 64) 64).1.data = true ∧
      (((d.setFlag Fld.devAutoloadRunning true).fwRead 16711680 64).2.fwRead (16711680 + 64) 64).2.fld Fld.ldrJqStatusDepth < 16 ∧
      3 < leAt (((d.setFlag Fld.devAutoloadRunning true).fwRead 16711680 64).2.fwRead (16711680 + 64) 64).1.data 0 1) ∧
    (∃ (d : Device) (p : Fin 2) (n : Fin 16), d.por = false ∧ d.fwRuns = true ∧ d.flag Fld.bmxCtlActRestored = true ∧
      d.fld Fld.devStrapBootSel = 1 ∧ d.fld Fld.devBootCauseCause ≠ 5 ∧ d.flag Fld.devAutoloadDone = false ∧ d.hwd.auto = none ∧
      d.torn 255 = false ∧ ((d.setFlag Fld.devAutoloadRunning true).fwRead 16711680 64).1.code = 0 ∧
      leAt ((d.setFlag Fld.devAutoloadRunning true).fwRead 16711680 64).1.data 5 1 = 1 ∧
      (((d.setFlag Fld.devAutoloadRunning true).fwRead 16711680 64).2.fwRead (16711680 + 64) 64).1.code = 0 ∧
      autoValid ((d.setFlag Fld.devAutoloadRunning true).fwRead 16711680 64).1.data (((d.setFlag Fld.devAutoloadRunning true).fwRead 16711680 64).2.fwRead (16711680 + 64) 64).1.data = true ∧
      (((d.setFlag Fld.devAutoloadRunning true).fwRead 16711680 64).2.fwRead (16711680 + 64) 64).2.fld Fld.ldrJqStatusDepth < 16 ∧
      leAt (((d.setFlag Fld.devAutoloadRunning true).fwRead 16711680 64).2.fwRead (16711680 + 64) 64).1.data 0 1 = 0 ∧
      leAt (((d.setFlag Fld.devAutoloadRunning true).fwRead 16711680 64).2.fwRead (16711680 + 64) 64).1.data 1 1 = n.val ∧
      leAt (((d.setFlag Fld.devAutoloadRunning true).fwRead 16711680 64).2.fwRead (16711680 + 64) 64).1.data 2 1 = p.val ∧
      1 ≤ leAt (((d.setFlag Fld.devAutoloadRunning true).fwRead 16711680 64).2.fwRead (16711680 + 64) 64).1.data 3 1 ∧
      leAt (((d.setFlag Fld.devAutoloadRunning true).fwRead 16711680 64).2.fwRead (16711680 + 64) 64).1.data 3 1 ≤ 16 ∧
      (d.slot n).gkind = 0 ∧ (d.slot n).gmember = 0 ∧ (d.slot n).st = SlotState.empty ∧ (d.slot n).binding = none ∧
      (d.slot n).pend5 = none ∧
      bitOf ((((d.setFlag Fld.devAutoloadRunning true).fwRead 16711680 64).2.fwRead (16711680 + 64) 64).2.rd (Reg.slcFault n.val)) faultSweep = false ∧
      (∀ (m : Fin 16), (d.slot m).binding ≠ some (p,
      leAt (((d.setFlag Fld.devAutoloadRunning true).fwRead 16711680 64).2.fwRead (16711680 + 64) 64).1.data 3 1))) :=
  ⟨⟨(setF [(Fld.secStatusOtpOk, 0)] (rom live)), by decide +kernel⟩,
   ⟨(up [(Reg.resTornMap 7, 2^31)] (boots 1 [])), by decide +kernel⟩,
   ⟨(boots 1 []), by decide +kernel⟩,
   ⟨(boots 1 (dirBytes 0 1 0 0 [])), by decide +kernel⟩,
   ⟨(boots 1 (dirBytes 1 0 0 0 (entry 4 3 0 2))), by decide +kernel⟩,
   ⟨(boots 1 (dirBytes 1 0 0 0 (entry 0 3 0 2))), 0, 3, by decide +kernel⟩⟩

end OfBootAndCommandReady

/-! ### GrainStoreAndRecall -/

namespace OfGrainStoreAndRecall

/-- The header of a bank that a closed STORE wrote, with SSN 7. -/
def bankHead (crc : Nat) : List Byte :=
  leBytes 4 0x534E5247 ++ leBytes 4 7 ++ leBytes 1 2 ++ leBytes 1 1 ++ leBytes 2 0 ++ leBytes 4 crc ++ leBytes 4 0 ++
    List.replicate 40 (0 : Byte)

theorem xor_lt_word {x y : Nat} (hx : x < 2 ^ 32) (hy : y < 2 ^ 32) : Nat.xor x y < 2 ^ 32 := Nat.xor_lt_two_pow hx hy

theorem crcByteR_lt (c b : Nat) (hc : c < 2 ^ 32) (hb : b < 2 ^ 32) : crcByteR 0x82F63B78 c b < 2 ^ 32 := by
  have h : ∀ (p : Nat), p < 2 ^ 32 → ∀ (l : List Nat) (c : Nat), c < 2 ^ 32 →
      l.foldl (fun c _ => if c % 2 = 1 then Nat.xor (c / 2) p else c / 2) c < 2 ^ 32 := by
    intro p hp l
    induction l with
    | nil => exact fun c h => h
    | cons _ t ih =>
      intro c h
      have h2 : c / 2 < 2 ^ 32 := by omega
      rw [List.foldl_cons]
      refine ih _ ?_
      by_cases hm : c % 2 = 1
      · rw [if_pos hm]; exact xor_lt_word h2 hp
      · rw [if_neg hm]; exact h2
  unfold crcByteR iter
  exact h _ (by norm_num) _ _ (xor_lt_word hc hb)

theorem crc32c_lt (bs : List Byte) : crc32c bs < 2 ^ 32 := by
  have h : ∀ (bs : List Byte) (c : Nat), c < 2 ^ 32 → bs.foldl (fun c b => crcByteR 0x82F63B78 c b.toNat) c < 2 ^ 32 := by
    intro bs
    induction bs with
    | nil => exact fun c h => h
    | cons b t ih => exact fun c h => ih _ (crcByteR_lt _ _ h (by have := b.isLt; omega))
  have h1 : (0xFFFFFFFF : Nat) < 2 ^ 32 := by norm_num
  unfold crc32c
  exact xor_lt_word h1 (h bs _ h1)

theorem leOf_leBytes_four (v : Nat) (h : v < 2 ^ 32) : leOf (leBytes 4 v) = v := by
  simp [leBytes, leOf]; omega

theorem length_leBytes (n v : Nat) : (leBytes n v).length = n := by
  induction n generalizing v with
  | zero => rfl
  | succ n ih => simp [leBytes, ih]

theorem bankHead_length (crc : Nat) : (bankHead crc).length = 60 := by simp [bankHead, length_leBytes]

/-- A bank header with its own check. -/
def bankHeadFull (crc : Nat) : List Byte := bankHead crc ++ leBytes 4 (crc32c (bankHead crc))

theorem bankHeadFull_length (crc : Nat) : (bankHeadFull crc).length = 64 := by
  rw [bankHeadFull, List.length_append, bankHead_length, length_leBytes]

theorem bankHeadFull_readable (crc : Nat) : headerReadable (bankHeadFull crc) = true := by
  have hl := bankHead_length crc
  rw [headerReadable, Bool.and_eq_true, beq_iff_eq, beq_iff_eq]
  constructor
  · simp [bankHeadFull, bankHead, leAt, leBytes, leOf]
  · rw [bankHeadFull, leAt, List.drop_left' hl, List.take_left' hl, List.take_of_length_le (by rw [length_leBytes]),
      leOf_leBytes_four _ (crc32c_lt _)]

theorem bankHeadFull_crc (crc : Nat) (h : crc < 2 ^ 32) : leAt (bankHeadFull crc) 12 4 = crc := by
  simp [bankHeadFull, bankHead, leAt, leBytes, leOf]; omega

theorem bankHeadFull_state (crc : Nat) : leAt (bankHeadFull crc) 8 1 = 2 := by
  simp [bankHeadFull, bankHead, leAt, leBytes, leOf]

/-- A device with nothing written but a header in bank 0. -/
theorem header_written (e : Device) (h : List Byte) (he : e.mem = []) (hl : h.length = 64) :
    (e.setBytes (keyShadow 0 + 0xF0000) h).bankHeader 0 = h ∧
    (e.setBytes (keyShadow 0 + 0xF0000) h).bankHeader 1 = List.replicate 64 0 ∧
    (e.setBytes (keyShadow 0 + 0xF0000) h).bytes (keyShadow 0) 0x40000 = e.bytes (keyShadow 0) 0x40000 := by
  refine ⟨List.ext_getElem ?_ fun i h1 h2 => ?_, List.ext_getElem ?_ fun i h1 h2 => ?_, List.map_congr_left fun i hi => ?_⟩
  · rw [hl, Device.bankHeader, Device.bytes, List.length_map, List.length_range]
  · simp only [Device.bankHeader, Device.bytes, List.getElem_map, List.getElem_range]
    exact Device.byte_setBytes_of_inside _ _ i _ h2
  · rw [Device.bankHeader, Device.bytes, List.length_map, List.length_range, List.length_replicate]
  · have hi : i < 64 := by simpa using h2
    simp only [Device.bankHeader, Device.bytes, List.getElem_map, List.getElem_range, List.getElem_replicate]
    refine (Device.byte_setBytes_of_outside _ _ _ _ (.inr ?_)).trans ?_
    · rw [hl]; simp only [keyShadow]; omega
    · exact blank_byte e he _ (by simp only [keyShadow]; omega) (by simp only [keyShadow]; omega)
  · exact Device.byte_setBytes_of_outside _ _ _ _ (.inl (by have := List.mem_range.1 hi; omega))

/-- Bank 0 of a device with nothing written else is valid where its header holds the CRC of its data. -/
theorem banked_valid (e : Device) (crc : Nat) (he : e.mem = []) (hc : crc = crc32c (e.bytes (keyShadow 0) 0x40000)) :
    (e.writeHeader 0 7 2 1 crc 0).newestBank = some 0 ∧ (e.writeHeader 0 7 2 1 crc 0).bankValid 0 = true := by
  have hw : e.writeHeader 0 7 2 1 crc 0 = e.setBytes (keyShadow 0 + 0xF0000) (bankHeadFull crc) := rfl
  have hlt : crc < 2 ^ 32 := hc ▸ crc32c_lt _
  have hr := bankHeadFull_readable crc
  have hd := bankHeadFull_crc crc hlt
  have hs := bankHeadFull_state crc
  obtain ⟨h0, h1, h2⟩ := header_written e (bankHeadFull crc) he (bankHeadFull_length crc)
  rw [hw]
  generalize e.setBytes (keyShadow 0 + 0xF0000) (bankHeadFull crc) = u at h0 h1 h2
  have hz : headerReadable (List.replicate 64 0) = false := by decide +kernel
  constructor
  · simp only [Device.newestBank, h0, h1, hr, hz]; rfl
  · simp only [Device.bankValid, h0, h2, hr, hd, hs, ← hc, beq_self_eq_true]; rfl

/-- A device whose channel S is armed, with nothing written. -/
def armed0 : Device := setF [(Fld.grnStatusArmed, 1)] live

/-- Bank 0 holds a closed STORE with SSN 7. -/
def banked : Device := armed0.writeHeader 0 7 2 1 (crc32c (armed0.bytes (keyShadow 0) 0x40000)) 0

theorem banked_shape : ∃ m, banked = { armed0 with mem := m } := Device.setBytes_shape _ _ _
theorem banked_por : banked.por = armed0.por := by obtain ⟨m, h⟩ := banked_shape; rw [h]
theorem banked_grain : banked.grain = armed0.grain := by obtain ⟨m, h⟩ := banked_shape; rw [h]
theorem banked_flag (f : Fld) : banked.flag f = armed0.flag f := by obtain ⟨m, h⟩ := banked_shape; rw [h]; rfl
theorem banked_fldBit (f : Fld) (i : Nat) : banked.fldBit f i = armed0.fldBit f i := by obtain ⟨m, h⟩ := banked_shape; rw [h]; rfl

/-- Every hypothesis of `Obligations.GrainStoreAndRecall` is met. -/
theorem witness_GrainStoreAndRecall :
    (∃ (d : Device) (data : Word), ∃ b ∈ d.newestBank, d.por = false ∧ bitOf (BitVec.toNat data) 0 = true ∧ d.grain.store = none ∧
      d.flag Fld.grnStatusArmed = true) ∧
    (∃ (d : Device) (data : Word), d.por = false ∧ bitOf (BitVec.toNat data) 0 = true ∧ d.grain.store = none ∧
      d.flag Fld.grnStatusArmed = true ∧ d.newestBank = none) ∧
    (∃ (d : Device) (data : Word), d.por = false ∧ bitOf (BitVec.toNat data) 0 = true ∧ d.grain.store = none ∧
      d.flag Fld.grnStatusArmed = false) ∧
    (∃ (d : Device), d.por = false ∧ d.grain.store.isSome = true) ∧
    (∃ (d : Device), ∃ j ∈ d.grain.store, d.por = false ∧ d.grain.waiters = [] ∧ d.power.grainOff ≠ 2 ∧ d.power.hib = none) ∧
    (∃ (d : Device), d.por = false ∧ d.flag Fld.grnStatusArmed = false ∧ d.power.hib = none ∧ d.power.grainOff = 1) ∧
    (∃ (d : Device), ∃ b ∈ d.newestBank, d.por = false ∧ d.fldBit Fld.pwrDomStatusOn 19 = true ∧
      d.flag Fld.grnStatusSReady = false ∧ d.bankValid b = true) ∧
    (∃ (d : Device), d.por = false ∧ d.fldBit Fld.pwrDomStatusOn 19 = true ∧ d.flag Fld.grnStatusSReady = false ∧
      d.newestBank = none) :=
  ⟨⟨banked, 1, 0, (banked_valid armed0 _ rfl rfl).1, by rw [banked_por]; decide +kernel, by decide +kernel, by rw [banked_grain]; decide +kernel, by rw [banked_flag]; decide +kernel⟩,
   ⟨(setF [(Fld.grnStatusArmed, 1)] live), 1, by decide +kernel⟩,
   ⟨live, 1, by decide +kernel⟩,
   ⟨({ live with grain := { live.grain with store := some ⟨1, 8, 2⟩ } }), by decide +kernel⟩,
   ⟨({ live with grain := { live.grain with store := some ⟨1, 8, 2⟩ } }), by decide +kernel⟩,
   ⟨({ live with power := { live.power with grainOff := 1 } }), by decide +kernel⟩,
   ⟨banked, 0, (banked_valid armed0 _ rfl rfl).1, by rw [banked_por]; decide +kernel, by rw [banked_fldBit]; decide +kernel, by rw [banked_flag]; decide +kernel, (banked_valid armed0 _ rfl rfl).2⟩,
   ⟨(setF [(Fld.grnStatusArmed, 1)] live), by decide +kernel⟩⟩

end OfGrainStoreAndRecall

/-! ### GrainPagesAndPatrol -/

namespace OfGrainPagesAndPatrol

def patrolling : Device := setF [(Fld.grnPatrolCtlEn, 1), (Fld.grnStatusSReady, 1)] live

/-- Every hypothesis of `Obligations.GrainPagesAndPatrol` is met. -/
theorem witness_GrainPagesAndPatrol :
    (∃ (d : Device) (tcid : Fin 64) (data : Word), d.por = false ∧ bitOf (BitVec.toNat data) 31 = true ∧ d.grain.page = none ∧
      0 < bitsOf (BitVec.toNat data) 19 7 ∧ bitsOf (BitVec.toNat data) 19 7 ≤ 64 ∧
      bitsOf (BitVec.toNat data) 0 18 + bitsOf (BitVec.toNat data) 19 7 ≤ grainSize (bitsOf (BitVec.toNat data) 18 1) ∧
      (bitsOf (BitVec.toNat data) 18 1 = 1 → bitsOf (BitVec.toNat data) 0 18 % 64 + bitsOf (BitVec.toNat data) 19 7 ≤ 64) ∧
      (d.judgeSpan (masterOfTcid tcid.val) tcid.val 2 (grainBase (bitsOf (BitVec.toNat data) 18 1) + bitsOf (BitVec.toNat data) 0 18) (bitsOf (BitVec.toNat data) 19 7) true).1 = true ∧
      (d.judgeSpan (masterOfTcid tcid.val) tcid.val 2 (grainBase (bitsOf (BitVec.toNat data) 18 1) + bitsOf (BitVec.toNat data) 0 18) (bitsOf (BitVec.toNat data) 19 7) true).2.grain.page = none ∧
      ((d.judgeSpan (masterOfTcid tcid.val) tcid.val 2 (grainBase (bitsOf (BitVec.toNat data) 18 1) + bitsOf (BitVec.toNat data) 0 18) (bitsOf (BitVec.toNat data) 19 7) true).2.grainJudge tcid.val (bitsOf (BitVec.toNat data) 18 1) (bitsOf (BitVec.toNat data) 0 18) (bitsOf (BitVec.toNat data) 19 7) true).1 = true ∧
      ((d.judgeSpan (masterOfTcid tcid.val) tcid.val 2 (grainBase (bitsOf (BitVec.toNat data) 18 1) + bitsOf (BitVec.toNat data) 0 18) (bitsOf (BitVec.toNat data) 19 7) true).2.grainJudge tcid.val (bitsOf (BitVec.toNat data) 18 1) (bitsOf (BitVec.toNat data) 0 18) (bitsOf (BitVec.toNat data) 19 7) true).2 = (d.judgeSpan (masterOfTcid tcid.val) tcid.val 2 (grainBase (bitsOf (BitVec.toNat data) 18 1) + bitsOf (BitVec.toNat data) 0 18) (bitsOf (BitVec.toNat data) 19 7) true).2 ∧
      (bitsOf (BitVec.toNat data) 18 1 = 0 →
      (d.judgeSpan (masterOfTcid tcid.val) tcid.val 2 (grainBase (bitsOf (BitVec.toNat data) 18 1) + bitsOf (BitVec.toNat data) 0 18) (bitsOf (BitVec.toNat data) 19 7) true).2.flag Fld.grnStatusSReady = true ∧
      (d.judgeSpan (masterOfTcid tcid.val) tcid.val 2 (grainBase (bitsOf (BitVec.toNat data) 18 1) + bitsOf (BitVec.toNat data) 0 18) (bitsOf (BitVec.toNat data) 19 7) true).2.grainPfBlocked = false)) ∧
    (∃ (d : Device) (data : Word), d.por = false ∧ bitOf (BitVec.toNat data) 31 = true ∧ d.grain.page.isSome = true) ∧
    (∃ (d : Device), ∃ j ∈ d.grain.page, d.por = false ∧ (j.ch = 0 → d.grain.store = none)) ∧
    (∃ (d : Device) (ch : Nat) (g : Nat), d.por = false ∧ d.fldBit Fld.pwrDomStatusOn 19 = true ∧ d.flag Fld.grnPatrolCtlEn = true ∧
      (d.grain.patrol < 32768 ∧ ch = 0 ∧ g = d.grain.patrol ∧ d.flag Fld.grnStatusSReady = true ∨ 32768 ≤ d.grain.patrol ∧ ch = 1 ∧
      g = d.grain.patrol - 32768) ∧ eccDecode (d.grainData ch g) (d.grainCheck ch g) = Ecc.clean) ∧
    (∃ (d : Device) (ch : Nat) (g : Nat) (v : Nat), d.por = false ∧ d.fldBit Fld.pwrDomStatusOn 19 = true ∧
      d.flag Fld.grnPatrolCtlEn = true ∧ (d.grain.patrol < 32768 ∧ ch = 0 ∧ g = d.grain.patrol ∧ d.flag Fld.grnStatusSReady = true ∨
      32768 ≤ d.grain.patrol ∧ ch = 1 ∧ g = d.grain.patrol - 32768) ∧
      eccDecode (d.grainData ch g) (d.grainCheck ch g) = Ecc.corrected v) :=
  ⟨⟨fw, 0x3E, (0x80000000 + 8 * 2 ^ 19 + 2 ^ 18 + 0x100), by decide +kernel⟩,
   ⟨({ live with grain := { live.grain with page := some ⟨0x3E, 1, 0x100, [1, 2, 3, 4]⟩ } }), (0x80000000 + 8 * 2 ^ 19 + 2 ^ 18 + 0x100), by decide +kernel⟩,
   ⟨({ live with grain := { live.grain with page := some ⟨0x3E, 1, 0x100, [1, 2, 3, 4]⟩ } }), by decide +kernel⟩,
   ⟨(setF [(Fld.grnStatusSReady, 1)] fw), 0, 0, by decide +kernel⟩,
   ⟨(patrolling.setByte (grainBase 0) 1), 0, 0, 0, by decide +kernel⟩⟩

end OfGrainPagesAndPatrol

/-! ### GrainUnlocksAndPasswords -/

namespace OfGrainUnlocksAndPasswords

/-- Every hypothesis of `Obligations.GrainUnlocksAndPasswords` is met. -/
theorem witness_GrainUnlocksAndPasswords :
    (∃ (d : Device) (tcid : Fin 64) (ch : Fin 2) (region : Fin 8) (write : Bool), d.por = false ∧
      d.fldBit Fld.grnUnlockFailLockout (8 * ch.val + region.val) = false ∧
      d.rd (perTcid tcid.val Reg.grnUnlockLo) + 2 ^ 32 * d.rd (perTcid tcid.val Reg.grnUnlockHi) = d.password ch.val region.val write ∧
      d.unlocked tcid.val ch.val region.val write = false) ∧
    (∃ (d : Device) (tcid : Fin 64) (ch : Fin 2) (region : Fin 8) (write : Bool), ∃ n ∈ d.grain.fails[8 * ch.val + region.val]?,
      d.por = false ∧ d.fldBit Fld.grnUnlockFailLockout (8 * ch.val + region.val) = false ∧
      d.rd (perTcid tcid.val Reg.grnUnlockLo) + 2 ^ 32 * d.rd (perTcid tcid.val Reg.grnUnlockHi) ≠ d.password ch.val region.val write ∧
      n + 1 < 8) ∧
    (∃ (d : Device) (ch : Fin 2) (region : Fin 8), d.por = false ∧
      d.fldBit Fld.grnUnlockFailLockout (8 * ch.val + region.val) = true) ∧
    (∃ (d : Device), d.por = false) :=
  ⟨⟨live, 0x3E, 0, 3, false, by decide +kernel⟩,
   ⟨(up [(perTcid 1 Reg.grnUnlockLo, 5)] live), 1, 0, 3, false, by decide +kernel⟩,
   ⟨(setF [(Fld.grnUnlockFailLockout, 0xFFFF)] live), 0, 3, by decide +kernel⟩,
   ⟨live, by decide +kernel⟩⟩

end OfGrainUnlocksAndPasswords

/-! ### ResidentStoreController -/

namespace OfResidentStoreController

def pageB (d : Device) : Device := { setF [(Fld.resBufValid, 1), (Fld.resBufPage, 5), (Fld.grnStatusDReady, 1)] d with resident := { d.resident with page := List.replicate 256 0x5A } }
def job_ (op : Nat) : Device := { fw with resident := { fw.resident with job := some ⟨op, false, 5, List.replicate 256 0x5A, 0⟩ } }
def scan : Device := setF [(Fld.grnStatusDReady, 1)] live

/-- With nothing written, no entry of a resident store sector is OPEN. -/
theorem sectors_closed (e : Device) (he : e.mem = []) (s : Nat) (hs : s < 512) : e.sectorOpen s = false := by
  have hg : grainBase 1 = 0x20100000 := rfl
  have hk : ∀ g, grainCheckKey 1 g = 2 ^ 40 + 0x20008000 + g := by
    intro g
    rw [grainCheckKey, keyGrainCheck, ← Nat.add_assoc]
  have hd : e.grainData 1 (0x2000 + s / 2) = 0 := by
    rw [Device.grainData, hg]
    exact blank_le e he _ (by omega) (by omega)
  have hc : e.grainCheck 1 (0x2000 + s / 2) = 0 := by
    have hz := blank_byte e he (2 ^ 40 + 0x20008000 + (0x2000 + s / 2)) (by omega) (by omega)
    rw [Device.grainCheck, hk, hz]; rfl
  have hz : eccDecode 0 0 = .clean := by decide +kernel
  have hv : eccData 0 0 = 0 := by decide +kernel
  have hv2 : ∀ lo, bitsOf 0 lo 32 = 0 := fun lo => by simp [bitsOf]
  unfold Device.sectorOpen Device.sectorEntry
  simp only [hd, hc, hz, hv, hv2]
  rfl

/-- Every hypothesis of `Obligations.ResidentStoreController` is met. -/
theorem witness_ResidentStoreController :
    (∃ (d : Device), d.por = false ∧ d.resident.job = none ∧ d.flag Fld.resStatusIscMode = false ∧ d.flag Fld.resBufValid = true ∧
      d.resProtected (d.fld Fld.resBufPage / 256) = false ∧ d.torn (d.fld Fld.resBufPage / 256) = false ∧
      ((d.resident.page.zip (d.bytes (256 * d.fld Fld.resBufPage) 256)).any fun x => x.1 &&& x.2 != x.1) = false) ∧
    (∃ (d : Device), d.por = false ∧ d.resident.job = none ∧ d.flag Fld.resStatusIscMode = false ∧ d.flag Fld.resBufValid = true ∧
      d.resProtected (d.fld Fld.resBufPage / 256) = false ∧ d.torn (d.fld Fld.resBufPage / 256) = false ∧
      ((d.resident.page.zip (d.bytes (256 * d.fld Fld.resBufPage) 256)).any fun x => x.1 &&& x.2 != x.1) = true) ∧
    (∃ (d : Device) (s : Fin 512), ∃ w0 : Nat × Nat, w0 ∈ (d.sectorEntry s.val) ∧ d.por = false ∧ d.resident.job = none ∧
      d.flag Fld.resStatusIscMode = false ∧ d.resProtected s.val = false ∧ d.flag Fld.grnStatusDReady = true ∧
      d.sectorEntry s.val = some (w0.1, w0.2)) ∧
    (∃ (d : Device), d.por = false ∧ d.resident.job.isSome = true) ∧
    (∃ (d : Device), d.por = false ∧ d.flag Fld.resStatusIscMode = false) ∧
    (∃ (d : Device), d.por = false ∧ d.flag Fld.resStatusIscMode = true) ∧
    (∃ (d : Device), ∃ j ∈ d.resident.job, d.por = false ∧ j.op = 1 ∧ d.flag Fld.resStatusSuspended = false ∧ d.hwd.cmds = [] ∧
      d.power.hib = none) ∧
    (∃ (d : Device), ∃ j ∈ d.resident.job, d.por = false ∧ j.op = 2 ∧ d.flag Fld.resStatusSuspended = false ∧ d.hwd.cmds = [] ∧
      d.power.hib = none) ∧
    (∃ (d : Device), d.por = false ∧ d.resident.job.isSome = true ∧ d.flag Fld.resStatusSuspended = false) ∧
    (∃ (d : Device), d.por = false) ∧
    (∃ (d : Device), d.por = false ∧ d.fldBit Fld.pwrDomStatusOn 20 = true ∧ d.flag Fld.grnStatusDReady = true ∧
      d.flag Fld.resStatusReady = false ∧ (∀ s < 512, d.sectorOpen s = false)) ∧
    (∃ (d : Device), d.por = false ∧ d.fldBit Fld.pwrDomStatusOn 20 = true ∧ d.flag Fld.grnStatusDReady = true ∧
      d.flag Fld.resStatusReady = false ∧ List.filter d.sectorOpen (List.range 512) ≠ []) :=
  ⟨⟨(pageB live), by decide +kernel⟩,
   ⟨((pageB live).setByte 1280 0), by decide +kernel⟩,
   ⟨(pageB live), 3, by decide +kernel⟩,
   ⟨(job_ 1), by decide +kernel⟩,
   ⟨(pageB live), by decide +kernel⟩,
   ⟨(setF [(Fld.resStatusIscMode, 1)] (pageB live)), by decide +kernel⟩,
   ⟨(job_ 1), by decide +kernel⟩,
   ⟨(job_ 2), by decide +kernel⟩,
   ⟨(job_ 1), by decide +kernel⟩,
   ⟨(pageB live), by decide +kernel⟩,
   ⟨(pageB live), by decide +kernel, by decide +kernel, by decide +kernel, by decide +kernel, sectors_closed _ rfl⟩,
   ⟨(scan.setSector 7 0xA5 3), by decide +kernel⟩⟩

end OfResidentStoreController

/-! ### TapInstructions -/

namespace OfTapInstructions

/-- Every hypothesis of `Obligations.TapInstructions` is met. -/
theorem witness_TapInstructions :
    (∃ (d : Device), d.por = false ∧ d.lockBit 0 = false) ∧
    (∃ (d : Device), d.por = false) ∧
    (∃ (d : Device) (levels : BitVec 1573) (cells : BitVec 1573) (i : Instr), d.por = false ∧ d.lockBit 0 = true ∧
      i ∈ [Instr.extest levels cells, Instr.samplePreload levels cells, Instr.highz, Instr.clamp, Instr.bypass, Instr.iscEnable,
      Instr.iscDisable, Instr.iscNoop, Instr.iscProgram, Instr.iscErase, Instr.iscRead]) ∧
    (∃ (d : Device) (n : Fin 16), d.bankOn n = true ∧ (d.jtag.ir = 0 ∨ d.jtag.ir = 13)) ∧
    (∃ (d : Device) (n : Fin 16), d.bankOn n = true ∧ d.jtag.ir = 12) ∧
    (∃ (s : State), s.dev.por = false) :=
  ⟨⟨live, by decide +kernel⟩,
   ⟨live, by decide +kernel⟩,
   ⟨(setF [(Fld.secLocksInForce, 1)] live), 1, 1, .highz, by decide +kernel⟩,
   ⟨({ live with jtag := { live.jtag with ir := 0, bscan := 6 } }), 0, by decide +kernel⟩,
   ⟨({ live with jtag := { live.jtag with ir := 0x0C } }), 0, by decide +kernel⟩,
   ⟨(S live), by decide +kernel⟩⟩

end OfTapInstructions

/-! ### IscInstructions -/

namespace OfIscInstructions

/-- Every hypothesis of `Obligations.IscInstructions` is met. -/
theorem witness_IscInstructions :
    (∃ (d : Device), d.por = false ∧ d.lockBit 0 = false ∧ d.lockBit 1 = false ∧ d.resident.job = none ∧
      d.flag Fld.resStatusIscMode = false) ∧
    (∃ (d : Device), d.por = false ∧ d.lockBit 0 = false ∧ d.lockBit 1 = true) ∧
    (∃ (d : Device), d.por = false ∧ d.lockBit 0 = false ∧ d.resident.job = none) ∧
    (∃ (d : Device), d.por = false ∧ d.lockBit 0 = false) ∧
    (∃ (d : Device), d.por = false ∧ d.lockBit 0 = false ∧ d.lockBit 1 = false ∧ d.flag Fld.resStatusIscMode = true ∧
      d.fldBit Fld.pwrDomStatusOn 20 = true ∧ d.resident.job = none ∧
      (({ d.emit (Out.tdo 8 d.captureIr) with jtag := { d.jtag with ir := 21 } }).emit (Out.tdo 1 0)).programCode (d.jtag.iscAddr.toNat / 256) (leBytes 256 d.jtag.iscData.toNat) = 0) ∧
    (∃ (d : Device), d.por = false ∧ d.lockBit 0 = false ∧ d.lockBit 1 = false ∧ d.flag Fld.resStatusIscMode = true ∧
      d.fldBit Fld.pwrDomStatusOn 20 = true) ∧
    (∃ (d : Device), d.por = false ∧ d.lockBit 0 = false ∧ d.lockBit 1 = false ∧
      d.torn (d.jtag.iscAddr.toNat / 16 * 16 / 65536) = false ∧ d.resident.job = none) :=
  ⟨⟨live, by decide +kernel⟩,
   ⟨(setF [(Fld.secLocksInForce, 2)] live), by decide +kernel⟩,
   ⟨live, by decide +kernel⟩,
   ⟨live, by decide +kernel⟩,
   ⟨(setF [(Fld.resStatusIscMode, 1), (Fld.grnStatusDReady, 1)] live), by decide +kernel⟩,
   ⟨(setF [(Fld.resStatusIscMode, 1), (Fld.grnStatusDReady, 1)] live), by decide +kernel⟩,
   ⟨live, by decide +kernel⟩⟩

end OfIscInstructions

/-! ### SmbusBridge -/

namespace OfSmbusBridge

/-- Every hypothesis of `Obligations.SmbusBridge` is met. -/
theorem witness_SmbusBridge :
    (∃ (d : Device) (bytes : List Byte) (pec : Option Byte), d.por = false ∧ d.flag Fld.devReadyAon = true ∧ d.smb.writes = 0 ∧
      d.smb.reading = false ∧ smbWriteOk bytes = true ∧ d.pecOk 1 bytes pec = true) ∧
    (∃ (d : Device) (bytes : List Byte) (pec : Option Byte), d.por = false ∧ d.flag Fld.devReadyAon = true ∧ d.smb.writes = 0 ∧
      d.smb.reading = false ∧ smbReadOk bytes = true ∧ d.pecOk 2 bytes pec = true) ∧
    (∃ (d : Device), d.por = false ∧ (0 < d.smb.writes ∨ d.smb.reading = true)) ∧
    (∃ (d : Device) (bytes : List Byte) (pec : Option Byte), d.por = false ∧ d.flag Fld.devReadyAon = true ∧ d.smb.writes = 0 ∧
      d.smb.reading = false ∧ smbWriteOk bytes = true ∧ d.pecOk 1 bytes pec = false) ∧
    (∃ (d : Device), d.por = false ∧ d.flag Fld.devReadyAon = true ∧ d.smb.reading = true) ∧
    (∃ (d : Device), d.por = false ∧ d.flag Fld.devReadyAon = true ∧ d.smb.reading = false ∧ d.smb.readCode = 0) ∧
    (∃ (d : Device), d.por = false ∧ d.flag Fld.devReadyAon = true ∧ d.smb.reading = false ∧ d.smb.readCode ≠ 0) ∧
    (∃ (d : Device), d.por = false ∧ d.flag Fld.devReadyAon = true ∧ d.smb.writes = 0) ∧
    (∃ (d : Device), d.por = false ∧ d.flag Fld.devReadyAon = true ∧ 0 < d.smb.writes) ∧
    (∃ (d : Device), d.por = false ∧ d.flag Fld.devReadyAon = true) ∧
    (∃ (d : Device), d.por = false) :=
  ⟨⟨(setF [(Fld.hwdSmbCtlPecReq, 0)] fw), ([0, 0, 0, 0x10, 0, 1, 2, 3, 4]), none, by decide +kernel⟩,
   ⟨(setF [(Fld.hwdSmbCtlPecReq, 0)] fw), ([0, 0, 0, 0x10, 0, 8]), none, by decide +kernel⟩,
   ⟨({ fw with smb := { fw.smb with writes := 1 } }), by decide +kernel⟩,
   ⟨(setF [(Fld.hwdSmbCtlPecReq, 0)] fw), ([0, 0, 0, 0x10, 0, 1, 2, 3, 4]), (some 0), by decide +kernel⟩,
   ⟨({ fw with smb := { fw.smb with reading := true } }), by decide +kernel⟩,
   ⟨(setF [(Fld.hwdSmbCtlPecReq, 0)] fw), by decide +kernel⟩,
   ⟨({ fw with smb := { fw.smb with readCode := 4 } }), by decide +kernel⟩,
   ⟨(setF [(Fld.hwdSmbCtlPecReq, 0)] fw), by decide +kernel⟩,
   ⟨({ fw with smb := { fw.smb with writes := 1 } }), by decide +kernel⟩,
   ⟨(setF [(Fld.hwdSmbCtlPecReq, 0)] fw), by decide +kernel⟩,
   ⟨(setF [(Fld.hwdSmbCtlPecReq, 0)] fw), by decide +kernel⟩⟩

end OfSmbusBridge

/-! ### SecurityEngine -/

namespace OfSecurityEngine

def eng (op len dst : Nat) (d : Device) : Device := { setF [(Fld.engSrcLenLen, len), (Fld.engDstLenLen, dst)] (up [(Reg.engSrcLo, benchBase), (Reg.engDstLo, benchBase + 0x1000)] d) with sec := { d.sec with engine := some (0x3E, op) } }

/-- Every hypothesis of `Obligations.SecurityEngine` is met. -/
theorem witness_SecurityEngine :
    (∃ (d : Device) (tcid : Fin 64) (op : Nat) (c : Instr), d.por = false ∧ d.flag Fld.devReadySec = true ∧ d.sec.engine = none ∧
      (c, op) ∈ [(Instr.hash tcid, 1), (Instr.verify tcid, 2), (Instr.unwrapImage tcid, 3), (Instr.signId tcid, 4),
      (Instr.random tcid, 5), (Instr.unwrapTsk tcid, 6), (Instr.recordKey tcid, 7), (Instr.engineErase tcid, 8)] ∧ (tcid.val ≠ 63 ∨
      op = 1 ∨ op = 5)) ∧
    (∃ (d : Device) (tcid : Fin 64) (op : Nat) (c : Instr), d.por = false ∧ d.flag Fld.devReadySec = true ∧ d.sec.engine = none ∧
      (c, op) ∈ [(Instr.hash tcid, 1), (Instr.verify tcid, 2), (Instr.unwrapImage tcid, 3), (Instr.signId tcid, 4),
      (Instr.random tcid, 5), (Instr.unwrapTsk tcid, 6), (Instr.recordKey tcid, 7), (Instr.engineErase tcid, 8)] ∧ tcid.val = 63 ∧
      op ≠ 1 ∧ op ≠ 5) ∧
    (∃ (d : Device) (tcid : Fin 64) (c : Instr), d.por = false ∧ (d.flag Fld.devReadySec = false ∨ d.sec.engine ≠ none) ∧
      c ∈ [Instr.hash tcid, Instr.verify tcid, Instr.unwrapImage tcid, Instr.signId tcid, Instr.random tcid, Instr.unwrapTsk tcid,
      Instr.recordKey tcid, Instr.engineErase tcid]) ∧
    (∃ (d : Device), d.por = false ∧ d.sec.engine = none) ∧
    (∃ (d : Device), ∃ w0 : Nat × Nat, w0 ∈ d.sec.engine ∧ d.por = false ∧ d.sec.engine = some (w0.1, w0.2) ∧ w0.2 ≠ 5 ∧
      (d.fwRead d.engineSrc (d.fld Fld.engSrcLenLen)).1.code ≠ 0) ∧
    (∃ (d : Device), ∃ w0 : Nat × Nat, w0 ∈ d.sec.engine ∧ d.por = false ∧ d.sec.engine = some (w0.1, 1) ∧
      (d.fwRead d.engineSrc (d.fld Fld.engSrcLenLen)).1.code = 0 ∧
      (d.fwRead d.engineSrc (d.fld Fld.engSrcLenLen)).2.fld Fld.engDstLenLen < 48) ∧
    (∃ (d : Device), ∃ w0 : Nat × Nat, w0 ∈ d.sec.engine ∧ d.por = false ∧ d.sec.engine = some (w0.1, 1) ∧
      (d.fwRead d.engineSrc (d.fld Fld.engSrcLenLen)).1.code = 0 ∧
      48 ≤ (d.fwRead d.engineSrc (d.fld Fld.engSrcLenLen)).2.fld Fld.engDstLenLen) ∧
    (∃ (d : Device), ∃ w0 : Nat × Nat, w0 ∈ d.sec.engine ∧ d.por = false ∧ d.sec.engine = some (w0.1, 2) ∧
      (d.fwRead d.engineSrc (d.fld Fld.engSrcLenLen)).1.code = 0 ∧
      (d.fwRead d.engineSrc (d.fld Fld.engSrcLenLen)).1.data.length ≠ 240) ∧
    (∃ (d : Device), ∃ w0 : Nat × Nat, w0 ∈ d.sec.engine ∧ d.por = false ∧ d.sec.engine = some (w0.1, 2) ∧
      (d.fwRead d.engineSrc (d.fld Fld.engSrcLenLen)).1.code = 0 ∧
      (d.fwRead d.engineSrc (d.fld Fld.engSrcLenLen)).1.data.length = 240) ∧
    (∃ (d : Device), ∃ w0 : Nat × Nat, w0 ∈ d.sec.engine ∧ d.por = false ∧ d.sec.engine = some (w0.1, 3) ∧
      (d.fwRead d.engineSrc (d.fld Fld.engSrcLenLen)).1.code = 0 ∧
      (d.fwRead d.engineSrc (d.fld Fld.engSrcLenLen)).1.data.length = 224 ∧
      (d.fwRead d.engineSrc (d.fld Fld.engSrcLenLen)).2.hasKak = false) ∧
    (∃ (d : Device), ∃ w0 : Nat × Nat, w0 ∈ d.sec.engine ∧ d.por = false ∧ d.sec.engine = some (w0.1, 3) ∧
      (d.fwRead d.engineSrc (d.fld Fld.engSrcLenLen)).1.code = 0 ∧
      (d.fwRead d.engineSrc (d.fld Fld.engSrcLenLen)).1.data.length = 224 ∧
      (d.fwRead d.engineSrc (d.fld Fld.engSrcLenLen)).2.hasKak = true) ∧
    (∃ (d : Device), ∃ w0 : Nat × Nat, w0 ∈ d.sec.engine ∧ d.por = false ∧ d.sec.engine = some (w0.1, 4) ∧
      (d.fwRead d.engineSrc (d.fld Fld.engSrcLenLen)).1.code = 0 ∧
      (d.fwRead d.engineSrc (d.fld Fld.engSrcLenLen)).1.data.length = 48 ∧
      (d.fwRead d.engineSrc (d.fld Fld.engSrcLenLen)).2.hasIdk = false) ∧
    (∃ (d : Device), ∃ w0 : Nat × Nat, w0 ∈ d.sec.engine ∧ d.por = false ∧ d.sec.engine = some (w0.1, 4) ∧
      (d.fwRead d.engineSrc (d.fld Fld.engSrcLenLen)).1.code = 0 ∧
      (d.fwRead d.engineSrc (d.fld Fld.engSrcLenLen)).1.data.length = 48 ∧
      (d.fwRead d.engineSrc (d.fld Fld.engSrcLenLen)).2.hasIdk = true) ∧
    (∃ (d : Device), ∃ w0 : Nat × Nat, w0 ∈ d.sec.engine ∧ d.por = false ∧ d.sec.engine = some (w0.1, 5) ∧
      (d.fld Fld.engDstLenLen = 0 ∨ 64 < d.fld Fld.engDstLenLen)) ∧
    (∃ (d : Device), ∃ w0 : Nat × Nat, w0 ∈ d.sec.engine ∧ d.por = false ∧ d.sec.engine = some (w0.1, 5) ∧
      1 ≤ d.fld Fld.engDstLenLen ∧ d.fld Fld.engDstLenLen ≤ 64) ∧
    (∃ (d : Device), ∃ w0 : Nat × Nat, w0 ∈ d.sec.engine ∧ d.por = false ∧ d.sec.engine = some (w0.1, 6) ∧
      (d.fwRead d.engineSrc (d.fld Fld.engSrcLenLen)).1.code = 0) ∧
    (∃ (d : Device), ∃ w0 : Nat × Nat, w0 ∈ d.sec.engine ∧ d.por = false ∧ d.sec.engine = some (w0.1, 7) ∧
      (d.fwRead d.engineSrc (d.fld Fld.engSrcLenLen)).1.code = 0 ∧
      (d.fwRead d.engineSrc (d.fld Fld.engSrcLenLen)).1.data.length = 64 ∧
      (d.fwRead d.engineSrc (d.fld Fld.engSrcLenLen)).2.tskSlot (List.take 16 (d.fwRead d.engineSrc (d.fld Fld.engSrcLenLen)).1.data) = none) ∧
    (∃ (d : Device),
      ∃ i ∈ (d.fwRead d.engineSrc (d.fld Fld.engSrcLenLen)).2.tskSlot (List.take 16 (d.fwRead d.engineSrc (d.fld Fld.engSrcLenLen)).1.data),
      ∃ w0 : Nat × Nat, w0 ∈ d.sec.engine ∧ d.por = false ∧ d.sec.engine = some (w0.1, 7) ∧
      (d.fwRead d.engineSrc (d.fld Fld.engSrcLenLen)).1.code = 0 ∧ (d.fwRead d.engineSrc (d.fld Fld.engSrcLenLen)).1.data.length = 64) ∧
    (∃ (d : Device), ∃ w0 : Nat × Nat, w0 ∈ d.sec.engine ∧ d.por = false ∧ d.sec.engine = some (w0.1, 8) ∧
      (d.fwRead d.engineSrc (d.fld Fld.engSrcLenLen)).1.code = 0 ∧
      leAt (d.fwRead d.engineSrc (d.fld Fld.engSrcLenLen)).1.data 0 1 = 1 ∧
      (d.fwRead d.engineSrc (d.fld Fld.engSrcLenLen)).1.data.length = 17) ∧
    (∃ (d : Device), ∃ w0 : Nat × Nat, w0 ∈ d.sec.engine ∧ d.por = false ∧ d.sec.engine = some (w0.1, 8) ∧
      (d.fwRead d.engineSrc (d.fld Fld.engSrcLenLen)).1.code = 0 ∧
      leAt (d.fwRead d.engineSrc (d.fld Fld.engSrcLenLen)).1.data 0 1 = 2 ∧
      (d.fwRead d.engineSrc (d.fld Fld.engSrcLenLen)).1.data.length = 1) ∧
    (∃ (d : Device), ∃ w0 : Nat × Nat, w0 ∈ d.sec.engine ∧ d.por = false ∧ d.sec.engine = some (w0.1, 8) ∧
      (d.fwRead d.engineSrc (d.fld Fld.engSrcLenLen)).1.code = 0 ∧
      leAt (d.fwRead d.engineSrc (d.fld Fld.engSrcLenLen)).1.data 0 1 = 3 ∧
      (d.fwRead d.engineSrc (d.fld Fld.engSrcLenLen)).1.data.length = 1) :=
  ⟨⟨fw, 0x3E, 1, (.hash 0x3E), by decide +kernel⟩,
   ⟨fw, 0x3F, 2, (.verify 0x3F), by decide +kernel⟩,
   ⟨live, 0x3E, (.hash 0x3E), by decide +kernel⟩,
   ⟨fw, by decide +kernel⟩,
   ⟨(eng 1 64 64 (setF [(Fld.devReadyBench, 0)] fw)), by decide +kernel⟩,
   ⟨(eng 1 64 47 fw), by decide +kernel⟩,
   ⟨(eng 1 64 64 fw), by decide +kernel⟩,
   ⟨(eng 2 239 0 fw), by decide +kernel⟩,
   ⟨(eng 2 240 0 fw), by decide +kernel⟩,
   ⟨(eng 3 224 0 (fw.setByte keyKak 0)), by decide +kernel⟩,
   ⟨(eng 3 224 0 fw), by decide +kernel⟩,
   ⟨(eng 4 48 96 (fw.setByte keyIdk 0)), by decide +kernel⟩,
   ⟨(eng 4 48 96 fw), by decide +kernel⟩,
   ⟨(eng 5 0 65 fw), by decide +kernel⟩,
   ⟨(eng 5 0 16 fw), by decide +kernel⟩,
   ⟨(eng 6 352 16 fw), by decide +kernel⟩,
   ⟨(eng 7 64 0 fw), by decide +kernel⟩,
   ⟨(eng 7 64 0 (fw.setByte (keyTsk 0) 1)), by decide +kernel⟩,
   ⟨(eng 8 17 0 (bench 0 [1] fw)), by decide +kernel⟩,
   ⟨(eng 8 1 0 (bench 0 [2] fw)), by decide +kernel⟩,
   ⟨(eng 8 1 0 (bench 0 [3] fw)), by decide +kernel⟩⟩

end OfSecurityEngine

/-! ### DomainsDozeAndHibernate -/

namespace OfDomainsDozeAndHibernate

def off (k : Nat) (d : Device) : Device := setF [(Fld.pwrDomCtlOff, 2 ^ k)] d
def isOff (k : Nat) (d : Device) : Device := d.setFldBit Fld.pwrDomStatusOn (16 + k) false
def hibd (k : Nat) (d : Device) : Device := { d with power := { d.power with hib := some ⟨20, k⟩ } }
def doze (d : Device) : Device := setF [(Fld.pwrCtlDozeEn, 1)] d

/-- Every hypothesis of `Obligations.DomainsDozeAndHibernate` is met. -/
theorem witness_DomainsDozeAndHibernate :
    (∃ (d : Device) (t : Fin 64), d.por = false ∧ t.val ≠ 62) ∧
    (∃ (d : Device) (j : Fin 6), d.por = false ∧ d.fldBit Fld.pwrDomCtlOff j.val = true) ∧
    (∃ (d : Device) (j : Fin 6), d.por = false ∧ d.fldBit Fld.pwrDomCtlOff j.val = false ∧
      d.fldBit Fld.pwrDomStatusOn (16 + j.val) = false) ∧
    (∃ (d : Device) (j : Fin 6), d.por = false ∧ j.val ≤ 1 ∧ d.fldBit Fld.pwrDomCtlOff j.val = false ∧
      d.fldBit Fld.pwrDomStatusOn (16 + j.val) = true) ∧
    (∃ (d : Device), d.por = false ∧ d.fldBit Fld.pwrDomCtlOff 5 = false ∧ d.fldBit Fld.pwrDomStatusOn 21 = true) ∧
    (∃ (d : Device) (j : Fin 6), d.por = false ∧ (j.val = 2 ∨ j.val = 4) ∧ d.fldBit Fld.pwrDomCtlOff j.val = false) ∧
    (∃ (d : Device), d.por = false ∧ d.fldBit Fld.pwrDomCtlOff 3 = false ∧ d.fldBit Fld.pwrDomStatusOn 19 = true ∧
      d.flag Fld.grnStatusArmed = false) ∧
    (∃ (d : Device), ∃ b ∈ d.newestBank, d.por = false ∧ d.fldBit Fld.pwrDomCtlOff 3 = false ∧
      d.fldBit Fld.pwrDomStatusOn 19 = true ∧ d.flag Fld.grnStatusArmed = true ∧ d.grain.store = none) ∧
    (∃ (d : Device), d.por = false ∧ d.fldBit Fld.pwrDomCtlOff 2 = true ∧ d.fldBit Fld.pwrDomStatusOn 18 = true ∧ d.benchBusy = 0 ∧
      (∀ x ∈ d.bench.lines, x.owner = none) ∧ d.loader.job = none ∧ d.scribe.captures = [] ∧ d.scribe.restores = []) ∧
    (∃ (d : Device), d.por = false ∧ d.fldBit Fld.pwrDomCtlOff 3 = true ∧ d.fldBit Fld.pwrDomStatusOn 19 = true ∧
      d.power.grainOff = 3) ∧
    (∃ (d : Device), d.por = false ∧ d.fldBit Fld.pwrDomCtlOff 4 = true ∧ d.fldBit Fld.pwrDomStatusOn 20 = true ∧
      d.resident.job = none) ∧
    (∃ (d : Device) (j : Fin 6), d.por = false ∧ (d.fldBit Fld.pwrDomCtlOff j.val = false ∨
      d.fldBit Fld.pwrDomStatusOn (16 + j.val) = false ∨ d.domainIdle j.val = false)) ∧
    (∃ (d : Device) (j : Fin 6), d.por = false ∧ j.val ≠ 3 ∧ d.fldBit Fld.pwrDomStatusOn (16 + j.val) = true) ∧
    (∃ (d : Device) (j : Fin 6), d.por = false ∧ d.fldBit Fld.pwrDomStatusOn (16 + j.val) = false ∧ j.val ≤ 1) ∧
    (∃ (d : Device), d.por = false ∧ d.fldBit Fld.pwrDomStatusOn (16 + 2) = false) ∧
    (∃ (d : Device), d.por = false ∧ d.fldBit Fld.pwrDomStatusOn (16 + 3) = false) ∧
    (∃ (d : Device), d.por = false ∧ d.fldBit Fld.pwrDomStatusOn (16 + 4) = false) ∧
    (∃ (d : Device), d.por = false ∧ d.fldBit Fld.pwrDomStatusOn (16 + 5) = false) ∧
    (∃ (d : Device), d.por = false ∧ d.flag Fld.pwrCtlDozeEn = true ∧ (∀ (n : Fin 16), (d.slot n).st ≠ SlotState.running ∨
      (d.slot n).power ≠ SlotPower.on) ∧ (∀ (p : Fin 2), d.ports[p].link = Link.l1 ∨ d.linkUp p = false) ∧ d.loader.job = none ∧
      d.scribe.captures = [] ∧ d.scribe.restores = [] ∧ d.grain.store = none ∧ d.resident.job = none ∧ d.ring.txs = [] ∧
      d.ring.rxs = []) ∧
    (∃ (d : Device) (n : Fin 16), d.por = false ∧ (d.flag Fld.pwrCtlDozeEn = false ∨ (d.slot n).st = SlotState.running ∧
      (d.slot n).power = SlotPower.on ∨ d.loader.job ≠ none ∨ d.scribe.captures ≠ [] ∨ d.grain.store ≠ none ∨ d.resident.job ≠ none)) ∧
    (∃ (d : Device), d.por = false) ∧
    (∃ (d : Device) (n : Fin 16), d.por = false ∧ (d.slot n).power = SlotPower.on ∧ d.refclk = true) ∧
    (∃ (d : Device) (n : Fin 16), d.por = false ∧ ((d.slot n).power ≠ SlotPower.on ∨ d.refclk = false)) ∧
    (∃ (d : Device), ∃ j ∈ d.power.hib, d.por = false ∧ j.stage = 3) ∧
    (∃ (d : Device), d.por = false ∧ (∀ (j : HibJob), d.power.hib = some j → j.stage ≠ 3)) ∧
    (∃ (d : Device), d.power.psuLow = true ∧ d.power.wakeLatch = true) ∧
    (∃ (d : Device), (d.power.psuLow = false ∨ d.power.wakeLatch = false)) :=
  ⟨⟨live, 1, by decide +kernel⟩,
   ⟨(off 0 live), 0, by decide +kernel⟩,
   ⟨(isOff 0 live), 0, by decide +kernel⟩,
   ⟨live, 0, by decide +kernel⟩,
   ⟨live, by decide +kernel⟩,
   ⟨live, 2, by decide +kernel⟩,
   ⟨live, by decide +kernel⟩,
   ⟨(setF [(Fld.grnStatusArmed, 1)] (live.writeHeader 0 7 2 1 0 0)), by decide +kernel⟩,
   ⟨(off 2 live), by decide +kernel⟩,
   ⟨({ off 3 (live.setByte 0x20000000 5) with power := { live.power with grainOff := 3 } }), by decide +kernel⟩,
   ⟨(off 4 (up [(Reg.resBuf, 5)] live)), by decide +kernel⟩,
   ⟨live, 0, by decide +kernel⟩,
   ⟨live, 0, by decide +kernel⟩,
   ⟨(isOff 0 live), 0, by decide +kernel⟩,
   ⟨(isOff 2 live), by decide +kernel⟩,
   ⟨(isOff 3 live), by decide +kernel⟩,
   ⟨(isOff 4 live), by decide +kernel⟩,
   ⟨(isOff 5 live), by decide +kernel⟩,
   ⟨live, by decide +kernel⟩,
   ⟨(doze (runs 3 live)), 3, by decide +kernel⟩,
   ⟨live, by decide +kernel⟩,
   ⟨live, 3, by decide +kernel⟩,
   ⟨(slotIs 3 (fun s => { s with power := .off }) live), 3, by decide +kernel⟩,
   ⟨(hibd 3 live), by decide +kernel⟩,
   ⟨live, by decide +kernel⟩,
   ⟨({ Device.reset with power := { Device.reset.power with psuLow := true, wakeLatch := true } }), by decide +kernel⟩,
   ⟨live, by decide +kernel⟩⟩

end OfDomainsDozeAndHibernate

/-! ### SafeStates, SafetyPlane, SafetyInjections -/

namespace OfSafeStates

def clk3 : Device := cfgPut 3 5 0 0 32 0x84048404 (slotIs 3 (fun s => { s with clk := { s.clk with lockA := 3, monitored := 3 } }) (runs 3 live))
def testing (k : Nat) : Device := { live with safety := { live.safety with test := k } }

/-- Every hypothesis of `Obligations.SafeStates` is met. -/
theorem witness_SafeStates :
    (∃ (cause : Nat) (ev : Nat), cause < 17 ∧ ev < 512) ∧
    (∃ (d : Device) (cause : Nat) (ev : Nat), cause < 17 ∧ ev < 512 ∧ d.flag Fld.safeStatusDss = false) ∧
    (∃ (d : Device) (cause : Nat) (ev : Nat) (n : Fin 16), cause < 17 ∧ ev < 512 ∧ ((d.slot n).st = SlotState.loaded ∨
      (d.slot n).st = SlotState.running ∨ (d.slot n).st = SlotState.held)) ∧
    (∃ (d : Device) (ev : Nat) (n : Fin 16), 3 < 17 ∧ ev < 512 ∧ ((d.slot n).st = SlotState.loaded ∨
      (d.slot n).st = SlotState.running ∨ (d.slot n).st = SlotState.held)) ∧
    (∃ (d : Device) (ev : Nat) (n : Fin 16), 6 < 17 ∧ ev < 512 ∧ ((d.slot n).st = SlotState.loaded ∨
      (d.slot n).st = SlotState.running ∨ (d.slot n).st = SlotState.held)) ∧
    (∃ (d : Device) (ev : Nat) (n : Fin 16), 10 < 17 ∧ ev < 512 ∧ ((d.slot n).st = SlotState.loaded ∨
      (d.slot n).st = SlotState.running ∨ (d.slot n).st = SlotState.held)) ∧
    (∃ (d : Device) (cause : Nat) (ev : Nat) (n : Fin 16), cause < 17 ∧ ev < 512 ∧ ((d.slot n).st = SlotState.empty ∨
      (d.slot n).st = SlotState.bound ∨ (d.slot n).st = SlotState.sweeping ∨ (d.slot n).st = SlotState.faulted)) ∧
    (∃ (cause : Nat) (ev : Nat) (bit : Nat), cause < 17 ∧ ev < 512 ∧ bit < 8) ∧
    (∃ (cause : Nat) (ev : Nat) (bit : Nat) (n : Fin 16) (m : Fin 16), cause < 17 ∧ ev < 512 ∧ bit < 8 ∧ m ≠ n) ∧
    (∃ (d : Device) (cause : Nat) (ev : Nat) (bit : Nat) (n : Fin 16), cause < 17 ∧ ev < 512 ∧ bit < 8 ∧
      ((d.slot n).st = SlotState.loaded ∨ (d.slot n).st = SlotState.running ∨ (d.slot n).st = SlotState.held)) ∧
    (∃ (d : Device) (cause : Nat) (ev : Nat) (bit : Nat) (n : Fin 16), cause < 17 ∧ ev < 512 ∧ bit < 8 ∧
      ((d.slot n).st = SlotState.faulted ∨ (d.slot n).st = SlotState.sweeping)) ∧
    (∃ (d : Device) (cause : Nat) (ev : Nat) (bit : Nat) (n : Fin 16), cause < 17 ∧ ev < 512 ∧ bit < 8 ∧
      ((d.slot n).st = SlotState.empty ∨ (d.slot n).st = SlotState.bound)) :=
  ⟨⟨3, 3, by decide +kernel⟩,
   ⟨live, 3, 3, by decide +kernel⟩,
   ⟨clk3, 3, 3, 3, by decide +kernel⟩,
   ⟨clk3, 3, 3, by decide +kernel⟩,
   ⟨clk3, 3, 3, by decide +kernel⟩,
   ⟨clk3, 3, 3, by decide +kernel⟩,
   ⟨live, 3, 3, 3, by decide +kernel⟩,
   ⟨3, 3, 3, by decide +kernel⟩,
   ⟨3, 3, 3, 3, 2, by decide +kernel⟩,
   ⟨clk3, 3, 3, 3, 3, by decide +kernel⟩,
   ⟨(slotIs 3 (fun s => { s with st := .faulted }) live), 3, 3, 3, 3, by decide +kernel⟩,
   ⟨live, 3, 3, 3, 3, by decide +kernel⟩⟩

/-- Every hypothesis of `Obligations.SafetyPlane` is met. -/
theorem witness_SafetyPlane :
    (∃ (d : Device) (n : Fin 16) (outputs : BitVec 4), d.por = false ∧ (d.slot n).power = SlotPower.on ∧
      (outputs &&& (d.slot n).clk.monitored).toNat ≠ 0) ∧
    (∃ (d : Device) (n : Fin 16) (outputs : BitVec 4), d.por = false ∧ ((d.slot n).power ≠ SlotPower.on ∨
      outputs &&& (d.slot n).clk.monitored = 0)) ∧
    (∃ (d : Device), d.por = false) ∧
    (∃ (d : Device), d.por = false ∧ d.safety.test = 1) ∧
    (∃ (d : Device) (pass : BitVec 8) (g : Nat), d.por = false ∧ d.safety.test = 1 ∧ g < 8 ∧ pass.getLsbD g = false) ∧
    (∃ (d : Device), d.por = false ∧ d.safety.test = 0) ∧
    (∃ (d : Device) (t : Fin 64), d.por = false ∧ t.val ≠ 62) ∧
    (∃ (d : Device), d.por = false ∧ d.flag Fld.safeStatusDss = true ∧ (∀ c ∈ [3, 4, 6, 10, 12, 14, 16],
      d.fldBit Fld.safeActiveActive c = false) ∧ (d.fld Fld.safeCtlRingAct ≠ 1 ∨ d.fldBit Fld.safeActiveActive 13 = false)) ∧
    (∃ (d : Device) (c : Nat), d.por = false ∧ (d.flag Fld.safeStatusDss = false ∨ c ∈ [3, 4, 6, 10, 12, 14, 16] ∧
      d.fldBit Fld.safeActiveActive c = true ∨ d.fld Fld.safeCtlRingAct = 1 ∧ d.fldBit Fld.safeActiveActive 13 = true)) :=
  ⟨⟨clk3, 3, 1, by decide +kernel⟩,
   ⟨live, 3, 0, by decide +kernel⟩,
   ⟨live, by decide +kernel⟩,
   ⟨(testing 1), by decide +kernel⟩,
   ⟨(testing 1), 0xF7, 3, by decide +kernel⟩,
   ⟨live, by decide +kernel⟩,
   ⟨live, 0x3F, by decide +kernel⟩,
   ⟨(setF [(Fld.safeStatusDss, 1)] live), by decide +kernel⟩,
   ⟨live, 3, by decide +kernel⟩⟩

/-- Every hypothesis of `Obligations.SafetyInjections` is met. -/
theorem witness_SafetyInjections :
    (∃ (d : Device) (t : Fin 64) (n : Fin 16) (c : Instr), d.por = false ∧ (t.val ≠ 62 ∧ t.val ≠ 63 ∨
      d.flag Fld.safeStatusInjBusy = true) ∧ c ∈ [Instr.injectChuck t n, Instr.injectClock t n, Instr.injectTick t,
      Instr.injectLockstep t, Instr.injectMatrix t, Instr.injectSupplyIo t n, Instr.injectTemp t, Instr.injectBenchEcc t,
      Instr.injectSafeNRb t]) ∧
    (∃ (d : Device) (t : Fin 64), d.por = false ∧ (t.val = 62 ∨ t.val = 63) ∧ d.flag Fld.safeStatusInjBusy = false) ∧
    (∃ (d : Device) (t : Fin 64) (n : Fin 16) (i : Fin 4), d.por = false ∧ (t.val = 62 ∨ t.val = 63) ∧
      d.flag Fld.safeStatusInjBusy = false ∧ (d.slot n).power = SlotPower.on ∧ bitOf (d.clkEn n.val (d.act n)) i.val = true ∧
      (∀ j < i, bitOf (d.clkEn n.val (d.act n)) j.val = false)) ∧
    (∃ (d : Device) (t : Fin 64) (n : Fin 16), d.por = false ∧ (t.val = 62 ∨ t.val = 63) ∧ d.flag Fld.safeStatusInjBusy = false ∧
      ((d.slot n).power ≠ SlotPower.on ∨ d.clkEn n.val (d.act n) = 0)) :=
  ⟨⟨live, 1, 3, (.injectTick 1), by decide +kernel⟩,
   ⟨live, 0x3E, by decide +kernel⟩,
   ⟨clk3, 0x3E, 3, 0, by decide +kernel⟩,
   ⟨live, 0x3E, 3, by decide +kernel⟩⟩

end OfSafeStates

/-! ### RingSlotsAndDirections -/

namespace OfRingSlotsAndDirections

def slotB (kind ttl addr : Nat) (pc : Bool) : List Byte :=
  let head := leBytes 1 kind ++ leBytes 1 0 ++ leBytes 1 ttl ++ leBytes 2 5 ++ leBytes 2 6 ++ leBytes 2 7
  let body := leBytes 1 addr ++ leBytes 71 3
  head ++ leBytes 2 (wcrc head) ++ body ++ leBytes 4 (if pc then crc32c body else 0)
def ringed (d : Device) : Device := setF [(Fld.ringCtlEn, 1)] d

/-- Every hypothesis of `Obligations.RingSlotsAndDirections` is met. -/
theorem witness_RingSlotsAndDirections :
    (∃ (d : Device) (sym : List Byte), d.por = false ∧ (d.ringOn = false ∨ sym.length ≠ 87)) ∧
    (∃ (d : Device) (sym : List Byte), d.por = false ∧ d.ringOn = true ∧ sym.length = 87 ∧ leAt sym 9 2 ≠ wcrc (List.take 9 sym)) ∧
    (∃ (d : Device) (sym : List Byte), d.por = false ∧ d.ringOn = true ∧ sym.length = 87 ∧ leAt sym 9 2 = wcrc (List.take 9 sym)) ∧
    (∃ (d : Device), d.por = false ∧ d.ringOn = true) ∧
    (∃ (d : Device), d.por = false ∧ d.ringOn = false) ∧
    (∃ (d : Device) (flight : Nat), d.por = false ∧ d.ringOn = true ∧ flight ≤ 64) ∧
    (∃ (d : Device) (flight : Nat), d.por = false ∧ d.ringOn = true ∧ 64 < flight) :=
  ⟨⟨(ringed live), [1], by decide +kernel⟩,
   ⟨(ringed live), (leBytes 87 5), by decide +kernel⟩,
   ⟨(ringed live), (slotB 0 0 0 true), by decide +kernel⟩,
   ⟨(ringed live), by decide +kernel⟩,
   ⟨live, by decide +kernel⟩,
   ⟨(ringed live), 5, by decide +kernel⟩,
   ⟨(ringed live), 65, by decide +kernel⟩⟩

end OfRingSlotsAndDirections

/-! ### TickMarkers -/

namespace OfTickMarkers

def ck (s : Nat) (d : Nat) : BitVec 8 := BitVec.ofNat 8 (chk8 (markerBytes s 7 d))
def ringed (d : Device) : Device := setF [(Fld.ringCtlEn, 1)] d
def follower : Device := setF [(Fld.turnStatusSrcCur, 2), (Fld.turnCtlRun, 1)] (ringed live)

/-- Every hypothesis of `Obligations.TickMarkers` is met. -/
theorem witness_TickMarkers :
    (∃ (d : Device), d.por = false ∧ d.ringOn = true ∧ d.flag Fld.ringStatusMaster = true ∧ d.flag Fld.turnCtlRun = true) ∧
    (∃ (d : Device), d.por = false ∧ (d.ringOn = false ∨ d.flag Fld.ringStatusMaster = false ∨ d.flag Fld.turnCtlRun = false)) ∧
    (∃ (d : Device) (src : Fin 16) (turn : BitVec 64) (due : BitVec 16) (chk : BitVec 8), d.por = false ∧ d.ringOn = true ∧
      chk8 (markerBytes src.val turn.toNat due.toNat) ≠ chk.toNat) ∧
    (∃ (d : Device) (src : Fin 16) (turn : BitVec 64) (due : BitVec 16) (chk : BitVec 8), d.por = false ∧ d.ringOn = true ∧
      chk8 (markerBytes src.val turn.toNat due.toNat) = chk.toNat ∧ src.val = d.ringAddr) ∧
    (∃ (d : Device) (src : Fin 16) (due : BitVec 16) (chk : BitVec 8), ∃ (turn : BitVec 64), d.ring.marker = some turn ∧
      d.por = false ∧ d.ringOn = true ∧ chk8 (markerBytes src.val turn.toNat due.toNat) = chk.toNat ∧ src.val ≠ d.ringAddr) ∧
    (∃ (d : Device) (src : Fin 16) (turn : BitVec 64) (due : BitVec 16) (chk : BitVec 8), d.por = false ∧ d.ringOn = true ∧
      chk8 (markerBytes src.val turn.toNat due.toNat) = chk.toNat ∧ src.val ≠ d.ringAddr ∧ d.ring.marker ≠ some turn ∧
      d.follows = false) ∧
    (∃ (d : Device) (src : Fin 16) (turn : BitVec 64) (due : BitVec 16) (chk : BitVec 8), d.por = false ∧ d.ringOn = true ∧
      chk8 (markerBytes src.val turn.toNat due.toNat) = chk.toNat ∧ src.val ≠ d.ringAddr ∧ d.ring.marker ≠ some turn ∧
      d.follows = true) ∧
    (∃ (d : Device), d.por = false ∧ d.ringOn = false) ∧
    (∃ (d : Device), d.por = false ∧ d.ringOn = true ∧ d.follows = true ∧ d.turn.ringTurn = none) ∧
    (∃ (d : Device), d.por = false ∧ (d.ringOn = false ∨ d.follows = false ∨ d.turn.ringTurn ≠ none)) :=
  ⟨⟨(setF [(Fld.ringStatusMaster, 1), (Fld.turnCtlRun, 1)] (ringed live)), by decide +kernel⟩,
   ⟨(ringed live), by decide +kernel⟩,
   ⟨(ringed live), 0, 7, 9, (ck 3 9), by decide +kernel⟩,
   ⟨(ringed live), 0, 7, 9, (ck 0 9), by decide +kernel⟩,
   ⟨({ (ringed live) with ring := { live.ring with marker := some 7 } }), 3, 9, (ck 3 9), 7, by decide +kernel⟩,
   ⟨(ringed live), 3, 7, 9, (ck 3 9), by decide +kernel⟩,
   ⟨follower, 3, 7, 9, (ck 3 9), by decide +kernel⟩,
   ⟨live, by decide +kernel⟩,
   ⟨follower, by decide +kernel⟩,
   ⟨(ringed live), by decide +kernel⟩⟩

end OfTickMarkers

/-! ### RingTransfers -/

namespace OfRingTransfers

def ringed (d : Device) : Device := setF [(Fld.ringCtlEn, 1)] d
def inbox (l : List (List Byte)) (d : Device) : Device := { d with ring := { d.ring with inbox := l } }
def data_ (frag : Nat) : List Byte := leBytes 1 1 ++ leBytes 1 0x30 ++ leBytes 1 0 ++ leBytes 2 9 ++ leBytes 4 frag ++ leBytes 64 77
def ack_ (typ frag : Nat) : List Byte := leBytes 1 2 ++ leBytes 1 0x30 ++ leBytes 1 typ ++ leBytes 2 9 ++ leBytes 4 frag ++ leBytes 64 0xB4
def rx (next since : Nat) (d : Device) : Device := { d with ring := { d.ring with rxs := [⟨3, 9, 640, 0, next, since⟩] } }
def tx (acked timeouts : Nat) (d : Device) : Device := { d with ring := { d.ring with txs := [⟨20, 3, 1, 9, benchBase, 640, 0, 0, 10, 5, acked, 0, timeouts, 1⟩] } }
def base_ : Device := taking 2 0x62 [(0x20, 8, benchBase + 0x1000), (0x28, 4, 16)] (ringed fw)

/-- Every hypothesis of `Obligations.RingTransfers` is met. -/
theorem witness_RingTransfers :
    (∃ (d : Device), ∃ w0 : List Byte, w0 ∈ d.ring.inbox.head? ∧ d.por = false ∧ d.ringOn = true ∧
      d.ring.inbox = (1 :: w0.tail) :: d.ring.inbox.tail ∧
      leAt w0.tail 4 4 < ((d.rxOf (leAt w0.tail 0 1 / 16) (leAt w0.tail 2 2)).getD { src := leAt w0.tail 0 1 / 16, xfer := leAt w0.tail 2 2, len := leAt w0.tail 8 4, remote := leAt w0.tail 12 4, next := 0, since := 0 }).next) ∧
    (∃ (d : Device), ∃ w0 : List Byte, w0 ∈ d.ring.inbox.head? ∧ d.por = false ∧ d.ringOn = true ∧
      d.ring.inbox = (1 :: w0.tail) :: d.ring.inbox.tail ∧
      ((d.rxOf (leAt w0.tail 0 1 / 16) (leAt w0.tail 2 2)).getD { src := leAt w0.tail 0 1 / 16, xfer := leAt w0.tail 2 2, len := leAt w0.tail 8 4, remote := leAt w0.tail 12 4, next := 0, since := 0 }).next < leAt w0.tail 4 4) ∧
    (∃ (d : Device), ∃ w0 : List Byte, w0 ∈ d.ring.inbox.head? ∧ d.por = false ∧ d.ringOn = true ∧
      d.ring.inbox = (1 :: w0.tail) :: d.ring.inbox.tail ∧ leAt w0.tail 4 4 = 0 ∧
      ((d.rxOf (leAt w0.tail 0 1 / 16) (leAt w0.tail 2 2)).getD { src := leAt w0.tail 0 1 / 16, xfer := leAt w0.tail 2 2, len := leAt w0.tail 8 4, remote := leAt w0.tail 12 4, next := 0, since := 0 }).next = 0 ∧
      d.fldBit Fld.ringRxSrcmaskMask (leAt w0.tail 0 1 / 16) = false) ∧
    (∃ (d : Device), ∃ w0 : List Byte, w0 ∈ d.ring.inbox.head? ∧ d.por = false ∧ d.ringOn = true ∧
      d.ring.inbox = (1 :: w0.tail) :: d.ring.inbox.tail ∧
      leAt w0.tail 4 4 = ((d.rxOf (leAt w0.tail 0 1 / 16) (leAt w0.tail 2 2)).getD { src := leAt w0.tail 0 1 / 16, xfer := leAt w0.tail 2 2, len := leAt w0.tail 8 4, remote := leAt w0.tail 12 4, next := 0, since := 0 }).next ∧
      ((d.rxOf (leAt w0.tail 0 1 / 16) (leAt w0.tail 2 2)).getD { src := leAt w0.tail 0 1 / 16, xfer := leAt w0.tail 2 2, len := leAt w0.tail 8 4, remote := leAt w0.tail 12 4, next := 0, since := 0 }).next ≠ 0 ∧
      d.rxqDepth < 1024 ∧
      ((d.rxOf (leAt w0.tail 0 1 / 16) (leAt w0.tail 2 2)).getD { src := leAt w0.tail 0 1 / 16, xfer := leAt w0.tail 2 2, len := leAt w0.tail 8 4, remote := leAt w0.tail 12 4, next := 0, since := 0 }).since < 15) ∧
    (∃ (d : Device), ∃ w0 : List Byte, w0 ∈ d.ring.inbox.head? ∧ d.por = false ∧ d.ringOn = true ∧
      d.ring.inbox = (1 :: w0.tail) :: d.ring.inbox.tail ∧
      leAt w0.tail 4 4 = ((d.rxOf (leAt w0.tail 0 1 / 16) (leAt w0.tail 2 2)).getD { src := leAt w0.tail 0 1 / 16, xfer := leAt w0.tail 2 2, len := leAt w0.tail 8 4, remote := leAt w0.tail 12 4, next := 0, since := 0 }).next ∧
      ((d.rxOf (leAt w0.tail 0 1 / 16) (leAt w0.tail 2 2)).getD { src := leAt w0.tail 0 1 / 16, xfer := leAt w0.tail 2 2, len := leAt w0.tail 8 4, remote := leAt w0.tail 12 4, next := 0, since := 0 }).next ≠ 0 ∧
      1024 ≤ d.rxqDepth) ∧
    (∃ (d : Device), d.por = false ∧ (d.ringOn = false ∨ d.ring.inbox = [])) ∧
    (∃ (d : Device), ∃ w0 : List Byte, w0 ∈ d.ring.inbox.head? ∧
      ∃ x ∈ List.find? (fun x => x.xfer == leAt w0.tail 2 2 && x.dst == leAt w0.tail 0 1 / 16) d.ring.txs, ∃ k ∈ d.cmd x.cid,
      d.por = false ∧ d.ringOn = true ∧ d.ring.inbox = (2 :: w0.tail) :: d.ring.inbox.tail ∧ leAt w0.tail 1 1 = 2) ∧
    (∃ (d : Device), ∃ w0 : List Byte, w0 ∈ d.ring.inbox.head? ∧
      ∃ x ∈ List.find? (fun x => x.xfer == leAt w0.tail 2 2 && x.dst == leAt w0.tail 0 1 / 16) d.ring.txs, d.por = false ∧
      d.ringOn = true ∧ d.ring.inbox = (2 :: w0.tail) :: d.ring.inbox.tail ∧ leAt w0.tail 1 1 = 1) ∧
    (∃ (d : Device), ∃ w0 : List Byte, w0 ∈ d.ring.inbox.head? ∧
      ∃ x ∈ List.find? (fun x => x.xfer == leAt w0.tail 2 2 && x.dst == leAt w0.tail 0 1 / 16) d.ring.txs, d.por = false ∧
      d.ringOn = true ∧ d.ring.inbox = (2 :: w0.tail) :: d.ring.inbox.tail ∧ leAt w0.tail 1 1 = 0 ∧ x.acked < leAt w0.tail 4 4 ∧
      x.sent ≤ leAt w0.tail 4 4) ∧
    (∃ (d : Device) (id : BitVec 16), ∃ x ∈ List.find? (fun x => x.xfer == id.toNat) d.ring.txs, d.por = false ∧ 7 ≤ x.timeouts) ∧
    (∃ (d : Device) (id : BitVec 16), ∃ x ∈ List.find? (fun x => x.xfer == id.toNat) d.ring.txs, d.por = false ∧ x.timeouts < 7) ∧
    (∃ (d : Device), d.por = false ∧ d.ring.txs = []) ∧
    (∃ (d : Device) (v : Word), ∃ r ∈ d.rxOf (bitsOf (BitVec.toNat v) 16 4) (BitVec.toNat v % 2 ^ 16), d.por = false) ∧
    (∃ (d : Device), d.por = false ∧ d.ring.rxs = []) ∧
    (∃ (d : Device), d.por = false ∧ d.txqDepth < 1024) ∧
    (∃ (d : Device), d.por = false ∧ 1024 ≤ d.txqDepth) ∧
    (∃ (d : Device), d.por = false ∧ d.rxqDepth = 0) ∧
    (∃ (d : Device), d.por = false ∧ d.rxqDepth ≠ 0) :=
  ⟨⟨(inbox [data_ 0] (rx 1 0 base_)), by decide +kernel⟩,
   ⟨(inbox [data_ 3] (rx 1 0 base_)), by decide +kernel⟩,
   ⟨(inbox [data_ 0] base_), by decide +kernel⟩,
   ⟨(inbox [data_ 1] (rx 1 0 base_)), by decide +kernel⟩,
   ⟨(inbox [data_ 1] (rx 1 0 (setF [(Fld.ringRxqStatusFull, 1)] base_))), by decide +kernel⟩,
   ⟨(tx 3 7 base_), by decide +kernel⟩,
   ⟨(inbox [ack_ 2 10] (tx 3 0 base_)), by decide +kernel⟩,
   ⟨(inbox [ack_ 1 10] (tx 3 0 base_)), by decide +kernel⟩,
   ⟨(inbox [ack_ 0 6] (tx 3 0 base_)), by decide +kernel⟩,
   ⟨(tx 3 7 base_), 9, by decide +kernel⟩,
   ⟨(inbox [ack_ 2 10] (tx 3 0 base_)), 9, by decide +kernel⟩,
   ⟨(inbox [data_ 0] base_), by decide +kernel⟩,
   ⟨(inbox [data_ 0] (rx 1 0 base_)), 0x30009, by decide +kernel⟩,
   ⟨(inbox [data_ 0] base_), by decide +kernel⟩,
   ⟨(inbox [data_ 0] base_), by decide +kernel⟩,
   ⟨(setF [(Fld.ringTxqStatusFull, 1)] base_), by decide +kernel⟩,
   ⟨(inbox [data_ 0] base_), by decide +kernel⟩,
   ⟨(inbox [data_ 1] (rx 1 0 (setF [(Fld.ringRxqStatusFull, 1)] base_))), by decide +kernel⟩⟩

end OfRingTransfers

/-! ### RegisterWrites -/

namespace OfRegisterWrites

/-- Every access code has a field that bears it. -/
theorem witness_RegisterWrites_codes : ∀ x ∈ [(Reg.turnPeriod, Access.rw), (0x80000000, .ro), (0x80000020, .wo), (0x80040080, .rwl),
    (0x80040118, .clr), (0x80040010, .w1c), (0x80040000, .w1s)], ∃ r ∈ regSpecAt x.1, ∃ f ∈ r.fields, f.acc = x.2 := by
  decide +kernel

/-- Every hypothesis of `Obligations.RegisterWrites` about where a write goes is met. -/
theorem witness_RegisterWrites :
    (fw.por = false ∧ regSpecAt (0x8FFFFFF0 / 4 * 4) = none) ∧ (regSpecAt (0x80000002 / 4 * 4) ≠ none ∧ 0x80000002 % 4 ≠ 0) ∧
    (live.por = false ∧ regSpecAt 0x80000000 ≠ none ∧ ∃ g ∈ targetOf 0x80000000, live.targetReady g 0x80000000 = false) ∧
    (regSpecAt 0x80000000 ≠ none ∧ ∃ g ∈ targetOf 0x80000000, fw.targetReady g 0x80000000 = true) ∧
    (∃ g ∈ targetOf Reg.ldrJqBase, fw.targetReady g Reg.ldrJqBase = true ∧ 0x800C0000 ≤ Reg.ldrJqBase ∧ Reg.ldrJqBase < 0x800D0000) ∧
    (∃ r ∈ regSpecAt 0x80000004, ∀ f ∈ r.fields, 8 < f.lo ∨ f.lo + f.width ≤ 8) ∧
    (regSpecAt 0x80051100 ≠ none ∧ fw.flag Fld.devReadyAon = true ∧ fw.flag Fld.devReadySec = true) := by
  decide +kernel

/-- Every command whose write the statement names acts. -/
theorem witness_RegisterWrites_commands (c : Instr) (f : Device → Device) (h : ∀ s, exec c s = actOn s f) : ∃ e, Acts c fw e :=
  ⟨_, acts_of_actOn h rfl rfl⟩

/-- Three of them: one of the matrix, one of the safety plane and one of the security engine. -/
theorem witness_RegisterWrites_acts : (∃ e, Acts .actDenyPop fw e) ∧ (∃ e, Acts (.injectTemp 3) fw e) ∧ (∃ e, Acts (.hash 3) fw e) :=
  ⟨witness_RegisterWrites_commands _ _ fun _ => rfl, witness_RegisterWrites_commands _ _ fun _ => rfl,
   witness_RegisterWrites_commands _ _ fun _ => rfl⟩

end OfRegisterWrites

/-! ### StepRunsFrontCommand, EveryCommandAnswers, PowerOnResetHolds, StepKeepsInvariant, ResetMeetsInvariant, CheckCode, JudgementOrder, ForcedLockRelease, EventRaises, MemoryReadsBack -/

namespace OfTheMachine

def on (d : Device) : State := { State.reset with dev := d }
def rd6 : Txn := ⟨6, 0, 0, 0x10000008, false, false, false, 8, List.replicate 8 true, [], false⟩
def rdj : Txn := ⟨3, 0, 0, 0x10000008, false, true, false, 8, List.replicate 8 true, [], false⟩
def queue1 (l : List MtxEntry) (s : State) : State := { s with mtx := { s.mtx with queues := s.mtx.queues.set 1 l } }
def brk : State := (on fw).modLock 1 (fun l => { l with broken := [3] })
def en (d : Device) : Device := { up [(Reg.evtEnable 0, 0x21), (Reg.evtRoute 5, 0x302)] d with latches := [⟨5, 1, 2, 3, 4⟩] }

/-- Every hypothesis of `Obligations.StepRunsFrontCommand` is met. -/
theorem witness_StepRunsFrontCommand :
    (∃ (s : State), s.pending = []) :=
  ⟨(on fw), by decide +kernel⟩

/-- Every hypothesis of `Obligations.PowerOnResetHolds` is met. -/
theorem witness_PowerOnResetHolds :
    (∃ (c : Instr) (s : State), s.dev.por = true ∧ actsInPowerOnReset c = false) :=
  ⟨.turnRun, State.reset, by decide +kernel⟩

/-- Every hypothesis of `Obligations.StepKeepsInvariant` is met. -/
theorem witness_StepKeepsInvariant : ∃ s t : State, s.Inv ∧ s.pending ≠ [] ∧ step s = .next t :=
  ⟨{ State.reset with pending := [.porRelease 0 0 ⟨true, false⟩ 0 0] }, _,
   ⟨fun q => by fin_cases q <;> exact Nat.zero_le _,
    fun _ => ⟨Nat.zero_le _, fun t => by fin_cases t <;> exact Nat.zero_le _⟩⟩, by decide +kernel, rfl⟩

/-- Every hypothesis of `Obligations.ResetMeetsInvariant` is met. -/
theorem witness_ResetMeetsInvariant :
    (∃ (c : Instr), actsInPowerOnReset c = false) :=
  ⟨.turnRun, by decide +kernel⟩

/-- Every hypothesis of `Obligations.CheckCode` is met. -/
theorem witness_CheckCode :
    (∃ (w : Nat), w < 2 ^ 64) ∧
    (∃ (w : Nat) (j : Nat), w < 2 ^ 64 ∧ j < 7) ∧
    (∃ (w : Nat) (c : Nat) (j : Nat), w < 2 ^ 64 ∧ c < 256 ∧ j < 7) ∧
    (∃ (w : Nat) (c : Nat), eccP w c = false ∧ eccS w c = 0) ∧
    (∃ (w : Nat) (c : Nat), eccP w c = false ∧ eccS w c ≠ 0) ∧
    (∃ (w : Nat) (c : Nat), eccP w c = true ∧ 71 < eccS w c) ∧
    (∃ (w : Nat) (c : Nat) (i : Nat), i < 64 ∧ eccP w c = true ∧ eccS w c = dataPos i) ∧
    (∃ (w : Nat) (c : Nat) (j : Nat), j < 7 ∧ eccP w c = true ∧ eccS w c = 2 ^ j) ∧
    (∃ (w : Nat) (i : Nat), w < 2 ^ 64 ∧ i < 64) ∧
    (∃ (w : Nat) (j : Nat), w < 2 ^ 64 ∧ j < 8) ∧
    (∃ (w : Nat) (i : Nat) (k : Nat), w < 2 ^ 64 ∧ i < 64 ∧ k < 64 ∧ i ≠ k) ∧
    (∃ (w : Nat) (i : Nat) (j : Nat), w < 2 ^ 64 ∧ i < 64 ∧ j < 8) ∧
    (∃ (w : Nat) (i : Nat) (j : Nat), w < 2 ^ 64 ∧ i < 8 ∧ j < 8 ∧ i ≠ j) ∧
    (∃ (w : Nat) (c : Nat), eccP w c = true ∧ eccS w c = 0) :=
  ⟨⟨0, by decide +kernel⟩,
   ⟨0, 0, by decide +kernel⟩,
   ⟨2 ^ 64 - 1, 255, 6, by decide +kernel⟩,
   ⟨0, 0, by decide +kernel⟩,
   ⟨0, 5, by decide +kernel⟩,
   ⟨0, 100, by decide +kernel⟩,
   ⟨1, 0, 0, by decide +kernel⟩,
   ⟨0, 1, 0, by decide +kernel⟩,
   ⟨2 ^ 64 - 1, 63, by decide +kernel⟩,
   ⟨0, 0, by decide +kernel⟩,
   ⟨0, 0, 1, by decide +kernel⟩,
   ⟨0, 0, 0, by decide +kernel⟩,
   ⟨0, 0, 1, by decide +kernel⟩,
   ⟨0, 0x80, by decide +kernel⟩⟩

/-- Every hypothesis of `Obligations.JudgementOrder` is met. -/
theorem witness_JudgementOrder :
    (∃ (s : State) (x : Txn) (fault : Nat), s.dev.safety.inj = none ∧ (x.corrupt = true ∨ fault = 1)) ∧
    (∃ (s : State) (x : Txn) (fault : Nat), s.dev.safety.inj = none ∧ (¬(x.corrupt = true ∨ fault = 1)) ∧
      s.dev.decode x.addr.toNat = none) ∧
    (∃ (s : State) (t : Fin 8) (x : Txn) (fault : Nat), s.dev.safety.inj = none ∧ (¬(x.corrupt = true ∨ fault = 1)) ∧
      ¬s.dev.decode x.addr.toNat = none ∧ s.dev.hasPath x.master.val t.val x.write = false) ∧
    (∃ (s : State) (t : Fin 8) (x : Txn) (fault : Nat), s.dev.safety.inj = none ∧ (¬(x.corrupt = true ∨ fault = 1)) ∧
      ¬s.dev.decode x.addr.toNat = none ∧ ¬s.dev.hasPath x.master.val t.val x.write = false ∧ ((x.lock = true ∨ x.lockEnd = true) ∧
      x.master.val ∈ s.mtx.locks[t].broken ∨ ¬((x.lock = true ∨ x.lockEnd = true) ∧ x.master.val ∈ s.mtx.locks[t].broken) ∧
      x.lock = true ∧ ∃ t', s.mtx.lockOf x.master.val = some t' ∧ t' ≠ t)) ∧
    (∃ (s : State) (t : Fin 8) (x : Txn) (fault : Nat), s.dev.safety.inj = none ∧ (¬(x.corrupt = true ∨ fault = 1)) ∧
      ¬s.dev.decode x.addr.toNat = none ∧ ¬s.dev.hasPath x.master.val t.val x.write = false ∧ (¬((x.lock = true ∨ x.lockEnd = true) ∧
      x.master.val ∈ s.mtx.locks[t].broken ∨ ¬((x.lock = true ∨ x.lockEnd = true) ∧ x.master.val ∈ s.mtx.locks[t].broken) ∧
      x.lock = true ∧ ∃ t', s.mtx.lockOf x.master.val = some t' ∧ t' ≠ t)) ∧
      s.dev.actGrants t.val x.master.val (txnTcid x) x.addr.toNat x.write = false) ∧
    (∃ (s : State) (t : Fin 8) (x : Txn) (fault : Nat), s.dev.safety.inj = none ∧ (¬(x.corrupt = true ∨ fault = 1)) ∧
      ¬s.dev.decode x.addr.toNat = none ∧ ¬s.dev.hasPath x.master.val t.val x.write = false ∧ (¬((x.lock = true ∨ x.lockEnd = true) ∧
      x.master.val ∈ s.mtx.locks[t].broken ∨ ¬((x.lock = true ∨ x.lockEnd = true) ∧ x.master.val ∈ s.mtx.locks[t].broken) ∧
      x.lock = true ∧ ∃ t', s.mtx.lockOf x.master.val = some t' ∧ t' ≠ t)) ∧
      ¬s.dev.actGrants t.val x.master.val (txnTcid x) x.addr.toNat x.write = false ∧ s.dev.targetReady t.val x.addr.toNat = false) ∧
    (∃ (s : State) (t : Fin 8) (x : Txn) (fault : Nat), s.dev.safety.inj = none ∧ ((x.corrupt = true ∨ fault = 1) ∨
      s.dev.decode x.addr.toNat = none ∨ s.dev.hasPath x.master.val t.val x.write = false ∨ ((x.lock = true ∨ x.lockEnd = true) ∧
      x.master.val ∈ s.mtx.locks[t].broken ∨ ¬((x.lock = true ∨ x.lockEnd = true) ∧ x.master.val ∈ s.mtx.locks[t].broken) ∧
      x.lock = true ∧ ∃ t', s.mtx.lockOf x.master.val = some t' ∧ t' ≠ t) ∨
      s.dev.actGrants t.val x.master.val (txnTcid x) x.addr.toNat x.write = false ∨ s.dev.targetReady t.val x.addr.toNat = false)) ∧
    (∃ (s : State) (t : Fin 8) (x : Txn) (fault : Nat), s.dev.safety.inj = none ∧ (¬(x.corrupt = true ∨ fault = 1)) ∧
      ¬s.dev.decode x.addr.toNat = none ∧ ¬s.dev.hasPath x.master.val t.val x.write = false ∧ (¬((x.lock = true ∨ x.lockEnd = true) ∧
      x.master.val ∈ s.mtx.locks[t].broken ∨ ¬((x.lock = true ∨ x.lockEnd = true) ∧ x.master.val ∈ s.mtx.locks[t].broken) ∧
      x.lock = true ∧ ∃ t', s.mtx.lockOf x.master.val = some t' ∧ t' ≠ t)) ∧
      ¬s.dev.actGrants t.val x.master.val (txnTcid x) x.addr.toNat x.write = false ∧ ¬s.dev.targetReady t.val x.addr.toNat = false) :=
  ⟨⟨(on fw), rd6, 1, by decide +kernel⟩,
   ⟨(on fw), ({ rd6 with addr := 0xFF00000000 }), 0, by decide +kernel⟩,
   ⟨(on fw), 0, ({ rd6 with master := 1, tcid := 0x21 }), 0, by decide +kernel⟩,
   ⟨((on fw).modLock 0 (fun l => { l with holder := some 3 })), 1, rdj, 0, by decide +kernel⟩,
   ⟨(on fw), 1, ({ rd6 with master := 1, tcid := 0x21 }), 0, by decide +kernel⟩,
   ⟨(on live), 1, rd6, 0, by decide +kernel⟩,
   ⟨(on fw), 1, rd6, 1, by decide +kernel⟩,
   ⟨(on fw), 1, rd6, 0, by decide +kernel⟩⟩

/-- Every hypothesis of `Obligations.ForcedLockRelease` is met. -/
theorem witness_ForcedLockRelease :
    (∃ (s : State) (k : Fin 8), ∃ m ∈ s.mtx.locks[k].holder, s.dev.por = false) ∧
    (∃ (s : State) (k : Fin 8), ∃ w0 : Nat × Bool, w0 ∈ ((s.mapDev id).winner k) ∧ ∃ e ∈ s.mtx.headOf k w0.1,
      (s.mapDev id).dev.por = false ∧ (s.mapDev id).dev.safety.inj = none ∧ s.mtx.waiting = [] ∧ (s.mapDev id).winner k = some (w0.1,
      w0.2) ∧ (w0.1 = 3 ∨ w0.1 = 5) ∧ e.txn.master.val = w0.1 ∧ (e.txn.lock = true ∨ e.txn.lockEnd = true) ∧ e.txn.corrupt = false ∧
      w0.1 ∈ s.mtx.locks[k].broken ∧ (s.mapDev id).dev.decode e.txn.addr.toNat = some k.val ∧
      (s.mapDev id).dev.hasPath w0.1 k.val e.txn.write = true) :=
  ⟨⟨((on fw).modLock 0 (fun l => { l with holder := some 3 })), 0, by decide +kernel⟩,
   ⟨(queue1 [⟨rdj, false, 0⟩] brk), 1, by decide +kernel⟩⟩

/-- Every hypothesis of `Obligations.EventRaises` is met. -/
theorem witness_EventRaises :
    (∃ (e : Nat), e < 512) ∧
    (∃ (d : Device) (e : Nat), e < 512 ∧ d.evtEnable e = false) ∧
    (∃ (d : Device) (e : Nat) (turn route : BitVec 32), e < 512 ∧ d.evtEnable e = true ∧ turn = BitVec.ofNat 32 (d.rd Reg.turnCountLo) ∧
      route = BitVec.ofNat 32 (d.rd (Reg.evtRoute e)) ∧ (∀ y ∈ d.latches, y.event ≠ e) ∧
      (∃ x ∈ (d.raiseSyn e 5).latches, x.event = e) ∧ d.latches.Pairwise (fun x y => x.event < y.event)) ∧
    (∃ (d : Device) (e : Nat) (turn route : BitVec 32), e < 512 ∧ d.evtEnable e = true ∧ turn = BitVec.ofNat 32 (d.rd Reg.turnCountLo) ∧
      route = BitVec.ofNat 32 (d.rd (Reg.evtRoute e)) ∧ (∃ y ∈ d.latches, y.event = e) ∧
      (∃ x ∈ (d.raiseSyn e 5).latches, x.event = e) ∧ d.latches.Pairwise (fun x y => x.event < y.event)) :=
  ⟨⟨511, by decide⟩, ⟨live, 511, by decide +kernel⟩,
   ⟨(en live), 0, _, _, by decide +kernel, by decide +kernel, rfl, rfl, by decide +kernel⟩,
   ⟨(en live), 5, _, _, by decide +kernel, by decide +kernel, rfl, rfl, by decide +kernel⟩⟩

/-- Every hypothesis of `Obligations.MemoryReadsBack` is met. -/
theorem witness_MemoryReadsBack :
    (∃ (a k : Nat) (bs : List Byte), k < a ∧ bs ≠ []) ∧ (∃ (a k : Nat) (bs : List Byte), a + bs.length ≤ k ∧ bs ≠ []) ∧
    (∃ (d : Device), Memory.wf d.mem = true ∧ d.mem ≠ []) ∧
    (∃ (m : List Host.Cell) (n : List Host.Cell), Memory.wf m = true ∧ Memory.wf n = true ∧
      (∀ (a : Nat), Sparse.get memDefault m a = Sparse.get memDefault n a) ∧ m ≠ []) :=
  ⟨⟨1, 0, [5], by decide⟩, ⟨0, 1, [5], by decide⟩, ⟨(bench 0 [5] live), by decide +kernel⟩,
   ⟨[(0x10000000, 5)], [(0x10000000, 5)], by decide +kernel, by decide +kernel, fun _ => rfl, by decide⟩⟩

end OfTheMachine

end Sys2Proof.Tests
end

/-! SUPPORT. The tick generator (chapter 08): what a register field reads after a write of it, what time does to the generator's
registers, and the effects of the TURN_ commands. -/

namespace Sys2Proof.Machine

/-! ### Register fields -/

/-- A field within the low `n` bits of a number. -/
theorem bitsOf_mod_two_pow {v lo w n : Nat} (h : lo + w ≤ n) : bitsOf (v % 2 ^ n) lo w = bitsOf v lo w := by
  obtain ⟨k, rfl⟩ := Nat.exists_eq_add_of_le h
  unfold bitsOf
  rw [Nat.add_assoc, Nat.pow_add, Nat.mod_mul_right_div_self, Nat.mod_mod_of_dvd _ (Nat.pow_dvd_pow 2 (Nat.le_add_right w k))]

/-- The field that was replaced holds the low bits of its new value. -/
theorem bitsOf_withBits (v lo w x : Nat) : bitsOf (withBits v lo w x) lo w = x % 2 ^ w := by
  have hlo : 0 < 2 ^ lo := Nat.two_pow_pos lo
  have hq : v / 2 ^ lo - v / 2 ^ lo % 2 ^ w = 2 ^ w * (v / 2 ^ lo / 2 ^ w) := by
    have := Nat.mod_add_div (v / 2 ^ lo) (2 ^ w)
    omega
  unfold withBits bitsOf
  rw [Nat.add_mul_div_right _ _ hlo, Nat.mul_comm (v / 2 ^ lo % 2 ^ w), Nat.sub_mul_div, hq, Nat.mul_add_mod, Nat.mod_mod]

/-- A register holds 32 bits. -/
theorem Device.rd_lt (d : Device) (a : Nat) : d.rd a < 2 ^ 32 := BitVec.isLt _

/-- A field is the same on devices whose registers read the same. -/
theorem Device.fld_congr {d e : Device} {f : Fld} (h : ∀ a, d.rd a = e.rd a) : d.fld f = e.fld f :=
  congrArg (bitsOf · f.lo f.width) (h f.addr)

/-- A field reads the low bits of what was last stored in it. -/
theorem Device.fld_setFld {d : Device} {f : Fld} (v : Nat) (h : f.lo + f.width ≤ 32) : (d.setFld f v).fld f = v % 2 ^ f.width := by
  unfold Device.fld Device.setFld
  rw [Device.rd_wr, if_pos rfl, bitsOf_mod_two_pow h, bitsOf_withBits]

/-- A field that is stored leaves the other registers. -/
theorem Device.rd_setFld_of_ne {d : Device} {f : Fld} {a : Nat} (v : Nat) (h : f.addr ≠ a) : (d.setFld f v).rd a = d.rd a := by
  rw [Device.setFld, Device.rd_wr, if_neg h]

/-- A field of a register that another write leaves. -/
theorem Device.fld_wr_of_ne {d : Device} {f : Fld} {a : Nat} (v : Nat) (h : a ≠ f.addr) : (d.wr a v).fld f = d.fld f := by
  unfold Device.fld
  rw [Device.rd_wr, if_neg h]

/-! ### Time and edge E0 -/

/-- With no injection in progress nothing ends. -/
theorem Device.injEnds_of_none {d : Device} (h : d.safety.inj = none) : d.injEnds = d := by
  unfold Device.injEnds
  rw [h]

/-- Time that passes before the generator starts advances the clocks alone. -/
theorem Device.passTime_of_starting {d : Device} (k : Nat) (hp : d.por = false) (hr : d.refclk = true) (hs : d.turn.starting = true)
    (hi : d.safety.inj = none) : d.passTime k = { d with now := d.now + k, epoch := d.epoch + k } := by
  unfold Device.passTime
  rw [Device.injEnds_of_none (d := { d with now := d.now + k }) hi]
  simp [hp, hr, hs]

/-- No time at all leaves every register's value and every other field. -/
theorem Device.passTime_zero {d : Device} (hi : d.safety.inj = none) :
    (∀ a, (d.passTime 0).rd a = d.rd a) ∧ ∃ r, d.passTime 0 = { d with regs := r } := by
  unfold Device.passTime
  rw [Device.injEnds_of_none (d := { d with now := d.now + 0 }) hi]
  dsimp only
  split
  · exact ⟨fun _ => rfl, d.regs, rfl⟩
  · split
    · refine ⟨fun a => ?_, _, rfl⟩
      rw [Device.rd_wr]
      split
      · next h =>
        subst h
        have := d.rd_lt Reg.turnElapsed
        change min 0xFFFFFFFF (d.rd Reg.turnElapsed) % 2 ^ 32 = d.rd Reg.turnElapsed
        omega
      · rfl
    · exact ⟨fun _ => rfl, d.regs, rfl⟩

/-- The REFCLK edge after RUN was set is edge E0 (R281). -/
theorem Device.idle_of_starting {d : Device} (hp : d.por = false) (hr : d.refclk = true) (hs : d.turn.starting = true)
    (hi : d.safety.inj = none) :
    d.idle = (({ d with now := d.now + 1, epoch := d.epoch + 1 } : Device).turnE0).passTime 0 := by
  unfold Device.idle Device.pass
  rw [Device.passTime_of_starting 1 hp hr hs hi]
  simp [hp, hr, hs]

/-- The register writes of edge E0 (R281, R284, R288). -/
def Device.e0Writes (d : Device) : Device :=
  (((((d.wr Reg.turnPeriodCur (d.rd Reg.turnPeriod)).setFld Fld.turnStatusSrcCur
    (if d.fld Fld.turnCtlSrc = 3 then 0 else d.fld Fld.turnCtlSrc)).wr Reg.turnElapsed 0).wr Reg.turnCountLo 0).wr Reg.turnCountHi 0)

/-- Edge E0 is its register writes and the generator's state. -/
theorem Device.turnE0_eq (d : Device) :
    d.turnE0 = { d.e0Writes with turn := { d.turn with ticked := false, starting := false } } := by
  simp only [Device.turnE0, Device.e0Writes, Device.wr_turn, Device.setFld_turn]

theorem Device.rd_turnE0 (d : Device) (a : Nat) : d.turnE0.rd a = d.e0Writes.rd a := by
  rw [Device.turnE0_eq]
  unfold Device.rd
  rfl

@[simp] theorem Device.turnE0_epoch (d : Device) : d.turnE0.epoch = d.epoch := by simp [Device.turnE0_eq, Device.e0Writes]
@[simp] theorem Device.turnE0_mem (d : Device) : d.turnE0.mem = d.mem := by simp [Device.turnE0_eq, Device.e0Writes]
@[simp] theorem Device.turnE0_slots (d : Device) : d.turnE0.slots = d.slots := by simp [Device.turnE0_eq, Device.e0Writes]
@[simp] theorem Device.turnE0_safety (d : Device) : d.turnE0.safety = d.safety := by simp [Device.turnE0_eq, Device.e0Writes]
@[simp] theorem Device.turnE0_turn (d : Device) : d.turnE0.turn = { d.turn with ticked := false, starting := false } := by
  simp [Device.turnE0_eq]

/-- At edge E0 the counter and the elapsed time are 0 (R281). -/
theorem Device.turnE0_counts (d : Device) :
    d.turnE0.rd Reg.turnCountLo = 0 ∧ d.turnE0.rd Reg.turnCountHi = 0 ∧ d.turnE0.rd Reg.turnElapsed = 0 := by
  simp [Device.rd_turnE0, Device.e0Writes, Device.rd_wr, Reg.turnCountLo, Reg.turnCountHi, Reg.turnElapsed]

/-- At edge E0 the period in force is the one written (R284). -/
theorem Device.turnE0_period (d : Device) : d.turnE0.rd Reg.turnPeriodCur = d.rd Reg.turnPeriod := by
  rw [Device.rd_turnE0, Device.e0Writes, Device.rd_wr, if_neg (by decide), Device.rd_wr, if_neg (by decide), Device.rd_wr,
    if_neg (by decide), Device.rd_setFld_of_ne _ (by decide), Device.rd_wr, if_pos rfl, Nat.mod_eq_of_lt (d.rd_lt _)]

/-- At edge E0 the source in force is the one written, and SRC 3 acts as 0 (R288). -/
theorem Device.turnE0_source (d : Device) :
    d.turnE0.fld Fld.turnStatusSrcCur = if d.fld Fld.turnCtlSrc = 3 then 0 else d.fld Fld.turnCtlSrc := by
  have hsrc : d.fld Fld.turnCtlSrc < 4 := Nat.mod_lt _ (by decide)
  rw [Device.fld_congr d.rd_turnE0, Device.e0Writes, Device.fld_wr_of_ne _ (by decide), Device.fld_wr_of_ne _ (by decide),
    Device.fld_wr_of_ne _ (by decide), Device.fld_setFld _ (by decide)]
  refine Nat.mod_eq_of_lt (b := 4) ?_
  split
  · decide
  · exact hsrc

/-! ### The commands of the generator -/

theorem Device.turnStart_of_stopped {d : Device} (h : d.flag Fld.turnCtlRun = false) :
    d.turnStart = { d.setFlag Fld.turnCtlRun true with turn := { d.turn with starting := true } } := by
  simp [Device.turnStart, h]

theorem Device.turnStart_of_run {d : Device} (h : d.flag Fld.turnCtlRun = true) : d.turnStart = d := by
  simp [Device.turnStart, h]

/-- A write of TURN_CTL with RUN 0 stores SRC and ADOPT alone (R288). -/
theorem Device.turnCtlWrite_src_adopt (d : Device) (src : Fin 4) (adopt : Bool) :
    d.turnCtlWrite (src.val * 2 + natOf adopt * 8) = (d.setFld Fld.turnCtlSrc src.val).setFlag Fld.turnCtlAdopt adopt := by
  have hrun : bitOf (src.val * 2 + natOf adopt * 8) 0 = false := by
    simp only [bitOf, beq_eq_false_iff_ne]
    omega
  have hsrc : bitsOf (src.val * 2 + natOf adopt * 8) 1 2 = src.val := by
    unfold bitsOf
    omega
  have hadopt : bitsOf (src.val * 2 + natOf adopt * 8) 3 1 = natOf adopt := by
    have : natOf adopt < 2 := by cases adopt <;> decide
    unfold bitsOf
    omega
  simp [Device.turnCtlWrite, hrun, hsrc, hadopt, Device.setFlag]

/-- Tick loss has an effect only on a generator that runs and has not lost its tick (R308). -/
theorem Device.tickLoss_of_idle {d : Device}
    (h : d.flag Fld.turnCtlRun = false ∨ d.turn.starting = true ∨ d.flag Fld.turnStatusLost = true) : d.tickLoss = d := by
  unfold Device.tickLoss
  rw [if_pos (by simpa [or_assoc] using h)]

theorem Device.tickLoss_of_running {d : Device} (hr : d.flag Fld.turnCtlRun = true) (hs : d.turn.starting = false)
    (hl : d.flag Fld.turnStatusLost = false) :
    d.tickLoss = (((d.setFlag Fld.turnStatusLost true).setFlag Fld.turnStatusLostSticky true).setActive 3 true).detectDevice 3 483 [] := by
  unfold Device.tickLoss
  rw [if_neg (by simp [hr, hs, hl])]

/-! ### Overrun counts -/

/-- The slots of a mask are those whose bit is set. -/
@[simp] theorem mem_maskSlots {mask : Nat} {n : Fin 16} : n ∈ maskSlots mask ↔ bitOf mask n.val = true := by
  have hn : n ∈ allSlots := by revert n; decide
  simp [maskSlots, hn]

/-- A register write for each of the listed slots changes registers alone. -/
theorem Device.forSlots_wr_shape (d : Device) (l : List (Fin 16)) (r : Fin 16 → Nat) (v : Nat) :
    ∃ m, d.forSlots l (fun n d => d.wr (r n) v) = { d with regs := m } := by
  induction l generalizing d with
  | nil => exact ⟨_, rfl⟩
  | cons n t ih => exact ih (d.wr (r n) v)

/-- After a register write for each of the listed slots those registers hold the value, and every other register what it held. -/
theorem Device.rd_forSlots_wr (d : Device) (l : List (Fin 16)) (r : Fin 16 → Nat) (v a : Nat) :
    (d.forSlots l fun n d => d.wr (r n) v).rd a = if ∃ n ∈ l, r n = a then v % 2 ^ 32 else d.rd a := by
  induction l generalizing d with
  | nil => simp [Device.forSlots]
  | cons n t ih =>
    have step : (d.forSlots (n :: t) fun n d => d.wr (r n) v) = (d.wr (r n) v).forSlots t fun n d => d.wr (r n) v := rfl
    rw [step, ih, Device.rd_wr]
    by_cases ht : ∃ m ∈ t, r m = a <;> by_cases hn : r n = a <;> simp [ht, hn]

/-- Each slot has an overrun count of its own. -/
theorem Reg.turnOvrCount_inj {m n : Fin 16} : Reg.turnOvrCount m = Reg.turnOvrCount n ↔ m = n := by
  rw [Fin.ext_iff]
  unfold Reg.turnOvrCount
  omega

/-- The counts named are 0, the others as they were (R1022). -/
theorem Device.rd_turnOvrClr_count (d : Device) (v : Nat) (n : Fin 16) :
    (d.turnOvrClr v).rd (Reg.turnOvrCount n) = if bitOf v n then 0 else d.rd (Reg.turnOvrCount n) := by
  rw [Device.turnOvrClr, Device.rd_forSlots_wr]
  simp [Reg.turnOvrCount_inj]

/-- A register that is no overrun count is as it was (R1022). -/
theorem Device.rd_turnOvrClr_of_ne {d : Device} {a : Nat} (v : Nat) (h : ∀ n : Fin 16, a ≠ Reg.turnOvrCount n) :
    (d.turnOvrClr v).rd a = d.rd a := by
  rw [Device.turnOvrClr, Device.rd_forSlots_wr, if_neg]
  rintro ⟨n, -, hn⟩
  exact h n hn.symm

/-! ### The registers of the generator -/

/-- After edge E0: the generator's registers, and what the edge leaves as it was. -/
theorem Device.idle_at_E0 {d : Device} (hp : d.por = false) (hr : d.refclk = true) (hs : d.turn.starting = true)
    (hi : d.safety.inj = none) :
    d.idle.turn.starting = false ∧ d.idle.turn.ticked = false ∧ d.idle.turnCount = 0 ∧ d.idle.rd Reg.turnElapsed = 0 ∧
      d.idle.rd Reg.turnPeriodCur = d.rd Reg.turnPeriod ∧ d.idle.epoch = d.epoch + 1 ∧
      d.idle.fld Fld.turnStatusSrcCur = (if d.fld Fld.turnCtlSrc = 3 then 0 else d.fld Fld.turnCtlSrc) ∧
      d.idle.slots = d.slots ∧ d.idle.mem = d.mem := by
  rw [Device.idle_of_starting hp hr hs hi]
  generalize hc : ({ d with now := d.now + 1, epoch := d.epoch + 1 } : Device) = c
  have hrd : ∀ a, c.rd a = d.rd a := by subst hc; exact fun _ => rfl
  have hinj : c.turnE0.safety.inj = none := by subst hc; simpa using hi
  obtain ⟨keep, r, hz⟩ := Device.passTime_zero hinj
  obtain ⟨hlo, hhi, hel⟩ := c.turnE0_counts
  refine ⟨?starting, ?ticked, ?count, ?elapsed, ?period, ?epoch, ?source, ?slots, ?mem⟩
  case count => simp [Device.turnCount, keep, hlo, hhi]
  case elapsed => rw [keep, hel]
  case period => rw [keep, c.turnE0_period, hrd]
  case source => rw [Device.fld_congr keep, c.turnE0_source, Device.fld_congr hrd]
  all_goals
    rw [hz]
    subst hc
    simp

/-- Settles O8: each command by the equation of its meaning, edge E0 by `Device.idle_at_E0`. -/
theorem turnGenerator : Obligations.TurnGenerator := by
  unfold Obligations.TurnGenerator
  refine ⟨fun d hp h => ?run, fun d hp hr hs hi => d.idle_at_E0 hp hr hs hi, fun d hp h => ?runAgain, fun d v hp h => ?periodLow,
    fun d v hp h => ?period, fun d src adopt hp => ?source, fun d tcid hp => ?countLo, fun d v hp => ?ovrClr,
    fun d hp hr hs hl => ?loss, fun d hp h => ?noLoss⟩
  case run => exact acts_of_actOn (fun _ => rfl) hp (Device.turnStart_of_stopped h)
  case runAgain => exact acts_of_actOn (fun _ => rfl) hp (Device.turnStart_of_run h)
  case periodLow => exact acts_of_actOn (fun _ => rfl) hp (if_pos h)
  case period => exact acts_of_actOn (fun _ => rfl) hp (if_neg (Nat.not_lt.2 h))
  case source => exact acts_of_actOn (fun _ => rfl) hp (d.turnCtlWrite_src_adopt src adopt)
  case countLo =>
    refine ⟨_, acts_of_actOn (fun _ => rfl) hp rfl, ?_⟩
    rw [Sparse.get_put, if_pos rfl]
  case ovrClr =>
    obtain ⟨m, hm⟩ := d.forSlots_wr_shape (maskSlots v.toNat) (fun n => Reg.turnOvrCount n) 0
    refine ⟨d.turnOvrClr v.toNat, acts_of_actOn (fun _ => rfl) hp rfl, ?_, d.rd_turnOvrClr_count v.toNat,
      fun a => Device.rd_turnOvrClr_of_ne v.toNat⟩
    rw [Device.turnOvrClr, hm]
  case loss => exact acts_of_actOn (fun _ => rfl) hp (Device.tickLoss_of_running hr hs hl)
  case noLoss => exact acts_of_actOn (fun _ => rfl) hp (Device.tickLoss_of_idle h)

end Sys2Proof.Machine

/-! SUPPORT. The check code (chapter 10). Syndrome and parity are linear over exclusive or, so what a decode of a stored word with
flipped bits gives depends on the flipped bits alone: their syndrome and parity are those of the word that has just these bits set. -/

namespace Sys2Proof.Machine

/-! ### Bits and parities under exclusive or -/

theorem bitOf_eq_testBit (v i : Nat) : bitOf v i = v.testBit i := Nat.testBit_eq_decide_div_mod_eq.symm

theorem bitOf_xor (v w i : Nat) : bitOf (v ^^^ w) i = (bitOf v i != bitOf w i) := by
  simp only [bitOf_eq_testBit, Nat.testBit_xor, Bool.bne_eq_xor]

theorem bitOf_two_pow (i j : Nat) : bitOf (2 ^ i) j = decide (i = j) := by
  rw [bitOf_eq_testBit, Nat.testBit_two_pow]

theorem bitOf_mod_two_pow {v n i : Nat} (h : i < n) : bitOf (v % 2 ^ n) i = bitOf v i := by
  simp [bitOf_eq_testBit, h]

/-- Storing the opposite of a bit adds the bit's place without carry. -/
theorem withBit_not (v i : Nat) : withBit v i (!bitOf v i) = v ^^^ 2 ^ i := by
  have hpos : 0 < 2 ^ i := Nat.two_pow_pos i
  have hv := Nat.div_add_mod v (2 ^ i)
  have hx := Nat.div_add_mod (v ^^^ 2 ^ i) (2 ^ i)
  rw [Nat.xor_div_two_pow, Nat.xor_mod_two_pow, Nat.div_self hpos, Nat.mod_self, Nat.xor_zero] at hx
  rcases Nat.mod_two_eq_zero_or_one (v / 2 ^ i) with hq | hq
  · rw [Nat.xor_one_of_even (Nat.even_iff.2 hq), Nat.mul_add_one] at hx
    have hadd : withBit v i (!bitOf v i) = v + 2 ^ i := by simp [withBit, withBits, bitsOf, bitOf, natOf, hq]
    omega
  · rw [Nat.xor_one_of_odd (Nat.odd_iff.2 hq), Nat.mul_sub_one] at hx
    have hle : 2 ^ i ≤ 2 ^ i * (v / 2 ^ i) := Nat.le_mul_of_pos_right _ (Nat.pos_of_ne_zero fun h => by simp [h] at hq)
    have hsub : withBit v i (!bitOf v i) = v - 2 ^ i := by simp [withBit, withBits, bitsOf, bitOf, natOf, hq]
    omega

/-- Two bits flipped in turn are two places added without carry. -/
theorem withBit_not_withBit_not {v i k : Nat} (h : i ≠ k) :
    withBit (withBit v i (!bitOf v i)) k (!bitOf v k) = v ^^^ (2 ^ i ^^^ 2 ^ k) := by
  have hk : bitOf v k = bitOf (v ^^^ 2 ^ i) k := by simp [bitOf_xor, bitOf_two_pow, h]
  rw [withBit_not v i, hk, withBit_not, Nat.xor_assoc]

@[simp] theorem popParity_zero_width (v : Nat) : popParity 0 v = false := rfl

theorem popParity_succ (n v : Nat) : popParity (n + 1) v = (popParity n v != bitOf v n) := by
  simp only [popParity, toBits, List.range_succ, List.map_append, List.foldl_append, List.map_cons, List.map_nil, List.foldl_cons,
    List.foldl_nil]

/-- The parity of the low bits is that of the number's low part. -/
theorem popParity_mod_two_pow {m n : Nat} (v : Nat) (h : n ≤ m) : popParity n (v % 2 ^ m) = popParity n v := by
  induction n with
  | zero => rfl
  | succ n ih => rw [popParity_succ, popParity_succ, ih (by omega), bitOf_mod_two_pow (by omega)]

theorem popParity_xor (n v w : Nat) : popParity n (v ^^^ w) = (popParity n v != popParity n w) := by
  induction n with
  | zero => rfl
  | succ n ih =>
    simp only [popParity_succ, ih, bitOf_xor, Bool.bne_eq_xor, Bool.xor_assoc, Bool.xor_left_comm]

@[simp] theorem popParity_zero (n : Nat) : popParity n 0 = false := by
  simpa using popParity_xor n 0 0

theorem popParity_two_pow (n i : Nat) : popParity n (2 ^ i) = decide (i < n) := by
  induction n with
  | zero => rfl
  | succ n ih =>
    rw [popParity_succ, ih, bitOf_two_pow]
    by_cases h : i = n
    · simp [h]
    · simp [h, Nat.le_iff_lt_or_eq]

/-! ### Code positions -/

theorem dataPos_strictMono : StrictMono dataPos := by
  intro i k h
  unfold dataPos
  split_ifs <;> omega

theorem dataPos_pos (i : Nat) : 0 < dataPos i := by
  unfold dataPos
  split_ifs <;> omega

theorem dataPos_le {i : Nat} (h : i < 64) : dataPos i ≤ 71 :=
  dataPos_strictMono.monotone (Nat.le_of_lt_succ h)

/-- The positions that are powers of two are those of the check bits. -/
theorem dataPos_ne_two_pow (i : Nat) {j : Nat} (h : j < 7) : dataPos i ≠ 2 ^ j := by
  unfold dataPos
  interval_cases j <;> split_ifs <;> omega

theorem posData_dataPos {i : Nat} (h : i < 64) : posData (dataPos i) = some i := by
  unfold posData
  rw [List.find?_range_eq_some]
  refine ⟨by simp, List.mem_range.2 h, fun k hk => ?_⟩
  simpa using (dataPos_strictMono hk).ne

theorem posData_two_pow {j : Nat} (h : j < 7) : posData (2 ^ j) = none := by
  unfold posData
  rw [List.find?_eq_none]
  intro i _
  simpa using dataPos_ne_two_pow i h

/-! ### The check bits c0 to c6 -/

/-- What the low `n` data bits of a word add to c0 to c6. -/
def hammingBelow (n w : Nat) : Nat :=
  (List.range n).foldl (fun a i => if bitOf w i then Nat.xor a (dataPos i) else a) 0

theorem hamming_eq (w : Nat) : hamming w = hammingBelow 64 w := rfl

theorem hammingBelow_succ (n w : Nat) :
    hammingBelow (n + 1) w = hammingBelow n w ^^^ (if bitOf w n then dataPos n else 0) := by
  simp only [hammingBelow, List.range_succ, List.foldl_append, List.foldl_cons, List.foldl_nil]
  split
  · rfl
  · exact (Nat.xor_zero _).symm

theorem hammingBelow_xor (n v w : Nat) : hammingBelow n (v ^^^ w) = hammingBelow n v ^^^ hammingBelow n w := by
  induction n with
  | zero => exact (Nat.xor_self 0).symm
  | succ n ih =>
    have hbit : (if bitOf (v ^^^ w) n then dataPos n else 0) =
        (if bitOf v n then dataPos n else 0) ^^^ (if bitOf w n then dataPos n else 0) := by
      rw [bitOf_xor]
      cases bitOf v n <;> cases bitOf w n <;> simp
    rw [hammingBelow_succ, hammingBelow_succ, hammingBelow_succ, ih, hbit]
    ac_rfl

theorem hammingBelow_two_pow (n i : Nat) : hammingBelow n (2 ^ i) = if i < n then dataPos i else 0 := by
  induction n with
  | zero => rfl
  | succ n ih =>
    rw [hammingBelow_succ, ih, bitOf_two_pow]
    by_cases h : i = n
    · simp [h]
    · simp [h, Nat.le_iff_lt_or_eq]

theorem hammingBelow_lt {n : Nat} (w : Nat) (h : n ≤ 64) : hammingBelow n w < 2 ^ 7 := by
  induction n with
  | zero => exact Nat.two_pow_pos 7
  | succ n ih =>
    have hpos := dataPos_le h
    rw [hammingBelow_succ]
    refine Nat.xor_lt_two_pow (ih (by omega)) ?_
    split <;> omega

theorem hamming_lt (w : Nat) : hamming w < 2 ^ 7 := hammingBelow_lt w le_rfl

theorem hamming_xor (v w : Nat) : hamming (v ^^^ w) = hamming v ^^^ hamming w := hammingBelow_xor 64 v w

@[simp] theorem hamming_zero : hamming 0 = 0 := by
  simpa using hamming_xor 0 0

theorem hamming_two_pow {i : Nat} (h : i < 64) : hamming (2 ^ i) = dataPos i := by
  rw [hamming_eq, hammingBelow_two_pow, if_pos h]

/-- Each of c0 to c6 is the parity of the data bits whose position has that bit set (R377). -/
theorem bitOf_hamming (w j : Nat) :
    bitOf (hamming w) j = (List.range 64).foldl (fun p i => p != (bitOf w i && bitOf (dataPos i) j)) false := by
  have hstep (a i : Nat) : (bitOf a j != (bitOf w i && bitOf (dataPos i) j)) =
      bitOf (if bitOf w i then Nat.xor a (dataPos i) else a) j := by
    cases bitOf w i
    · simp
    · exact (bitOf_xor a (dataPos i) j).symm
  have hzero : bitOf 0 j = false := by simp [bitOf]
  rw [← hzero]
  exact (List.foldl_hom (bitOf · j) hstep).symm

/-! ### The check byte -/

theorem checkByte_lt (w : Nat) : checkByte w < 256 := by
  have h := hamming_lt w
  have hn : ∀ b, natOf b ≤ 1 := by decide
  have := hn (popParity 64 w != popParity 7 (hamming w))
  unfold checkByte
  omega

theorem checkByte_mod (w : Nat) : checkByte w % 2 ^ 7 = hamming w := by
  have h := hamming_lt w
  unfold checkByte
  omega

theorem popParity_checkByte (w : Nat) : popParity 7 (checkByte w) = popParity 7 (hamming w) := by
  rw [← checkByte_mod, popParity_mod_two_pow _ le_rfl]

theorem bitOf_checkByte {j : Nat} (w : Nat) (h : j < 7) : bitOf (checkByte w) j = bitOf (hamming w) j := by
  rw [← checkByte_mod, bitOf_mod_two_pow h]

/-- The word 0 with the check byte 0 is a codeword (R377). -/
theorem checkByte_zero : checkByte 0 = 0 := by
  simp [checkByte, natOf]

/-- Bit c7 is the parity of the word and of c0 to c6 (R377). -/
theorem bitOf_checkByte_seven (w : Nat) : bitOf (checkByte w) 7 = (popParity 64 w != popParity 7 (checkByte w)) := by
  have h := hamming_lt w
  rw [popParity_checkByte]
  unfold checkByte bitOf natOf
  cases popParity 64 w != popParity 7 (hamming w) <;> simp <;> omega

/-! ### Syndrome and parity of a stored word -/

theorem eccS_eq (w c : Nat) : eccS w c = c % 2 ^ 7 ^^^ hamming w := rfl

theorem eccS_lt (w c : Nat) : eccS w c < 128 :=
  Nat.xor_lt_two_pow (n := 7) (Nat.mod_lt _ (by decide)) (hamming_lt w)

theorem eccS_xor (w x c y : Nat) : eccS (w ^^^ x) (c ^^^ y) = eccS w c ^^^ eccS x y := by
  simp only [eccS_eq, hamming_xor, Nat.xor_mod_two_pow]
  ac_rfl

theorem eccP_xor (w x c y : Nat) : eccP (w ^^^ x) (c ^^^ y) = (eccP w c != eccP x y) := by
  simp only [eccP, popParity_xor, Bool.bne_eq_xor, Bool.xor_assoc, Bool.xor_left_comm]

/-- Bit j of the syndrome compares the stored cj with the one computed again (R378). -/
theorem bitOf_eccS {j : Nat} (w c : Nat) (h : j < 7) : bitOf (eccS w c) j = (bitOf c j != bitOf (checkByte w) j) := by
  rw [eccS_eq, bitOf_xor, bitOf_mod_two_pow h, bitOf_checkByte w h]

theorem eccS_checkByte (w : Nat) : eccS w (checkByte w) = 0 := by
  rw [eccS_eq, checkByte_mod, Nat.xor_self]

theorem eccP_checkByte (w : Nat) : eccP w (checkByte w) = false := by
  rw [eccP, popParity_succ 7, bitOf_checkByte_seven]
  cases popParity 64 w <;> cases popParity 7 (checkByte w) <;> rfl

/-- The syndrome of a codeword with the bits of `x` and `y` flipped is that of the flipped bits. -/
theorem eccS_flipped (w x y : Nat) : eccS (w ^^^ x) (checkByte w ^^^ y) = eccS x y := by
  rw [eccS_xor, eccS_checkByte, Nat.zero_xor]

/-- The parity of a codeword with the bits of `x` and `y` flipped is that of the flipped bits. -/
theorem eccP_flipped (w x y : Nat) : eccP (w ^^^ x) (checkByte w ^^^ y) = eccP x y := by
  rw [eccP_xor, eccP_checkByte, Bool.false_bne]

/-! ### The "Decode outcomes" table -/

section DecodeOutcomes

variable {w c : Nat}

theorem eccDecode_clean (hp : eccP w c = false) (hs : eccS w c = 0) : eccDecode w c = .clean := by
  simp [eccDecode, hp, hs]

theorem eccDecode_even (hp : eccP w c = false) (hs : eccS w c ≠ 0) : eccDecode w c = .uncorrectable := by
  simp [eccDecode, hp, hs]

theorem eccDecode_beyond (hp : eccP w c = true) (hs : 71 < eccS w c) : eccDecode w c = .uncorrectable := by
  have hne : eccS w c ≠ 0 := by omega
  simp [eccDecode, hp, hne, Nat.not_le_of_lt hs]

theorem eccDecode_parityBit (hp : eccP w c = true) (hs : eccS w c = 0) : eccDecode w c = .corrected w := by
  simp [eccDecode, hp, hs]

theorem eccDecode_dataBit {i : Nat} (hi : i < 64) (hp : eccP w c = true) (hs : eccS w c = dataPos i) :
    eccDecode w c = .corrected (withBit w i (!bitOf w i)) := by
  simp [eccDecode, hp, hs, (dataPos_pos i).ne', dataPos_le hi, posData_dataPos hi]

theorem eccDecode_checkBit {j : Nat} (hj : j < 7) (hp : eccP w c = true) (hs : eccS w c = 2 ^ j) :
    eccDecode w c = .corrected w := by
  have hle : 2 ^ j ≤ 71 := (Nat.pow_le_pow_right (by decide) (Nat.le_of_lt_succ hj)).trans (by decide : 2 ^ 6 ≤ 71)
  simp [eccDecode, hp, hs, hle, posData_two_pow hj]

end DecodeOutcomes

/-! ### Flipped bits of a codeword -/

/-- A flipped data bit is named by the syndrome, and decoding flips it back. -/
theorem eccDecode_flip_data {i : Nat} (w : Nat) (hi : i < 64) :
    eccDecode (withBit w i (!bitOf w i)) (checkByte w) = .corrected w := by
  rw [withBit_not]
  have hp : eccP (w ^^^ 2 ^ i) (checkByte w) = true := by
    simpa [eccP, popParity_two_pow, hi] using eccP_flipped w (2 ^ i) 0
  have hs : eccS (w ^^^ 2 ^ i) (checkByte w) = dataPos i := by
    simpa [eccS_eq, hamming_two_pow hi] using eccS_flipped w (2 ^ i) 0
  rw [eccDecode_dataBit hi hp hs, withBit_not, Nat.xor_xor_cancel_right]

/-- A flipped check bit leaves the data: c7 has syndrome 0, the others their own position. -/
theorem eccDecode_flip_check {j : Nat} (w : Nat) (hj : j < 8) :
    eccDecode w (withBit (checkByte w) j (!bitOf (checkByte w) j)) = .corrected w := by
  rw [withBit_not]
  have hp : eccP w (checkByte w ^^^ 2 ^ j) = true := by
    simpa [eccP, popParity_two_pow, hj] using eccP_flipped w 0 (2 ^ j)
  have hs : eccS w (checkByte w ^^^ 2 ^ j) = 2 ^ j % 2 ^ 7 := by
    simpa [eccS_eq] using eccS_flipped w 0 (2 ^ j)
  rcases Nat.lt_succ_iff_lt_or_eq.1 hj with h | rfl
  · rw [Nat.mod_eq_of_lt (Nat.pow_lt_pow_right (by decide) h)] at hs
    exact eccDecode_checkBit h hp hs
  · exact eccDecode_parityBit hp hs

/-- An even number of flipped bits whose positions do not cancel is uncorrectable (R408). -/
theorem eccDecode_flip_even {x y : Nat} (w : Nat) (hp : eccP x y = false) (hs : eccS x y ≠ 0) :
    eccDecode (w ^^^ x) (checkByte w ^^^ y) = .uncorrectable :=
  eccDecode_even ((eccP_flipped w x y).trans hp) ((eccS_flipped w x y).trans_ne hs)

theorem eccDecode_flip_two_data {i k : Nat} (w : Nat) (hi : i < 64) (hk : k < 64) (h : i ≠ k) :
    eccDecode (withBit (withBit w i (!bitOf w i)) k (!bitOf w k)) (checkByte w) = .uncorrectable := by
  rw [withBit_not_withBit_not h]
  rw [← Nat.xor_zero (checkByte w)]
  refine eccDecode_flip_even w ?_ ?_
  · simp [eccP, popParity_xor, popParity_two_pow, hi, hk]
  · simpa [eccS_eq, hamming_xor, hamming_two_pow hi, hamming_two_pow hk] using dataPos_strictMono.injective.ne h

theorem eccDecode_flip_data_check {i j : Nat} (w : Nat) (hi : i < 64) (hj : j < 8) :
    eccDecode (withBit w i (!bitOf w i)) (withBit (checkByte w) j (!bitOf (checkByte w) j)) = .uncorrectable := by
  rw [withBit_not, withBit_not]
  refine eccDecode_flip_even w ?_ ?_
  · simp [eccP, popParity_two_pow, hi, hj]
  · rw [eccS_eq, hamming_two_pow hi, Nat.xor_ne_zero_iff]
    rcases Nat.lt_succ_iff_lt_or_eq.1 hj with h | rfl
    · rw [Nat.mod_eq_of_lt (Nat.pow_lt_pow_right (by decide) h)]
      exact (dataPos_ne_two_pow i h).symm
    · exact (dataPos_pos i).ne

theorem eccDecode_flip_two_check {i j : Nat} (w : Nat) (hi : i < 8) (hj : j < 8) (h : i ≠ j) :
    eccDecode w (withBit (withBit (checkByte w) i (!bitOf (checkByte w) i)) j (!bitOf (checkByte w) j)) = .uncorrectable := by
  rw [withBit_not_withBit_not h]
  have hflip := eccDecode_flip_even (x := 0) (y := 2 ^ i ^^^ 2 ^ j) w ?parity ?syndrome
  · rwa [Nat.xor_zero] at hflip
  case parity => simp [eccP, popParity_xor, popParity_two_pow, hi, hj]
  case syndrome =>
    have hpos : ∀ i < 8, ∀ j < 8, i ≠ j → 2 ^ i % 2 ^ 7 ≠ 2 ^ j % 2 ^ 7 := by decide
    rw [eccS_eq, Nat.xor_mod_two_pow, hamming_zero, Nat.xor_zero, Nat.xor_ne_zero_iff]
    exact hpos i hi j hj h

/-- Settles O56: the check bits and the table from their equations, the flipped bits from the linearity of syndrome and parity. -/
theorem checkCode : Obligations.CheckCode := by
  unfold Obligations.CheckCode
  refine ⟨fun w _ => ⟨checkByte_lt w, fun j hj => ?bits, bitOf_checkByte_seven w⟩, checkByte_zero,
    fun w _ c _ => ⟨eccS_lt w c, fun j hj => bitOf_eccS w c hj, rfl⟩,
    fun w c => ⟨eccDecode_clean, eccDecode_even, eccDecode_beyond, eccDecode_parityBit, fun i hi => eccDecode_dataBit hi,
      fun j hj => eccDecode_checkBit hj⟩,
    fun w _ => ⟨?clean, fun i hi => eccDecode_flip_data w hi, fun j hj => eccDecode_flip_check w hj,
      fun i hi k hk h => eccDecode_flip_two_data w hi hk h, fun i hi j hj => eccDecode_flip_data_check w hi hj,
      fun i hi j hj h => eccDecode_flip_two_check w hi hj h⟩⟩
  case bits => rw [bitOf_checkByte w hj, bitOf_hamming]
  case clean => exact eccDecode_clean (eccP_checkByte w) (eccS_checkByte w)

end Sys2Proof.Machine

/-! SUPPORT. Raising an event (chapter 21): which bits and registers a raise leaves, what a raise does to the list of raise latches, and
what the raised device reads. -/

namespace Sys2Proof.Machine

/-! ### A bit that is stored -/

/-- Storing the bit that is there changes nothing. -/
theorem withBit_bitOf (v i : Nat) : withBit v i (bitOf v i) = v := by
  have hle : v / 2 ^ i % 2 * 2 ^ i ≤ v :=
    (Nat.mul_le_mul_right _ (Nat.mod_le _ _)).trans (Nat.div_mul_le_self _ _)
  have hbit : natOf (bitOf v i) = v / 2 ^ i % 2 := by
    rcases Nat.mod_two_eq_zero_or_one (v / 2 ^ i) with h | h <;> simp [bitOf, natOf, h]
  simp [withBit, withBits, bitsOf, hbit, Nat.sub_add_cancel hle]

theorem bitOf_withBit (v i j : Nat) (b : Bool) : bitOf (withBit v i b) j = if i = j then b else bitOf v j := by
  by_cases hb : b = bitOf v i
  · subst hb
    rw [withBit_bitOf]
    split
    · next h => rw [h]
    · rfl
  · obtain rfl : b = !bitOf v i := Bool.eq_not.2 hb
    rw [withBit_not, bitOf_xor, bitOf_two_pow]
    by_cases h : i = j <;> simp [h]

/-! ### The registers of the hub -/

theorem Reg.evtStatus_inj {i j : Nat} : Reg.evtStatus i = Reg.evtStatus j ↔ i = j := by
  unfold Reg.evtStatus
  omega

theorem Reg.evtStatus_ne_evtEnable {e : Nat} (he : e < 512) (x : Nat) : Reg.evtStatus (e / 32) ≠ Reg.evtEnable x := by
  unfold Reg.evtStatus Reg.evtEnable
  omega

theorem Reg.evtStatus_ne_evtRoute {e : Nat} (he : e < 512) (x : Nat) : Reg.evtStatus (e / 32) ≠ Reg.evtRoute x := by
  unfold Reg.evtStatus Reg.evtRoute
  omega

theorem Reg.evtStatus_ne_turnCountLo (i : Nat) : Reg.evtStatus i ≠ Reg.turnCountLo := by
  unfold Reg.evtStatus Reg.turnCountLo
  omega

/-- `r` is no register that a SCRIBE trigger writes. -/
def NotScribeReg (r : Nat) : Prop := r ≠ Reg.scribeGen ∧ r ≠ Reg.scribeStatus

theorem notScribeReg_of_lt {r : Nat} (h : Reg.scribeGen < r) : NotScribeReg r := by
  unfold NotScribeReg
  unfold Reg.scribeGen Reg.scribeStatus at *
  omega

theorem notScribeReg_evtStatus (i : Nat) : NotScribeReg (Reg.evtStatus i) :=
  notScribeReg_of_lt (Nat.lt_add_right _ (by decide))

theorem notScribeReg_evtEnable (i : Nat) : NotScribeReg (Reg.evtEnable i) :=
  notScribeReg_of_lt (Nat.lt_add_right _ (by decide))

theorem notScribeReg_evtRoute (i : Nat) : NotScribeReg (Reg.evtRoute i) :=
  notScribeReg_of_lt (Nat.lt_add_right _ (by decide))

/-! ### What a SCRIBE trigger leaves -/

/-- The raise latches of `e` are those of `d`, and so are its registers but for those that a SCRIBE trigger writes. -/
def HubFrame (d e : Device) : Prop := e.latches = d.latches ∧ ∀ r, NotScribeReg r → e.rd r = d.rd r

theorem HubFrame.of_eq {d e : Device} (hr : e.regs = d.regs) (hl : e.latches = d.latches) : HubFrame d e :=
  ⟨hl, fun r _ => congrArg (fun m => (Sparse.get regReset m r).toNat) hr⟩

theorem HubFrame.refl (d : Device) : HubFrame d d := .of_eq rfl rfl

theorem HubFrame.trans {d e f : Device} (h : HubFrame d e) (g : HubFrame e f) : HubFrame d f :=
  ⟨g.1.trans h.1, fun r hr => (g.2 r hr).trans (h.2 r hr)⟩

theorem HubFrame.ite {c : Prop} [Decidable c] {d e f : Device} (h : HubFrame d e) (g : HubFrame d f) :
    HubFrame d (if c then e else f) := by
  split
  · exact h
  · exact g

theorem HubFrame.ite_self {c : Prop} [Decidable c] {d e : Device} (h : HubFrame d e) : HubFrame d (if c then e else d) :=
  .ite h (.refl d)

theorem HubFrame.scribe (d : Device) (s : ScribeUnit) : HubFrame d { d with scribe := s } := .of_eq rfl rfl

theorem HubFrame.wr (d : Device) {a : Nat} (v : Nat) (ha : ¬ NotScribeReg a) : HubFrame d (d.wr a v) := by
  refine ⟨rfl, fun r hr => ?_⟩
  rw [Device.rd_wr, if_neg]
  rintro rfl
  exact ha hr

theorem HubFrame.pendAligned (d : Device) (tick : Option Nat) : HubFrame d (d.pendAligned tick) :=
  .ite (.refl d) ((HubFrame.wr d _ fun h => h.2 rfl).trans (.scribe _ _))

theorem HubFrame.trigger (d : Device) (src edge : Nat) (aligned : Bool) (tick : Option Nat) :
    HubFrame d (d.trigger src edge aligned tick) := by
  have count (e : Device) : HubFrame e ((e.wr Reg.scribeGen (e.rd Reg.scribeGen + 1)).setFld Fld.scribeStatusLastSrc src) :=
    (HubFrame.wr e _ fun h => h.1 rfl).trans (.wr _ _ fun h => h.2 rfl)
  unfold Device.trigger
  refine .ite (.refl d) (.ite (.trans ?sent (.pendAligned _ _)) (.trans ?sent (.scribe _ _)))
  case sent =>
    refine .trans ?_ (.ite_self (.of_eq rfl rfl))
    refine .trans ?_ (.ite_self (.of_eq rfl rfl))
    exact .trans (.scribe d _) (count _)

/-! ### The list of raise latches -/

theorem mem_latchInsert {l : List RaiseLatch} {x y : RaiseLatch} : y ∈ latchInsert l x ↔ y = x ∨ y ∈ l := by
  induction l with
  | nil => simp [latchInsert]
  | cons z t ih =>
    unfold latchInsert
    split
    · simp
    · simp [ih, or_left_comm]

/-- A latch of a further event takes its place in the order of event numbers. -/
theorem pairwise_latchInsert {l : List RaiseLatch} {x : RaiseLatch} (hl : l.Pairwise fun a b => a.event < b.event)
    (hx : ∀ y ∈ l, y.event ≠ x.event) : (latchInsert l x).Pairwise fun a b => a.event < b.event := by
  induction l with
  | nil => simp [latchInsert]
  | cons z t ih =>
    obtain ⟨hz, ht⟩ := List.pairwise_cons.1 hl
    obtain ⟨hzx, htx⟩ := List.forall_mem_cons.1 hx
    unfold latchInsert
    split
    · next hlt => exact List.pairwise_cons.2 ⟨List.forall_mem_cons.2 ⟨hlt, fun y hy => hlt.trans (hz y hy)⟩, hl⟩
    · next hge =>
      refine List.pairwise_cons.2 ⟨fun y hy => ?_, ih ht htx⟩
      rcases mem_latchInsert.1 hy with rfl | hy
      · omega
      · exact hz y hy

section LatchRaise

variable {l : List RaiseLatch} {e : Nat} {syn : BitVec 64} {turn route : BitVec 32}

theorem latchRaise_of_absent (h : ∀ y ∈ l, y.event ≠ e) :
    latchRaise l e syn turn route = latchInsert l ⟨e, syn, turn, route, 0⟩ :=
  if_neg (by simpa using h)

theorem latchRaise_of_present (h : ∃ y ∈ l, y.event = e) : latchRaise l e syn turn route =
    l.map fun x => if x.event = e then ⟨e, syn, turn, route, satInc 255 x.merge⟩ else x :=
  if_pos (by simpa using h)

/-- After a raise the latches are those of other events, and one for each of this event that was set, or a new one where none was. -/
theorem mem_latchRaise {x : RaiseLatch} : x ∈ latchRaise l e syn turn route ↔
    (x ∈ l ∧ x.event ≠ e) ∨ (∃ y ∈ l, y.event = e ∧ x = ⟨e, syn, turn, route, satInc 255 y.merge⟩) ∨
      ((∀ y ∈ l, y.event ≠ e) ∧ x = ⟨e, syn, turn, route, 0⟩) := by
  by_cases h : ∃ y ∈ l, y.event = e
  · have hset : ¬ ∀ y ∈ l, y.event ≠ e := by simpa using h
    rw [latchRaise_of_present h, List.mem_map]
    constructor
    · rintro ⟨y, hy, rfl⟩
      by_cases he : y.event = e
      · exact .inr (.inl ⟨y, hy, he, if_pos he⟩)
      · rw [if_neg he]
        exact .inl ⟨hy, he⟩
    · rintro (⟨hx, he⟩ | ⟨y, hy, he, rfl⟩ | ⟨hno, -⟩)
      · exact ⟨x, hx, if_neg he⟩
      · exact ⟨y, hy, if_pos he⟩
      · exact absurd hno hset
  · have hno : ∀ y ∈ l, y.event ≠ e := by simpa using h
    rw [latchRaise_of_absent hno, mem_latchInsert]
    constructor
    · rintro (rfl | hx)
      · exact .inr (.inr ⟨hno, rfl⟩)
      · exact .inl ⟨hx, hno x hx⟩
    · rintro (⟨hx, -⟩ | ⟨y, hy, he, -⟩ | ⟨-, rfl⟩)
      · exact .inr hx
      · exact absurd he (hno y hy)
      · exact .inl rfl

/-- A raise keeps the latches in the order of event numbers. -/
theorem pairwise_latchRaise (hl : l.Pairwise fun a b => a.event < b.event) :
    (latchRaise l e syn turn route).Pairwise fun a b => a.event < b.event := by
  by_cases h : ∃ y ∈ l, y.event = e
  · have hevent (x : RaiseLatch) :
        (if x.event = e then (⟨e, syn, turn, route, satInc 255 x.merge⟩ : RaiseLatch) else x).event = x.event := by
      split
      · next he => exact he.symm
      · rfl
    rw [latchRaise_of_present h, List.pairwise_map]
    simpa only [hevent] using hl
  · have hno : ∀ y ∈ l, y.event ≠ e := by simpa using h
    rw [latchRaise_of_absent hno]
    exact pairwise_latchInsert hl hno

end LatchRaise

/-! ### The raised device -/

/-- The device with the raise latch of event `e` set or merged, where ENABLE is 1. -/
def Device.latched (d : Device) (e syn : Nat) : Device :=
  if d.evtEnable e then
    { d with latches := latchRaise d.latches e (BitVec.ofNat 64 syn) (BitVec.ofNat 32 (d.rd Reg.turnCountLo))
               (BitVec.ofNat 32 (d.rd (Reg.evtRoute e))) }
  else d

theorem Device.rd_latched (d : Device) (e syn r : Nat) : (d.latched e syn).rd r = d.rd r := by
  unfold Device.latched
  split <;> rfl

theorem Device.latched_latches (d : Device) (e syn : Nat) : (d.latched e syn).latches =
    if d.evtEnable e then latchRaise d.latches e (BitVec.ofNat 64 syn) (BitVec.ofNat 32 (d.rd Reg.turnCountLo))
      (BitVec.ofNat 32 (d.rd (Reg.evtRoute e))) else d.latches := by
  unfold Device.latched
  split <;> rfl

/-- The device with the STATUS bit of event `e` set. -/
def Device.withStatus (d : Device) (e : Nat) : Device :=
  d.wr (Reg.evtStatus (e / 32)) (withBit (d.rd (Reg.evtStatus (e / 32))) (e % 32) true)

theorem Device.rd_withStatus_of_ne {d : Device} {e r : Nat} (h : Reg.evtStatus (e / 32) ≠ r) : (d.withStatus e).rd r = d.rd r := by
  rw [Device.withStatus, Device.rd_wr, if_neg h]

theorem Device.evtEnable_withStatus {d : Device} {e : Nat} (he : e < 512) (x : Nat) :
    (d.withStatus e).evtEnable x = d.evtEnable x :=
  congrArg (bitOf · (x % 32)) (Device.rd_withStatus_of_ne (Reg.evtStatus_ne_evtEnable he _))

/-- The event's own STATUS bit is set and every other is left (R837). -/
theorem Device.evtStatus_withStatus (d : Device) (e x : Nat) : (d.withStatus e).evtStatus x = (decide (e = x) || d.evtStatus x) := by
  unfold Device.evtStatus
  by_cases hw : e / 32 = x / 32
  · have hx : e % 32 = x % 32 ↔ e = x := by omega
    rw [Device.withStatus, Device.rd_wr, if_pos (Reg.evtStatus_inj.2 hw), bitOf_mod_two_pow (Nat.mod_lt _ (by decide)),
      bitOf_withBit, hw]
    by_cases h : e = x <;> simp [hx, h]
  · have hne : e ≠ x := fun h => hw (by rw [h])
    rw [Device.rd_withStatus_of_ne (mt Reg.evtStatus_inj.1 hw), decide_eq_false hne, Bool.false_or]

/-- A raise sets STATUS, then the latch; what may follow is a SCRIBE trigger. -/
theorem HubFrame.raiseSyn (d : Device) (e syn : Nat) : HubFrame ((d.withStatus e).latched e syn) (d.raiseSyn e syn) :=
  .ite_self (.trigger _ _ _ _ _)

section RaiseSyn

variable {d : Device} {e : Nat} (syn : Nat)

/-- Of the hub's registers a raise writes the one word of STATUS. -/
theorem Device.rd_raiseSyn {r : Nat} (hr : NotScribeReg r) : (d.raiseSyn e syn).rd r = (d.withStatus e).rd r := by
  rw [(HubFrame.raiseSyn d e syn).2 r hr, Device.rd_latched]

theorem Device.evtStatus_raiseSyn (x : Nat) : (d.raiseSyn e syn).evtStatus x = (decide (e = x) || d.evtStatus x) := by
  rw [← Device.evtStatus_withStatus]
  exact congrArg (bitOf · (x % 32)) (Device.rd_raiseSyn syn (notScribeReg_evtStatus _))

theorem Device.evtEnable_raiseSyn (he : e < 512) (x : Nat) : (d.raiseSyn e syn).evtEnable x = d.evtEnable x := by
  rw [← Device.evtEnable_withStatus (d := d) he]
  exact congrArg (bitOf · (x % 32)) (Device.rd_raiseSyn syn (notScribeReg_evtEnable _))

theorem Device.rd_evtRoute_raiseSyn (he : e < 512) (x : Nat) :
    (d.raiseSyn e syn).rd (Reg.evtRoute x) = d.rd (Reg.evtRoute x) := by
  rw [Device.rd_raiseSyn syn (notScribeReg_evtRoute _), Device.rd_withStatus_of_ne (Reg.evtStatus_ne_evtRoute he _)]

/-- ENABLE, the turn and the route that govern the raise are those before it (R838). -/
theorem Device.raiseSyn_latches (he : e < 512) : (d.raiseSyn e syn).latches = (d.latched e syn).latches := by
  rw [(HubFrame.raiseSyn d e syn).1, Device.latched_latches, Device.latched_latches, Device.evtEnable_withStatus he,
    Device.rd_withStatus_of_ne (Reg.evtStatus_ne_turnCountLo _), Device.rd_withStatus_of_ne (Reg.evtStatus_ne_evtRoute he _)]
  rfl

/-- With ENABLE 0 a raise drives no level output: the one STATUS bit that it may change counts for none (R842). -/
theorem Device.anyRouted_raiseSyn (he : e < 512) (hen : d.evtEnable e = false) (l : List Nat) (b : Nat) :
    (d.raiseSyn e syn).anyRouted l b = d.anyRouted l b := by
  unfold Device.anyRouted
  congr 1
  funext x
  rw [Device.evtStatus_raiseSyn, Device.evtEnable_raiseSyn syn he, Device.rd_evtRoute_raiseSyn syn he]
  by_cases h : e = x
  · simp [← h, hen]
  · simp [h]

end RaiseSyn

/-- Settles O59: STATUS by `Device.evtStatus_raiseSyn`, the levels by `Device.anyRouted_raiseSyn`, the latches by `mem_latchRaise`. -/
theorem eventRaises : Obligations.EventRaises := by
  unfold Obligations.EventRaises
  refine ⟨fun d e syn _ => ?status, fun d e syn he hen => ⟨?unlatched, d.anyRouted_raiseSyn syn he hen _ _,
    d.anyRouted_raiseSyn syn he hen _ _, d.anyRouted_raiseSyn syn he hen _ _⟩, ?enabled, fun _ _ _ => ⟨rfl, rfl⟩⟩
  case status => simp [Device.evtStatus_raiseSyn]
  case unlatched => simp [Device.raiseSyn_latches syn he, Device.latched_latches, hen]
  case enabled =>
    rintro d e syn turn route he hen rfl rfl
    rw [Device.raiseSyn_latches syn he, Device.latched_latches, if_pos hen]
    refine ⟨fun hno => ?new, fun y hy hye => ?merged, fun x hx hxe => ?own, fun y hy => ?others, pairwise_latchRaise⟩
    case new => exact mem_latchRaise.2 (.inr (.inr ⟨hno, rfl⟩))
    case merged => exact mem_latchRaise.2 (.inr (.inl ⟨y, hy, hye, rfl⟩))
    case own =>
      rcases mem_latchRaise.1 hx with ⟨-, hne⟩ | ⟨y, -, -, rfl⟩ | ⟨-, rfl⟩
      · exact absurd hxe hne
      · exact ⟨rfl, rfl, rfl⟩
      · exact ⟨rfl, rfl, rfl⟩
    case others =>
      rw [mem_latchRaise]
      constructor
      · rintro (⟨hl, -⟩ | ⟨z, -, -, rfl⟩ | ⟨-, rfl⟩)
        · exact hl
        · exact absurd rfl hy
        · exact absurd rfl hy
      · exact fun hl => .inl ⟨hl, hy⟩

end Sys2Proof.Machine
